-- ==== Sys2Proof/Word.lean ====
section
/-! DEFINITION. The word types of the THR-1024 model. -/
namespace Sys2Proof

/-- A byte of a packet, of the control fabric's memory or of a lane. -/
abbrev Byte := BitVec 8

/-- A 16-bit field: an opcode, a tag, a claim. -/
abbrev Half := BitVec 16

/-- A 32-bit word: a register, a slot word, an FP32 value, a handle. -/
abbrev Word := BitVec 32

/-- A sparse table in one canonical form: keys strictly rising, and no entry equal to what an unlisted key
reads as. The operations are in Machine/Cells.lean. -/
abbrev Cells (α : Type) := List (Nat × α)

end Sys2Proof
end

