-- ==== Sys2Proof/Syntax.lean ====
section
/-! DEFINITION. The commands of the THR-1024: one constructor of `Instr` for each row of spec/opcode_table.json, and the
data they carry. A row that is a host command carries the request it came in (`Req`) and its parameters; a row that is an
event of the engine or of a partner carries the DCLK cycle of the batch at which it happens (`c`) and what it brings. -/
namespace Sys2Proof

/-- What every host command carries besides its parameters: the DCLK cycle of the present batch at which its staging write
completes (R18), the channel that carries it (R33), its TAG (R44), whether PCRC is set (R46), the retry key (R41), and for a
command forwarded over channel 3 the target batch (R314). -/
structure Req where
  c      : Nat
  ch     : Fin 4
  tag    : Half
  pcrc   : Bool
  key    : Half
  target : Option Word
  deriving DecidableEq, Repr

/-- The masters of the control fabric (R361). -/
inductive Master where
  | sup | hlp0 | hlp1 | hlp2 | hdma | mir | dbg
  deriving DecidableEq, Repr

/-- An IPv4 address and UDP port (R40). -/
structure Peer where
  ip   : Word
  port : Half
  deriving DecidableEq, Repr

/-- A UDP datagram as the MAC delivers it (R39): its fragments, already in one piece, and where it came from. -/
structure Datagram where
  mac   : Fin 2
  port  : Half
  src   : Peer
  frags : Nat
  bytes : List Byte
  deriving DecidableEq, Repr

/-- One entry of PARAM_WRITE (R93). -/
structure ParamEntry where
  id    : Nat
  ramp  : Nat
  value : Word
  deriving DecidableEq, Repr

/-- One entry of XP_SET (R152). -/
structure XpEntry where
  src  : Nat
  dst  : Nat
  gain : Word
  ramp : Nat
  deriving DecidableEq, Repr

/-- One entry of ROUTE_SET (R152). -/
structure RouteEntry where
  src  : Nat
  gain : Word
  deriving DecidableEq, Repr

/-- One entry of DELAY_SET (R152). -/
structure DelayEntry where
  line  : Nat
  ramp  : Nat
  delay : Nat
  deriving DecidableEq, Repr

/-- The fields of DYN_SET (R152). -/
structure DynFields where
  thresh  : Word
  ratio   : Word
  knee    : Word
  attack  : Word
  release : Word
  makeup  : Word
  flags   : Nat
  ramp    : Nat
  deriving DecidableEq, Repr

/-- The fields of AES_STREAM_SET (R277). -/
structure AesFields where
  enable  : Nat
  pt      : Nat
  group   : Word
  udpPort : Nat
  delay   : Nat
  rtpOff  : Word
  ssrc    : Word
  deriving DecidableEq, Repr

/-- A frame on an SAI port (R154, R158, R164): whether its FS edge falls at the right BCK count, the words received on the
port's input channels (MSB-aligned), the sample position within the batch, and the deviation of the alignment buffer's
write position from its centre, in samples. -/
structure SaiFrame where
  fsGood : Bool
  words  : List Word
  pos    : Nat
  wpos   : Int
  deriving DecidableEq, Repr

/-- What a memory error does to an access of a core (R99). -/
inductive Ecc where
  | clean
  | corrected
  | uncorrectable
  deriving DecidableEq, Repr

/-- A return frame of a stage module (R191): whether its K-codes stand, symbols 2 to 61, and the measured one-way flight in
edge steps (R189). -/
structure ReturnFrame where
  kOk    : Bool
  syms   : List Byte
  flight : Nat
  deriving DecidableEq, Repr

/-- A batch frame received on a trunk lane (R232): symbol checks, the 14 header bytes of symbols 2 to 15, whether the CRC-32
over symbols 32 to 73,760 passes, the code errors in the fill (R230), the payload words by 8 × channel + word, the message area up to its
end, and the instant at which symbol 0 was detected, in RCLK periods from the start of the present batch (R241, R242). -/
structure TrunkFrame where
  comma   : Bool
  kOk     : Bool
  fillErrs : Nat
  header  : List Byte
  crcOk   : Bool
  payload : Cells Word
  msgs    : List Byte
  det     : Int
  deriving DecidableEq, Repr

/-- An RTP packet (R272). -/
structure RtpPacket where
  group   : Word
  port    : Nat
  pt      : Nat
  ssrc    : Word
  seq     : Nat
  ts      : Word
  samples : List (List Word)
  rxTime  : Nat
  deriving DecidableEq, Repr

/-- What a received Ethernet frame carries (R261). -/
inductive EthBody where
  | arp (request : Bool) (forUs : Bool)
  | icmpEcho (dataLen : Nat)
  | igmpQuery
  | udpCommand (port : Half)
  | ptp (msgType : Nat) (seqId : Nat) (slaveSample : Option Int)
  | rtp (p : RtpPacket)
  | lldp (twReq : Nat) (echoed : Bool)
  | pause (quanta : Nat)
  | macControl (opcode : Nat)
  | other
  deriving DecidableEq, Repr

/-- A received Ethernet frame: its length from destination address through FCS, whether its FCS passes, its outer tag (the
VID) and its body. -/
structure EthFrame where
  len   : Nat
  fcsOk : Bool
  vid   : Option Nat
  body  : EthBody
  deriving DecidableEq, Repr

/-- A twin-lane frame (R310, R311): whether its comma stands, symbols 2 to 13, its cells (TYPE, INDEX, 64 data bytes, HCRC),
and for bring-up what a trunk frame carries: messages, and the instant at which symbol 0 was detected. -/
structure TwinFrame where
  comma  : Bool
  header : List Byte
  cells  : List (List Byte)
  msgs   : List Byte
  det    : Int
  deriving DecidableEq, Repr

/-- A mirror record (R315). -/
structure MirrorRec where
  space : Nat
  addr  : Word
  words : List Word
  deriving DecidableEq, Repr

/-- What the clock helper measures of one source in 100 ms (R280): its code, whether its signal is present, its mean offset in
0.001 ppm, its phase error in ps, and its alignment offset in RCLK periods (R298). -/
structure ClkMeas where
  source : Nat
  sig    : Bool
  freq   : Int
  pherr  : Int
  phase  : Int
  deriving DecidableEq, Repr

/-- A transfer or burst of a fabric master (R364). -/
structure FabReq where
  addr   : Word
  write  : Bool
  size   : Nat
  beats  : Nat
  wrap   : Bool
  lock   : Bool
  data   : List Word
  rivals : List Master
  deriving DecidableEq, Repr

/-- What a link change brings (R256, R275): whether the link is up, and what a negotiation gave. -/
structure LinkChange where
  up    : Bool
  full  : Bool
  pause : Bool
  deriving DecidableEq, Repr

/-- An operand of an event that carries nothing: what the event reports is computed by the engine and stands in State. -/
abbrev Measured := Unit

/-- The commands, in the order of spec/opcode_table.json. -/
inductive Instr where
  -- transport (chapter 02)
  | readStatus (c : Nat)
  | put (c : Nat) (bytes : List Byte)
  | get (c : Nat) (clocks : Nat)
  | qspiBadInstruction (c : Nat) (instr : Byte)
  | udpDatagram (c : Nat) (d : Datagram)
  | fragTimeout (c : Nat) (mac : Fin 2) (port : Half)
  | completionResend (c : Nat) (ch : Fin 4) (seq : Half)
  -- system, register and diagnostic commands
  | sysNop (r : Req)
  | sysInfo (r : Req)
  | deviceReset (r : Req) (confirm : Half)
  | controlReset (r : Req)
  | sysAbort (r : Req) (handle : Word)
  | sysComplAck (r : Req) (handles : List Word)
  | sysResultRead (r : Req) (handle : Word) (offset count : Nat)
  | regRead (r : Req) (addr : Word) (count : Nat)
  | regWrite (r : Req) (addr : Word) (words : List Word)
  | regModify (r : Req) (addr mask value : Word)
  | registerWrite (c : Nat) (m : Master) (addr value : Word)
  | diagEcho (r : Req) (bytes : List Byte)
  | diagCounters (r : Req) (clear : Nat)
  | diagRomCheck (r : Req)
  | diagRomCheckDone (c : Nat) (computed : Word)
  | diagScrub (r : Req) (region : Nat)
  | diagScrubDone (c : Nat) (region corrected uncorrectable : Nat) (first : Word)
  -- batch and bake (chapters 01, 03)
  | batchBoundary
  | preFadeEnd (c : Nat)
  | fadeInEnd (c : Nat) (tray : Fin 32)
  | bakeBegin (r : Req) (total : Nat)
  | bakeWrite (r : Req) (offset : Nat) (crc : Word) (data : List Byte)
  | bakeEnd (r : Req)
  | bakeLoadFlash (r : Req) (offset : Nat)
  | bakeLoadDone (c : Nat)
  | bakeCommit (r : Req) (mask target : Word)
  | bakeStatus (r : Req)
  | bakeReport (r : Req) (index count : Nat)
  | paramWrite (r : Req) (entries : List ParamEntry)
  | paramRead (r : Req) (id : Nat)
  | bundleWrite (r : Req) (id sections ramp : Nat) (coeffs : List Word)
  | bundleCrossfadeEnd (c : Nat) (id : Nat)
  | overrun (c : Nat) (core : Fin 128)
  | bundleIssue (core : Fin 128) (ecc : Ecc)
  -- mix, dynamics and delay (chapter 05)
  | xpSet (r : Req) (entries : List XpEntry)
  | xpRead (r : Req) (src dst : Nat)
  | routeSet (r : Req) (dst ramp : Nat) (entries : List RouteEntry)
  | routeLatency (r : Req) (src dst : Nat)
  | xpRampEnd (c : Nat) (src dst : Nat)
  | delaySet (r : Req) (entries : List DelayEntry)
  | delayRead (r : Req) (line : Nat)
  | delayCrossfadeEnd (c : Nat) (line : Nat)
  | dynSet (r : Req) (inst mask : Nat) (f : DynFields)
  | dynRead (r : Req) (inst : Nat)
  -- ports (chapter 06)
  | portStart (r : Req) (port ramp : Nat)
  | portStop (r : Req) (port ramp : Nat)
  | portMute (r : Req) (port ramp : Nat) (mask : Word)
  | portUnmute (r : Req) (port ramp : Nat) (mask : Word)
  | portStatus (r : Req) (port clear : Nat)
  | asrcRead (r : Req) (first count : Nat)
  | bundleStatus (r : Req) (bundle : Nat)
  | saiFrame (c : Nat) (port : Fin 8) (f : SaiFrame)
  | glitch (c : Nat) (port : Fin 8) (width : Nat)
  | rateClassified (c : Nat) (port : Fin 8) (rate : Nat)
  | asrcLock (c : Nat) (owner : Nat) (ratio : Word) (fraction : Nat)
  | acquireTimeout (c : Nat) (port : Fin 8)
  | portLost (c : Nat) (port : Fin 8)
  | rateChange (c : Nat) (port : Fin 8)
  | portRateRepeat (c : Nat) (port : Fin 8)
  | zctoTimeout (c : Nat) (port : Fin 8) (chan : Fin 32)
  | portUnderrun (c : Nat) (owner : Nat)
  | claimHoldExpiry (c : Nat) (pair : Fin 4)
  | clrclaim (c : Nat) (m : Master) (port : Fin 8)
  -- modulator and Gate Link (chapter 07)
  | stageTrain (r : Req) (mask : Nat)
  | stageTrainDone (c : Nat)
  | trainTimeout (c : Nat) (out : Fin 16)
  | linkTestEnd (c : Nat) (out : Fin 16) (clean : Bool)
  | prechargeTimeout (c : Nat) (out : Fin 16)
  | prechargeCheckEnd (c : Nat) (out : Fin 16)
  | stageRunRun (r : Req) (mask : Nat)
  | stageRunArm (r : Req) (mask : Nat)
  | stageRunOff (r : Req) (mask : Nat)
  | stageRunClearLatch (r : Req) (mask : Nat)
  | stageSet (r : Req) (out mask : Nat) (words : List Word)
  | stageStatus (r : Req) (out clear : Nat)
  | stageSense (r : Req) (out : Nat)
  | modulationPeriod (c : Nat) (lane : Fin 8)
  | returnFrame (c : Nat) (lane : Fin 8) (f : ReturnFrame)
  | glLost (c : Nat) (lane : Fin 8)
  | fcDrift (c : Nat) (out : Fin 16)
  | bus (c : Nat) (lane : Fin 8)
  | softStartEnd (c : Nat) (out : Fin 16)
  -- loudspeaker protection (chapter 08)
  | retryStart (c : Nat) (out : Fin 16)
  | retryClear (c : Nat) (out : Fin 16)
  | thermalCopy (c : Nat)
  | measWindowEnd (c : Nat) (out : Fin 16)
  | probeWindowEnd (c : Nat) (out : Fin 16) (z38 current : Measured)
  | protSet (r : Req) (out mask : Nat) (words : List Word)
  | protStatus (r : Req) (out clear : Nat)
  | protSweep (r : Req) (out : Nat)
  | protSweepDone (c : Nat) (out : Fin 16) (points pilotLow : Measured)
  | protCal (r : Req) (out tcal : Nat)
  | protCalDone (c : Nat) (out : Fin 16)
  -- trunk (chapter 09)
  | trunkFrame (c : Nat) (lane : Fin 8) (f : TrunkFrame)
  | cdrLock (c : Nat) (lane : Fin 12)
  | ctleSearchEnd (c : Nat) (lane : Fin 12) (errs : List Nat)
  | rangeTimeout (c : Nat) (lane : Fin 12)
  | capsResend (c : Nat) (lane : Fin 12)
  | trunkLost (c : Nat) (lane : Fin 8)
  | trunkSlip (c : Nat) (lane : Fin 8) (late : Bool)
  | hostMsgResend (c : Nat) (lane : Fin 8)
  | trunkHoldExpiry (c : Nat) (lane : Fin 8)
  | claimClearTimeout (c : Nat) (lane : Fin 8)
  | trunkEnable (r : Req) (mask : Nat)
  | trunkDisable (r : Req) (mask : Nat)
  | trunkRestart (r : Req) (mask : Nat)
  | restart (c : Nat) (m : Master) (lane : Fin 8)
  | trunkSet (r : Req) (lane mask : Nat) (word : Word)
  | trunkStatus (r : Req) (lane clear : Nat)
  | trunkRange (r : Req) (lane : Nat)
  | trunkMsgSend (r : Req) (lane : Nat) (bytes : List Byte)
  | trunkMsgRead (r : Req)
  | trunkClaimClr (r : Req) (mask : Nat)
  -- Ethernet (chapter 10)
  | ethFrame (c : Nat) (mac : Fin 2) (f : EthFrame)
  | pauseReceived (c : Nat) (mac : Fin 2) (quanta : Nat)
  | pauseExpiry (c : Nat) (mac : Fin 2)
  | pauseSend (c : Nat) (mac : Fin 2) (halfElapsed : Bool)
  | ethLink (c : Nat) (mac : Fin 2) (up : LinkChange)
  | lpiAssert (c : Nat) (mac : Fin 2)
  | aesPacketSend (c : Nat) (owner : Nat) (ptpTime : Nat)
  | aesPacketLate (c : Nat) (owner : Nat)
  | aesStreamSet (r : Req) (owner : Nat) (f : AesFields)
  | aesStreamStatus (r : Req) (owner : Nat)
  | ethStatus (r : Req) (mac clear : Nat)
  -- Clock Unit (chapter 11)
  | clockUpdate (c : Nat) (meas : List ClkMeas)
  | refLos (c : Nat) (source : Nat)
  | ppsBad (c : Nat) (entry : Fin 16)
  | clockLocked (c : Nat)
  | unlock (c : Nat)
  | bankCopy (c : Nat)
  | openTimeout (c : Nat)
  | alignDone (c : Nat)
  | rootUnlock (c : Nat)
  | clkTableSet (r : Req) (entry mask : Nat) (words : List Word)
  | clkSelect (r : Req) (selmode manual loop alslew holdtau : Nat)
  | clkStatus (r : Req) (clear : Nat)
  | clkAlign (r : Req)
  | clkSteer (r : Req) (freq : Word)
  | clkOutSet (r : Req) (word : Word)
  -- twins and referee (chapter 12)
  | twinFrame (c : Nat) (lane : Fin 4) (f : TwinFrame)
  | mirrorApply (c : Nat) (m : MirrorRec)
  | forwardedCommand (c : Nat) (target : Word) (bytes : List Byte)
  | refereeQuarter (c : Nat) (a b : Option (List Byte))
  | refereeWord (c : Nat) (w : List Byte)
  | twinWordSend (c : Nat) (quarter : Fin 4)
  | refLost (c : Nat)
  | twinConfig (r : Req) (word : Word) (mask : Nat)
  | twinJoin (r : Req)
  | twinSwitch (r : Req) (force : Nat)
  | twinSwitchTimeout (c : Nat)
  | twinStatus (r : Req) (clear : Nat)
  -- Kiln, supplies, resets and power states (chapter 13)
  | shard (c : Nat)
  | kilnRead (r : Req) (count : Nat)
  | kilnAck (r : Req) (mask : Nat)
  | kilnAckRegister (c : Nat) (m : Master) (value : Word)
  | kilnClear (r : Req) (mask : Nat)
  | activeClear (c : Nat) (m : Master) (value : Word)
  | kilnLog (c : Nat) (m : Master)
  | kilnInject (r : Req) (src inst cls kind : Nat) (context : Word) (dry : Nat)
  | kilnLevelSet (r : Req) (cls kind level : Nat)
  | kilnStatus (r : Req)
  | maskingWindowEnd (c : Nat)
  | dip (c : Nat) (rail : Fin 6)
  | dipEnd (c : Nat)
  | vkeepLow (c : Nat)
  | tjWarn (c : Nat) (tj : Int)
  | tjCrit (c : Nat) (tj : Int)
  | coldReset
  | pinReset (c : Nat)
  | brownOut (c : Nat) (rail : Fin 6)
  | watchdogExpiry (c : Nat) (second : Bool)
  | softReset (c : Nat)
  | resetRelease
  | controlResetEnd (c : Nat)
  | unitResetEnd (c : Nat) (unit : Fin 18)
  | standbyEnter (r : Req)
  | standbyLeave (r : Req)
  | sysDormant (r : Req) (confirm : Half)
  | dormantEntry (c : Nat)
  | keepWake
  -- control fabric and supervisor (chapter 14)
  | fabricTransfer (c : Nat) (m : Master) (q : FabReq)
  | sysWdog (c : Nat) (m : Master) (value : Word)
  | sysRemap (c : Nat) (m : Master) (value : Word)
  | fabHbeat (c : Nat) (m : Master) (h : Fin 3) (value : Word)
  | helperHang (c : Nat) (h : Fin 3)
  | supervisorStart (c : Nat)
  -- update and NVS (chapter 15)
  | nvsGo (c : Nat) (m : Master) (value : Word)
  | updOpen (r : Req) (target offset length : Nat)
  | updWrite (r : Req) (session : Word) (offset : Nat) (crc : Word) (data : List Byte)
  | updWriteDone (c : Nat)
  | updClose (r : Req) (session : Word) (crc : Word)
  | updCloseDone (c : Nat)
  | updAbort (r : Req) (session : Word)
  | sessionTimeout (c : Nat)
  | updActivate (r : Req)
  | updActivateDone (c : Nat)
  | healthConfirm (r : Req)
  | healthWindowEnd (c : Nat)
  | updStatus (r : Req)
  | setWrite (r : Req) (key : Nat) (data : List Byte)
  | setRead (r : Req) (key : Nat)
  | sysBootSave (r : Req)
  | sysBootSaveDone (c : Nat)
  -- further events
  | lossOfLock (c : Nat) (lane : Fin 12)
  | twinLaneLoss (c : Nat) (lane : Fin 4)
  | vkeepFall
  | rootLock (c : Nat)
  | nvsLineWriteEnd (c : Nat)
  | tapReset (c : Nat)
  deriving DecidableEq, Repr

end Sys2Proof
end

