-- ==== Sys2Proof/Machine/BakeTypes.lean ====
section
/-! DEFINITION. What the engine reads from a bake (R66 to R71, R80, R84, R91, R130 to R148, R153 to R172, R246, R271): the
values this manual attributes to the bake. How the sections of an image spell them belongs to the Zorbo Baker (R68). -/
namespace Sys2Proof.Machine

/-- A register that MOVX can name (R110): the manual gives its 5-bit codes no meaning (log entry 17). -/
inductive MovReg where
  | f (i : Nat) | p (i : Nat) | m (i : Nat) | b (i : Nat) | l (i : Nat) | lc (i : Nat) | ls (i : Nat) | le (i : Nat)
  deriving DecidableEq, Repr, Inhabited

/-- Where a state block lives (R78): words of a core's DM or a cluster's CSM, a delay line with its extent, a dynamics
instance, a bridge's history, an output's modulator and stage state, an output's protection state, an AES67 stream, a port (R318). -/
inductive BlockObj where
  | mem (space loc : Nat)
  | delay (line granule granules : Nat)
  | dyn (inst : Nat)
  | bridge (index : Nat)
  | out (n : Nat)
  | prot (n : Nat)
  | aes (owner : Nat)
  | port (n : Nat)
  deriving DecidableEq, Repr

/-- A state block of the state table (TYPE 0x0009). -/
structure StateBlock where
  tag    : Nat
  len    : Nat
  layout : Nat
  obj    : BlockObj
  deriving DecidableEq, Repr

/-- A slot-window access the tray's slot table grants a core (R96). -/
structure Grant where
  cycle : Nat
  slot  : Nat
  write : Bool
  deriving DecidableEq, Repr

/-- One core of a tray (TYPE 0x0002): its deadline (R89), program image, initial DM image (R100), background entry point and
slot grants. -/
structure CoreDef where
  core     : Nat
  deadline : Nat
  image    : List (Nat × BitVec 128)
  dmInit   : Cells Word
  bgEntry  : Option Nat
  grants   : List Grant
  deriving DecidableEq, Repr

/-- A slot address, its format (R25), and its domain (R21, R24): 0 Half, 1 Core, 2 the first and 3 the second address of a Double
channel. -/
structure SlotDef where
  addr : Nat
  fp32 : Bool
  rate : Nat
  deriving DecidableEq, Repr

structure SourceDef where
  index : Nat
  slot  : Nat
  deriving DecidableEq, Repr

/-- A mix destination: its slot and default ramp (R131). -/
structure DestDef where
  index : Nat
  slot  : Nat
  ramp  : Nat
  deriving DecidableEq, Repr

/-- An initial crosspoint (TYPE 0x0005, R79). -/
structure XpDef where
  src   : Nat
  dst   : Nat
  gain  : Word
  reset : Bool
  deriving DecidableEq, Repr

/-- A parameter-table entry (R84). `kind` is 0 gain, 1 delay, 2 scalar, 3 enumeration; `space`, `loc` its target word, in a core's DM, a
cluster's CSM or a unit's memory by the SPACE codes of log entry 18. -/
structure ParamDef where
  id    : Nat
  kind  : Nat
  reset : Bool
  ramp  : Nat
  init  : Word
  min   : Word
  max   : Word
  space : Nat
  loc   : Nat
  deriving DecidableEq, Repr

/-- A coefficient bundle (R86) and where it stands in its core (log entry 88): SPACE of the memory, the coefficients of the set in force
and of the set it changes to, the filter state of each (x1, x2, y1, y2 of each section), and the new set's gain at each sample. -/
structure BundleDef where
  id       : Nat
  sections : Nat
  init     : List Word
  ramp     : Nat
  reset    : Bool
  space    : Nat
  coef     : Nat
  newCoef  : Nat
  state    : Nat
  newState : Nat
  gain     : Nat
  deriving DecidableEq, Repr

/-- Settings of a dynamics instance as stored (R140). -/
structure DynSet where
  thresh  : Word
  ratio   : Word
  knee    : Word
  attack  : Word
  release : Word
  makeup  : Word
  det     : Bool
  key     : Bool
  linked  : Bool
  bypass  : Bool
  ramp    : Nat
  deriving DecidableEq, Repr

/-- A dynamics instance (R138): index, rate (0 Half, 1 Core, 2 Double), look-ahead D, slots, link group, the cycle at which
it writes its output, the release offset P and the alignment group of an output pipeline (R30), and its initial settings. -/
structure DynDef where
  inst  : Nat
  rate  : Nat
  look  : Nat
  input : Nat
  key   : Option Nat
  out   : Nat
  group : Option Nat
  cycle : Nat
  release : Nat
  outGroup : Nat
  init  : DynSet
  deriving DecidableEq, Repr

/-- A delay line (R145, R146). -/
structure DelayDef where
  line     : Nat
  granule  : Nat
  granules : Nat
  packing  : Nat
  input    : Nat
  out      : Nat
  rate     : Nat
  cycle    : Nat
  init     : Nat
  deriving DecidableEq, Repr

/-- A rate bridge channel (R148): kind 0 Core-to-Half, 1 Half-to-Core, 2 Core-to-Double, 3 Double-to-Core. -/
structure BridgeDef where
  index : Nat
  kind  : Nat
  input : Nat
  out   : Nat
  cycle : Nat
  deriving DecidableEq, Repr

/-- A fade group (R80): its exports, the tags it depends on, and L. -/
structure FadeDef where
  exports : List Nat
  tags    : List Nat
  len     : Nat
  deriving DecidableEq, Repr

/-- A tray (R69, R70); `coreMask` and `pageCount` are CORES and PAGES of its directory entry. -/
structure TrayDef where
  num         : Nat
  drives      : Bool
  hash        : Word
  coreMask    : Nat
  pageCount   : Nat
  pages       : List (Nat × Nat)
  cores       : List CoreDef
  slots       : List SlotDef
  quota       : Nat
  windowEnd   : Nat
  sources     : List SourceDef
  dests       : List DestDef
  xps         : List XpDef
  dyns        : List DynDef
  delays      : List DelayDef
  bridges     : List BridgeDef
  blocks      : List StateBlock
  params      : List ParamDef
  bundles     : List BundleDef
  mirror      : List Nat
  mirrorBytes : Nat
  fades       : List FadeDef
  deriving DecidableEq, Repr

/-- A channel of an SAI port (R153): its line, its direction and its slot. -/
structure PortChan where
  ch    : Nat
  line  : Nat
  input : Bool
  slot  : Nat
  fp32  : Bool
  deriving DecidableEq, Repr

/-- A port of the bake (R153 to R159, R170). `rate` is a RATE code of R173; `framing` 0 I²S, 1 left-justified, 2 TDM; `lineSlots` the
slots of a TDM line and `dataBit` the BCK cycles after FS to its first data bit; `outGroup` the alignment group of its outputs (R30). -/
structure PortDef where
  port      : Nat
  master    : Bool
  asrc      : Bool
  rate      : Nat
  framing   : Nat
  lineSlots : Nat
  dataBit   : Nat
  outGroup  : Nat
  width     : Nat
  raw       : Bool
  release   : Nat
  chans     : List PortChan
  claimPair : Bool
  claimSlot : Option Nat
  claimOut  : Bool
  deriving DecidableEq, Repr

/-- A trunk lane's map (R244, R246, R250); `twin`: the lane of the other twin that is paired with it (R251). -/
structure LaneDef where
  lane     : Nat
  linkmap  : Word
  sent     : Nat
  expected : Nat
  rx       : List (Nat × Nat)
  tx       : List (Nat × Nat)
  pair     : Bool
  twin     : Option Nat
  deriving DecidableEq, Repr

/-- A transit entry (R246): received lane and channel, transmitted lane and channel. -/
structure TransitDef where
  rxLane : Nat
  rxChan : Nat
  txLane : Nat
  txChan : Nat
  deriving DecidableEq, Repr

/-- A latency report entry (R91). -/
structure ReportEntry where
  src    : Nat
  dst    : Nat
  passes : Nat
  p      : Nat
  whole  : Nat
  frac   : Nat
  line   : Nat
  flags  : Nat
  tray   : Nat
  deriving DecidableEq, Repr

/-- An alignment bundle (R168): its offset, reference position and member streams by OWNER code. -/
structure AlignDef where
  bundle  : Nat
  offset  : Nat
  ref     : Nat
  members : List Nat
  deriving DecidableEq, Repr

/-- An AES67 stream (R271); `release` and `outGroup` are the release offset P and the alignment group of a transmit stream (R30). -/
structure AesDef where
  owner    : Nat
  mac      : Fin 2
  rate96   : Bool
  l24      : Bool
  packetUs : Nat
  asrc     : Bool
  release  : Nat
  outGroup : Nat
  slots    : List Nat
  deriving DecidableEq, Repr

/-- An interface slot (R71). -/
structure IfaceDef where
  slot      : Nat
  producer  : Nat
  consumers : List Nat
  deriving DecidableEq, Repr

/-- A bake as the engine reads it. `extSlots` gives format and domain of slots that ports, lanes and streams produce. -/
structure Bake where
  id          : Word
  frameHash   : Word
  libMin      : Word
  needs       : Nat
  mirrorBytes : Nat
  trays       : List TrayDef
  iface       : List IfaceDef
  ports       : List PortDef
  lanes       : List LaneDef
  transits    : List TransitDef
  report      : List ReportEntry
  aligns      : List AlignDef
  aes         : List AesDef
  asrcOwner   : List Nat
  extSlots    : List SlotDef
  deriving DecidableEq, Repr, Inhabited

/-- The oven with nothing in it (R72). -/
def Bake.empty : Bake :=
  { id := 0, frameHash := 0, libMin := 0, needs := 0, mirrorBytes := 0, trays := [], iface := [], ports := [], lanes := [],
    transits := [], report := [], aligns := [], aes := [], asrcOwner := [], extSlots := [] }

end Sys2Proof.Machine
end

