-- ==== Sys2Proof/Config.lean ====
section
/-! DEFINITION. What the manual leaves open (each an opaque constant, so that no proof sees a value) and what an
implementation fixes. Every constant is named in the assumption log. -/
namespace Sys2Proof.Config

open Sys2Proof.Machine

/-- What the sections 0x0002 to 0x000D of an image spell (R68: their layout belongs to the Baker), and whether they hold every value the
engine reads (check 8 of R74, detail 1). Log entry 8. -/
opaque bakeContent : List Byte → Bake
opaque bakeComplete : List Byte → Bool

/-- The contents of the mask ROM, and the CRC-32 expected of it (R65, DIAG_ROM_CHECK). Log entry 9. -/
opaque romByte : Nat → Byte
opaque romCrc : Word

/-- What a quotient by zero gives, where a formula of the manual divides and states no result for it. Log entry 10. -/
opaque divByZero : Word → Word

/-- The errors of the fixed logarithm, exponential and power units, of which the manual gives only the accuracy of 0.001 dB (R141).
Machine/Approx.lean holds each to that accuracy. Log entry 11. -/
opaque logErr : Word → Int
opaque expErr : Word → Int
opaque powErr : Word → Word → Int

/-- The rounding errors of sine and cosine (R213, R214, R219, R221): the manual names the functions and not their rounding; a unit
is 2^−60. Log entry 12. -/
opaque trigErr : Nat → Word → Int

/-- The taps that the manual leaves open, of the filters of which it gives response limits: the true-peak interpolator (R142; phase,
place), the rate bridges (R22, R23, R148; kind, phase, age), the ASRC (R161; ratio, phase, age), and the modulator's interpolator (R179,
R180; phase, age). Machine/Approx.lean brings the gain and the delay of each to what the rule states. Gains and images are in
units of 2^−32 above 1 and above 0. Log entry 13. -/
opaque tpTap : Nat → Nat → Int
opaque tpGain : Nat → Int
opaque bridgeTap : Nat → Nat → Nat → Int
opaque bridgeGain : Nat → Int
opaque bridgeImage : Nat → Int
opaque asrcTap : Word → Nat → Nat → Int
opaque asrcGain : Word → Nat → Int
opaque modTap : Nat → Nat → Int

/-- What R185 and R214 leave open of their low-passes: the step of the first-order one at 384 kHz, in units of 2^−32, and the damping of
the two second-order stages of the other. Log entry 13. -/
opaque busStep : Int
opaque trackDamp : Nat → Word

/-- The wake times that the engine advertises in LLDP (R266), by MAC; 0 transmit, 1 receive. Log entry 103. -/
opaque eeeWake : Nat → Nat → Nat

/-- The gain from which g_th rises again after the critical case, where the factor of R217 would keep it at 0 (R218). Log entry 98. -/
opaque critFloor : Word

/-- SHA-256 and the ECDSA P-256 verification of R378, the fused key digests and their revoke fuses. Log entry 14. -/
opaque sha256 : List Byte → List Byte
opaque ecdsaValid : List Byte → List Byte → List Byte → Bool
opaque keyDigest : Nat → List Byte
opaque keyRevoked : Nat → Bool

/-- The conversion of a firmware record to a format version (R386): `none` when it cannot be converted. Log entry 15. -/
opaque convertRecord : Nat → Nat → List Byte → Option (List Byte)

/-- The register that a 5-bit source or destination code of MOVX names (R109, R110). Log entry 17. -/
opaque movxReg : Nat → MovReg

/-- What a byte of the NVS areas that only the supervisor writes reads as through the NVS window: the manual gives no byte layout of
the boot record and the settings areas (R376). Log entry 1. -/
opaque nvsByte : Nat → Byte

/-- What a byte of WRAM reads as that no fabric write has stored to since the overlays were loaded, and whether overlays whose WRAM
has been written since then pass the ROM's check (R355, R359). Log entry 1. -/
opaque wramByte : Nat → Byte
opaque overlayIntact : List Host.Cell → Bool

/-- The n-th value that the engine produces where the manual bounds a value without stating it. Log entry 16. -/
opaque freeWord : Nat → Word

end Sys2Proof.Config
end

