-- ==== Sys2Proof/Machine/Bits.lean ====
section
/-! DEFINITION. Byte order, bit fields, clamps and the cyclic redundancy checks of R43, R45, R56 and R170. -/
namespace Sys2Proof.Machine

/-- The byte of the low 8 bits of `n`. -/
def byteOf (n : Nat) : Byte := BitVec.ofNat 8 n

/-- `k` bytes of `n`, most significant first (R43). -/
def beBytes : Nat → Nat → List Byte
  | 0, _ => []
  | k + 1, n => byteOf (n / 2 ^ (8 * k)) :: beBytes k n

/-- The number that bytes spell, most significant first (R43). -/
def beNat (bs : List Byte) : Nat := bs.foldl (fun a b => a * 256 + b.toNat) 0

/-- The number that bytes spell, least significant first (R27). -/
def leNat : List Byte → Nat
  | [] => 0
  | b :: t => b.toNat + 256 * leNat t

/-- `k` bytes of `n`, least significant first (R27). -/
def leBytes : Nat → Nat → List Byte
  | 0, _ => []
  | k + 1, n => byteOf n :: leBytes k (n / 256)

def be2 (n : Nat) : List Byte := beBytes 2 n
def be4 (n : Nat) : List Byte := beBytes 4 n
def beWord (w : Word) : List Byte := beBytes 4 w.toNat
def beWords (ws : List Word) : List Byte := ws.flatMap beWord

/-- `n` zero bytes. -/
def zeros (n : Nat) : List Byte := List.replicate n 0

/-- The bytes of `bs` from `off`, `n` of them. -/
def sub (bs : List Byte) (off n : Nat) : List Byte := (bs.drop off).take n

/-- The number in `n` big-endian bytes of `bs` at `off`. -/
def num (bs : List Byte) (off n : Nat) : Nat := beNat (sub bs off n)

/-- Bits [hi:lo] of `n`. -/
def bits (n hi lo : Nat) : Nat := n / 2 ^ lo % 2 ^ (hi + 1 - lo)

/-- Bit `i` of `n`. -/
def bitAt (n i : Nat) : Bool := n.testBit i

/-- `n` as a two's-complement number of `w` bits. -/
def signed (w n : Nat) : Int := if n < 2 ^ (w - 1) then (n : Int) else (n : Int) - (2 : Int) ^ w

/-- The `w`-bit two's-complement code of `i`. -/
def unsigned (w : Nat) (i : Int) : Nat := (i % (2 : Int) ^ w).toNat

/-- Clamp to `lo … hi` (R56). -/
def clampN (lo hi n : Nat) : Nat := if n < lo then lo else if hi < n then hi else n

/-- Clamp a signed value to `lo … hi` (R56). -/
def clampI (lo hi n : Int) : Int := if n < lo then lo else if hi < n then hi else n

/-- Round half up of `a / b` for a positive `b` (ties toward +∞). -/
def roundHalfUp (a : Int) (b : Nat) : Int := (2 * a + b) / (2 * b)

/-- The mask with bit `i` written `v`. -/
def setBit (m i : Nat) (v : Bool) : Nat :=
  if v then m ||| 2 ^ i else if m.testBit i then m - 2 ^ i else m

/-- The bits of `m` that `k` does not hold. -/
def maskAndNot (m k : Nat) : Nat := m - (m &&& k)

/-- The numbers `i` below `n` whose bit of `m` is set, rising. -/
def maskList (n m : Nat) : List Nat := (List.range n).filter (fun i => m.testBit i)

/-- One bit of a CRC of width `w` without reflection. -/
def crcBit (w poly : Nat) (c : Nat) : Nat :=
  if c.testBit (w - 1) then ((c * 2) % 2 ^ w) ^^^ poly else (c * 2) % 2 ^ w

/-- Apply `f` `n` times. -/
def iter {α : Type} (f : α → α) : Nat → α → α
  | 0, a => a
  | n + 1, a => iter f n (f a)

/-- One byte of a CRC of width `w` without reflection. -/
def crcByte (w poly : Nat) (c : Nat) (b : Byte) : Nat :=
  iter (crcBit w poly) 8 (c ^^^ (b.toNat * 2 ^ (w - 8)))

/-- CRC-16, polynomial 0x1021, initial value 0xFFFF, no reflection, no final XOR (R45). -/
def crc16 (bs : List Byte) : Nat := bs.foldl (crcByte 16 0x1021) 0xFFFF

/-- CRC-8, polynomial 0x07, initial value 0 (R170). -/
def crc8 (bs : List Byte) : Nat := bs.foldl (crcByte 8 0x07) 0

/-- One bit of the reflected CRC-32 of IEEE 802.3. -/
def crc32Bit (c : Nat) : Nat := if c % 2 = 1 then (c / 2) ^^^ 0xEDB88320 else c / 2

def crc32Byte (c : Nat) (b : Byte) : Nat := iter crc32Bit 8 (c ^^^ b.toNat)

/-- The CRC-32 of IEEE 802.3 (R45). -/
def crc32 (bs : List Byte) : Nat := (bs.foldl crc32Byte 0xFFFFFFFF) ^^^ 0xFFFFFFFF

/-- Claim `a` is higher than claim `b` (R306): 16-bit serial-number arithmetic, 0 below every other claim. -/
def claimHigher (a b : Nat) : Bool :=
  if a = 0 then false
  else if b = 0 then true
  else
    let d := (a + 65536 - b) % 65536
    decide (1 ≤ d) && decide (d ≤ 32767)

/-- The claim after `c` (R306). -/
def claimNext (c : Nat) : Nat := if (c + 1) % 65536 = 0 then 1 else (c + 1) % 65536

end Sys2Proof.Machine
end

