-- ==== Sys2Proof/Machine/Fp.lean ====
section
/-! DEFINITION. The arithmetic of R25, R103 to R106: FP32 and A-format values, one rounding rule (nearest, a tie
toward +∞), flushing and saturation. Exact values are dyadic numbers, so nothing is rounded before the end. -/
namespace Sys2Proof.Machine

/-- The exact number m × 2^e. -/
structure Dy where
  m : Int
  e : Int
  deriving DecidableEq, Repr

/-- Bits needed to write `n`. -/
def bitLen (n : Nat) : Nat := if n = 0 then 0 else n.log2 + 1

/-- Move two exact numbers to one exponent. -/
def Dy.align (a b : Dy) : Int × Int × Int :=
  if a.e ≤ b.e then (a.m, b.m * (2 : Int) ^ (b.e - a.e).toNat, a.e)
  else (a.m * (2 : Int) ^ (a.e - b.e).toNat, b.m, b.e)

def Dy.add (a b : Dy) : Dy := ⟨(a.align b).1 + (a.align b).2.1, (a.align b).2.2⟩
def Dy.neg (a : Dy) : Dy := ⟨-a.m, a.e⟩
def Dy.mul (a b : Dy) : Dy := ⟨a.m * b.m, a.e + b.e⟩
def Dy.lt (a b : Dy) : Bool := decide ((a.align b).1 < (a.align b).2.1)
def Dy.eq (a b : Dy) : Bool := decide ((a.align b).1 = (a.align b).2.1)

/-- The nearest value with a significand of `p` bits, a tie toward +∞ (R105). -/
def Dy.round (p : Nat) (d : Dy) : Dy :=
  let n := bitLen d.m.natAbs
  if n ≤ p then d
  else ⟨(d.m + (2 : Int) ^ (n - p - 1)) / (2 : Int) ^ (n - p), d.e + ((n - p : Nat) : Int)⟩

/-- A quotient carried far enough, with a sticky bit, that rounding it to `p` bits is exact rounding. -/
def Dy.ofRatio (p : Nat) (a : Int) (b : Nat) : Dy :=
  let s := p + 2 + bitLen b
  let q := (a * (2 : Int) ^ s) / (b : Int)
  if q * (b : Int) = a * (2 : Int) ^ s then ⟨q, -(s : Int)⟩ else ⟨2 * q + 1, -(s : Int) - 1⟩

/-- `d` times 2^k rounded half up to an integer (R25). -/
def Dy.toInt (d : Dy) (k : Int) : Int :=
  let x := d.e + k
  if 0 ≤ x then d.m * (2 : Int) ^ x.toNat
  else (d.m + (2 : Int) ^ ((-x).toNat - 1)) / (2 : Int) ^ (-x).toNat

/-- What rounding into a format gives: the sign, exponent and fraction fields, and whether it saturated. -/
structure Packed where
  neg : Bool
  ex  : Nat
  fr  : Nat
  ovf : Bool
  deriving DecidableEq, Repr

/-- Round into a format with `f` fraction bits, bias `b` and highest exponent code `top` (R105, R106): an exact zero
is +0, a result below the smallest normal value is zero with the sign of the exact result, one beyond the largest saturates. -/
def Dy.pack (f b top : Nat) (d : Dy) : Packed :=
  let r := d.round (f + 1)
  if r.m = 0 then ⟨false, 0, 0, false⟩
  else
    let neg := decide (d.m < 0)
    let n := bitLen r.m.natAbs
    let code := r.e + (n : Int) - 1 + (b : Int)
    if code < 1 then ⟨neg, 0, 0, false⟩
    else if (top : Int) < code then ⟨neg, top, 2 ^ f - 1, true⟩
    else ⟨neg, code.toNat, r.m.natAbs * 2 ^ (f + 1 - n) / 2 ^ (n - (f + 1)) - 2 ^ f, false⟩

/-! FP32 -/

def fpSign (w : Word) : Bool := w.toNat.testBit 31
def fpExp (w : Word) : Nat := w.toNat / 2 ^ 23 % 256
def fpFrac (w : Word) : Nat := w.toNat % 2 ^ 23

/-- The FP32 word with these fields. -/
def fpMake (s : Bool) (e f : Nat) : Word := BitVec.ofNat 32 ((if s then 2 ^ 31 else 0) + e * 2 ^ 23 + f)

def fpMax : Word := 0x7F7FFFFF
def fpZero : Word := 0
def fpOne : Word := 0x3F800000

/-- An operand with E = 255, which a core reads as ±FP32 max (R103). -/
def fpIsE255 (w : Word) : Bool := fpExp w == 255
def fpIsNaN (w : Word) : Bool := fpExp w == 255 && fpFrac w != 0
def fpIsInf (w : Word) : Bool := fpExp w == 255 && fpFrac w == 0
def fpIsSub (w : Word) : Bool := fpExp w == 0 && fpFrac w != 0

/-- An FP32 operand as it is read (R103): a subnormal is zero with its sign, E = 255 is ±FP32 max. -/
def fpRead (w : Word) : Word :=
  if fpExp w = 0 then fpMake (fpSign w) 0 0
  else if fpExp w = 255 then fpMake (fpSign w) 254 (2 ^ 23 - 1)
  else w

/-- The exact value of an FP32 operand (R103). -/
def fpVal (w : Word) : Dy :=
  let r := fpRead w
  if fpExp r = 0 then ⟨0, 0⟩
  else
    let m : Int := Int.ofNat (2 ^ 23 + fpFrac r)
    ⟨if fpSign r then -m else m, (fpExp r : Int) - 150⟩

/-- An FP32 result: the word and whether it saturated to ±FP32 max (R106). -/
structure FpRes where
  w   : Word
  ovf : Bool
  deriving DecidableEq, Repr

/-- Round an exact value to FP32 (R105, R106). -/
def fpRound (d : Dy) : FpRes :=
  let p := d.pack 23 127 254
  ⟨fpMake p.neg p.ex p.fr, p.ovf⟩

def fpAddR (a b : Word) : FpRes := fpRound ((fpVal a).add (fpVal b))
def fpSubR (a b : Word) : FpRes := fpRound ((fpVal a).add (fpVal b).neg)
def fpMulR (a b : Word) : FpRes := fpRound ((fpVal a).mul (fpVal b))
def fpFmaR (a b c : Word) : FpRes := fpRound (((fpVal a).mul (fpVal b)).add (fpVal c))
def fpFmsR (a b c : Word) : FpRes := fpRound ((fpVal c).add ((fpVal a).mul (fpVal b)).neg)

def fpAdd (a b : Word) : Word := (fpAddR a b).w
def fpSub (a b : Word) : Word := (fpSubR a b).w
def fpMul (a b : Word) : Word := (fpMulR a b).w
def fpFma (a b c : Word) : Word := (fpFmaR a b c).w
def fpNeg (a : Word) : Word := fpSub fpZero a
def fpAbs (a : Word) : Word := (fpRound (if (fpVal a).m < 0 then (fpVal a).neg else fpVal a)).w

/-- The quotient of two exact values, rounded once; `dz` is what a zero divisor gives (the spec states none). -/
def fpDivWith (dz : Word) (a b : Word) : Word :=
  let x := fpVal a
  let y := fpVal b
  if y.m = 0 then dz
  else
    let q := Dy.ofRatio 24 (if y.m < 0 then -x.m else x.m) y.m.natAbs
    (fpRound ⟨q.m, q.e + x.e - y.e⟩).w

/-- An integer rounded to FP32. -/
def fpOfInt (i : Int) : Word := (fpRound ⟨i, 0⟩).w
def fpOfNat (n : Nat) : Word := fpOfInt (n : Int)

/-- The ratio a / b of an integer and a positive number, rounded once to FP32. -/
def fpRatio (a : Int) (b : Nat) : Word := (fpRound (Dy.ofRatio 24 a b)).w

def fpLt (a b : Word) : Bool := (fpVal a).lt (fpVal b)
def fpLe (a b : Word) : Bool := !(fpVal b).lt (fpVal a)
def fpEq (a b : Word) : Bool := (fpVal a).eq (fpVal b)
def fpMaxOf (a b : Word) : Word := if fpLt a b then b else a
def fpMinOf (a b : Word) : Word := if fpLt b a then b else a
def fpClamp (lo hi a : Word) : Word := if fpLt a lo then lo else if fpLt hi a then hi else a

/-- An FP32 parameter field before clamping (R56): ±Inf reads as ±FP32 max and so takes the nearest limit, a subnormal
reads as zero with its sign. -/
def fpParam (lo hi w : Word) : Word := fpClamp lo hi (fpRead w)

/-- An FP32 value as an integer in units of 2^−k, rounded half up. -/
def fpToInt (w : Word) (k : Int) : Int := (fpVal w).toInt k

/-- The bits of a square root from bit `k − 1` down; `r` holds those found. -/
def sqrtBits : Nat → Nat → Nat → Nat
  | 0, _, r => r
  | k + 1, n, r => if (r + 2 ^ k) * (r + 2 ^ k) ≤ n then sqrtBits k n (r + 2 ^ k) else sqrtBits k n r

/-- The square root of a value that is not negative, rounded once; 0 for a negative one. -/
def fpSqrt (w : Word) : Word :=
  let d := fpVal w
  if d.m ≤ 0 then fpZero
  else
    let s : Nat := if d.e % 2 = 0 then 60 else 61
    let n := d.m.toNat * 2 ^ s
    let r := sqrtBits 43 n 0
    (fpRound ⟨2 * (r : Int) + (if r * r = n then 0 else 1), (d.e - s) / 2 - 1⟩).w

/-! int24 slot words (R25) -/

/-- The signed integer in bits [31:8] of a slot word. -/
def int24Val (w : Word) : Int :=
  if w.toNat / 256 < 2 ^ 23 then ((w.toNat / 256 : Nat) : Int) else ((w.toNat / 256 : Nat) : Int) - 2 ^ 24

/-- The slot word of a 24-bit integer: bits [31:8], with [7:0] zero. -/
def int24Word (i : Int) : Word := BitVec.ofNat 32 ((i % (2 : Int) ^ 24).toNat * 256)

/-- int24 to FP32, exact (R25). -/
def int24ToFp (w : Word) : Word := (fpRound ⟨int24Val w, -23⟩).w

/-- A saturating conversion: the word and whether it saturated. -/
structure SatRes where
  w   : Word
  sat : Bool
  deriving DecidableEq, Repr

/-- FP32 to int24: times 2^23, round half up, saturate (R25). -/
def fpToInt24 (w : Word) : SatRes :=
  let i := fpToInt w 23
  if i < -8388608 then ⟨int24Word (-8388608), true⟩
  else if 8388607 < i then ⟨int24Word 8388607, true⟩
  else ⟨int24Word i, false⟩

/-- The ingress check of R26: NaN and ±Inf become 0 (and are counted), a subnormal becomes zero with its sign. -/
def ingress (w : Word) : SatRes :=
  if fpIsE255 w then ⟨0, true⟩
  else if fpIsSub w then ⟨fpMake (fpSign w) 0 0, false⟩
  else ⟨w, false⟩

/-! A-format (R104) -/

/-- A 44-bit accumulator word. -/
abbrev AccW := BitVec 44

/-- The exact value of an accumulator. -/
def accVal (a : AccW) : Dy :=
  let e : Nat := a.toNat / 2 ^ 31 % 4096
  if e = 0 then ⟨0, 0⟩
  else
    let m : Int := Int.ofNat (2 ^ 31 + a.toNat % 2 ^ 31)
    ⟨if a.toNat.testBit 43 then -m else m, (e : Int) - 2078⟩

/-- An A-format result: the word and whether it saturated to ±A max (R106). -/
structure AccRes where
  a   : AccW
  ovf : Bool
  deriving DecidableEq, Repr

/-- Round an exact value to A-format (R105, R106). -/
def accRound (d : Dy) : AccRes :=
  let p := d.pack 31 2047 4095
  ⟨BitVec.ofNat 44 ((if p.neg then 2 ^ 43 else 0) + p.ex * 2 ^ 31 + p.fr), p.ovf⟩

/-! Ramps (R81, R85, R135) -/

/-- The value of a linear ramp from `s` to `t` over `l` samples at sample `n` (R85, R135): s + (t − s) × (n + 1) / L, each
factor in FP32 with round half up, and t from sample L − 1 onward. -/
def rampAt (s t : Word) (l n : Nat) : Word :=
  if l ≤ n + 1 then t
  else fpAdd s (fpMul (fpSub t s) (fpRatio ((n : Int) + 1) l))

/-- The fade-out gain 1 − (n + 1) / L (R81). -/
def fadeOutAt (l n : Nat) : Word := if l ≤ n + 1 then fpZero else fpRatio ((l : Int) - n - 1) l

/-- The fade-in gain (n + 1) / L (R81). -/
def fadeInAt (l n : Nat) : Word := if l ≤ n + 1 then fpOne else fpRatio ((n : Int) + 1) l

end Sys2Proof.Machine
end

