-- ==== Sys2Proof/Machine/Approx.lean ====
section
/-! DEFINITION. The functions that rules name by their accuracy or their response: the logarithm, exponential and power units (R141), sine
and cosine (R213, R214, R219, R221), and filters whose delay and gain the rules give and whose taps they leave open (R22, R23, R142,
R148, R161, R179). Values are computed in fixed point; what a rule leaves open is an opaque error or tap, held to the rule's limits. -/
namespace Sys2Proof.Machine

open Sys2Proof

/-! ## Fixed point -/

/-- 40 bits of the fraction of log2 of a number from 2^48 up to 2^49, in units of 2^−48; `a` holds the bits found. -/
def logBits : Nat → Nat → Nat → Nat
  | 0, _, a => a
  | k + 1, m, a =>
    let q := m * m / 2 ^ 48
    if 2 ^ 49 ≤ q then logBits k (q / 2) (2 * a + 1) else logBits k q (2 * a)

/-- log2 of a positive FP32 value, in units of 2^−40; that of the smallest normal value for 0. -/
def log2Fix (w : Word) : Int :=
  let r := fpRead w
  ((max 1 (fpExp r) : Nat) - 127 : Int) * 2 ^ 40 + (logBits 40 ((2 ^ 23 + fpFrac r) * 2 ^ 25) 0 : Nat)

/-- ln 2, log10 2 and π in units of 2^−60. -/
def ln2Fix : Int := 799144290325165979
def log10of2Fix : Int := 347063955532709821
def piFix : Int := 3622009729038561421

/-- The exponential series of `x` (units of 2^−60, 0 up to ln 2) from its term `k` on. -/
def expSeries : Nat → Nat → Int → Int → Int
  | 0, _, _, _ => 0
  | n + 1, k, x, t => t + expSeries n (k + 1) x (t * x / (2 ^ 60 * (k + 1)))

/-- 2^x of `x` in units of 2^−40, times 1 + e / 2^40. -/
def exp2Dy (x e : Int) : Dy :=
  let i := x / 2 ^ 40
  let f := x % 2 ^ 40
  ⟨expSeries 24 0 (f * ln2Fix / 2 ^ 40) (2 ^ 60) * (2 ^ 40 + e), i - 100⟩

/-! ## The logarithm, exponential and power units (R141) -/

/-- 0.001 dB as an error of log10, in units of 2^−40, and as a relative error. -/
def logTol : Int := 54975581
def expTolHi : Int := 126593241
def expTolLo : Int := -126578668

/-- log10 of a positive value, within 0.001 dB (R141). -/
def log10Unit (w : Word) : Word :=
  (fpRound ⟨log2Fix w * log10of2Fix / 2 ^ 60 + clampI (-logTol) logTol (Config.logErr w), -40⟩).w

/-- A number in units of 2^−40, rounded down. -/
def dyFix (d : Dy) : Int := if 0 ≤ d.e + 40 then d.m * (2 : Int) ^ (d.e + 40).toNat else d.m / (2 : Int) ^ (-(d.e + 40)).toNat

/-- e^x within 0.001 dB (R141). -/
def expUnit (x : Word) : Word :=
  (fpRound (exp2Dy (dyFix (fpVal x) * 2 ^ 60 / ln2Fix) (clampI expTolLo expTolHi (Config.expErr x)))).w

/-- b^x of a positive base within 0.001 dB (R141); 0 where the base is 0. -/
def powUnit (b x : Word) : Word :=
  if (fpVal b).m ≤ 0 then fpZero
  else
    let p : Dy := ⟨log2Fix b * (fpVal x).m, (fpVal x).e - 40⟩
    (fpRound (exp2Dy (dyFix p) (clampI expTolLo expTolHi (Config.powErr b x)))).w

/-! ## Sine and cosine -/

/-- The sine series (units of 2^−60) from the term of order `k` on; `t` is that term. -/
def sinSeries : Nat → Nat → Int → Int → Int
  | 0, _, _, _ => 0
  | n + 1, k, x, t => t + sinSeries n (k + 2) x (-(t * x / 2 ^ 60) * x / (2 ^ 60 * ((k + 1) * (k + 2))))

/-- The sine of a phase in units of 2^−32 turns, by quadrants, in units of 2^−60. -/
def sinFix (p : Nat) : Int :=
  let q := p / 2 ^ 30 % 4
  let r := p % 2 ^ 30
  let a : Int := ((if q % 2 = 0 then r else 2 ^ 30 - r : Nat) : Int) * piFix / 2 ^ 31
  let y := sinSeries 14 1 a a
  if q < 2 then y else -y

/-- One unit in the last place of FP32 below 1, in units of 2^−60. -/
def trigTol : Int := 2 ^ 36

def sinUnit (p : Word) : Word := (fpRound ⟨sinFix p.toNat + clampI (-trigTol) trigTol (Config.trigErr 0 p), -60⟩).w
def cosUnit (p : Word) : Word := (fpRound ⟨sinFix (p.toNat + 2 ^ 30) + clampI (-trigTol) trigTol (Config.trigErr 1 p), -60⟩).w

/-! ## Filters by their gain and delay -/

/-- The output of a filter: the sum of its taps (units of 2^−32) times the input, newest first, rounded once. -/
def firOut (taps : List Int) (hist : List Word) : Word :=
  (fpRound ((taps.zip hist).foldl (fun (a : Dy) e => a.add ⟨e.1 * (fpVal e.2).m, (fpVal e.2).e - 32⟩) ⟨0, 0⟩)).w

/-- The sum of taps, each weighted by its age, from age `k` on. -/
def momentFrom : Nat → List Int → Int
  | _, [] => 0
  | k, t :: ts => (k : Int) * t + momentFrom (k + 1) ts

/-- Taps of a filter of gain `g` (units of 2^−32, even) and delay `num` / 2 samples at low frequencies: `rest` are the open taps of
age 2 and more; those of ages 0 and 1 bring the gain and the delay to what the rule states. -/
def firTaps (g : Int) (num : Int) (rest : List Int) : List Int :=
  let h1 := g / 2 * num - momentFrom 2 rest
  (g - h1 - rest.sum) :: h1 :: rest

/-- The sum of taps with alternating sign: the response at half the sample rate. -/
def alternating : List Int → Int
  | [] => 0
  | t :: ts => t - alternating ts

/-- The same with response `e` at half the sample rate (a multiple of 4, as `g` and the open taps of age 3 and more are). -/
def firTapsStop (g num e : Int) (rest : List Int) : List Int :=
  let p := g - rest.sum
  let q := g / 2 * num - momentFrom 3 rest
  let r := e + alternating rest
  let b := (p - r) / 2
  let c := (q - b) / 2
  (p - b - c) :: b :: c :: rest

/-- ±0.1 dB of gain (R23), in units of 2^−32. -/
def gainLo : Int := -49164084
def gainHi : Int := 49733377
/-- 80 dB below 1 (R23), in units of 2^−32. -/
def stopTol : Int := 429496

/-- A gain of 1 within ±0.1 dB, a multiple of 8 in units of 2^−32. -/
def nearOne (raw : Int) : Int := 2 ^ 32 + clampI gainLo gainHi raw / 8 * 8

/-! ## Rate bridges (R22, R23, R148) -/

/-- Input samples that a bridge, a converter or an interpolator looks back on. -/
def histLen : Nat := 64
def pushHist (x : Word) (h : List Word) : List Word := (x :: h).take histLen

/-- The delay of every bridge, in samples of its higher rate (R22): 4 at 192 kHz, and 4 at 96 kHz. -/
def bridgeDelay : Nat := 4

/-- The image or alias that a bridge lets through at half its higher rate: at most 80 dB down (R23). -/
def bridgeImage (kind : Nat) : Int := clampI (-stopTol) stopTol (Config.bridgeImage kind) / 8 * 8

/-- The outputs that follow an input sample, which heads `h`, of a bridge that raises the rate: kinds 1 and 2. Phase `i` lies `i` samples of
the higher rate after the input sample. -/
def bridgeUp (kind : Nat) (h : List Word) : List Word :=
  [0, 1].map fun (i : Nat) =>
    let g := nearOne (Config.bridgeGain kind) + (if i = 0 then bridgeImage kind else -bridgeImage kind)
    firOut (firTaps g ((bridgeDelay : Int) - i) ((List.range 62).map (fun k => Config.bridgeTap kind i (k + 2)))) h

/-- The output of a bridge that halves the rate: kinds 0 and 3. `h` begins with the second sample of the output's period. -/
def bridgeDown (kind : Nat) (h : List Word) : Word :=
  firOut (firTapsStop (nearOne (Config.bridgeGain kind)) (2 * (bridgeDelay + 1 : Nat)) (bridgeImage kind)
    ((List.range 61).map (fun k => Config.bridgeTap kind 0 (k + 3) * 8))) h

/-! ## The converters of the ASRC bank (R161) -/

/-- Taps of a filter of gain `g` and delay `d` samples at low frequencies, both in units of 2^−32. -/
def firTapsAt (g d : Int) (rest : List Int) : List Int :=
  let h1 := g * d / 2 ^ 32 - momentFrom 2 rest
  (g - h1 - rest.sum) :: h1 :: rest

/-- ±0.05 dB of gain (R161), in units of 2^−32. -/
def asrcLo : Int := -24652794
def asrcHi : Int := 24795116

/-- A converted sample at the place `phase` of its batch: the input `d` samples (units of 2^−32) before the newest one of `h`. -/
def asrcOut (ratio : Word) (phase : Nat) (d : Int) (h : List Word) : Word :=
  firOut (firTapsAt (2 ^ 32 + clampI asrcLo asrcHi (Config.asrcGain ratio phase)) d ((List.range 62).map (fun k => Config.asrcTap ratio phase (k + 2)))) h

/-- A converter's delay: 24 samples at 96 kHz and a fraction in 1/25,600 sample, taken to 96 kHz samples in units of 1/25,600. -/
def asrcDelay (fraction : Nat) : Int := 24 * 25600 + fraction

/-- So many 1/25,600 of a 96 kHz sample as samples of the converter's input, in units of 2^−32; RATIO is in units of 2^−30. -/
def inputSamples (ratio : Nat) (d : Int) : Int := d * ratio * 4 / 25600

/-! ## The modulator's interpolator (R179, R180) -/

/-- The value that phase `i` (0 to 3) of a Double sample brings: the input 16 periods (8 Double samples) before it, with gain 1. -/
def modOut (i : Nat) (h : List Word) : Word :=
  firOut (firTapsAt (2 ^ 32) ((32 - (i : Int)) * 2 ^ 30) ((List.range 62).map (fun k => Config.modTap i (k + 2)))) h

/-! ## Low-passes (R185, R214) -/

/-- One step at 384 kHz of a first-order low-pass with a time constant of 1 ms: y + α (x − y), with α from 1/385 to 1/384. -/
def busLowPass (y x : Word) : Word := fpAdd y (fpMul (fpRound ⟨clampI 11155760 11184810 Config.busStep, -32⟩).w (fpSub x y))

/-- 2π f / 768,000 of a frequency in Hz. -/
def stepAt768 (hz : Nat) : Word := fpRatio ((hz * 6283185307 : Nat) : Int) 768000000000000

/-- A second-order low-pass of gain 1: its output and its band-pass. -/
structure LowPass where
  lp : Word
  bp : Word

def lowPass2 (step damp x : Word) (q : LowPass) : LowPass :=
  let y := fpAdd q.lp (fpMul step q.bp)
  { lp := y, bp := fpAdd q.bp (fpMul step (fpSub (fpSub x y) (fpMul damp q.bp))) }

/-- The damping of a stage: 0.5 to 2. -/
def trackDamp (k : Nat) : Word := fpClamp 0x3F000000 0x40000000 (Config.trackDamp k)

/-- One step at 768 kHz of a fourth-order low-pass: two stages, of state [lp, bp, lp, bp]; the third word is the output. -/
def trackLowPass (hz : Nat) (x : Word) (h : List Word) : List Word :=
  let a := lowPass2 (stepAt768 hz) (trackDamp 0) x ⟨h.getD 0 0, h.getD 1 0⟩
  let b := lowPass2 (stepAt768 hz) (trackDamp 1) a.lp ⟨h.getD 2 0, h.getD 3 0⟩
  [a.lp, a.bp, b.lp, b.bp]

/-! ## The true-peak interpolator (R142) -/

/-- Within 0.5 dB (R142), in units of 2^−32. -/
def tpLo : Int := -240256706

/-- The value a quarter, half or three quarters of a sample after k[n], of the 12 samples k[n + 6] back to k[n − 5]: a 12-tap phase. -/
def truePeakTap (phase : Nat) (ks : List Word) : Word :=
  let g := (2 ^ 32 + clampI tpLo (-tpLo) (Config.tpGain phase)) / 4 * 4
  let rest := (List.range 10).map (fun k => Config.tpTap phase (k + 2))
  -- k[n] has age 6; the interpolated point lies phase / 4 of a sample later
  let h1 := g / 4 * (24 - (phase : Int)) - momentFrom 2 rest
  firOut ((g - h1 - rest.sum) :: h1 :: rest) ks

end Sys2Proof.Machine
end

