-- ==== Sys2Proof/Machine/Cells.lean ====
section
/-! DEFINITION. Reading and writing a sparse table. Every memory of the machine and every numbered group of
state (registers' fields, ports, outputs, lanes, cores, crosspoints) is such a table. -/
namespace Sys2Proof.Machine

/-- What key `k` holds; `d k` when the table does not list it. -/
def cget {α : Type} (d : Nat → α) : Cells α → Nat → α
  | [], k => d k
  | (j, v) :: t, k => if j = k then v else cget d t k

/-- The table with `k` removed. -/
def cdel {α : Type} : Cells α → Nat → Cells α
  | [], _ => []
  | (j, v) :: t, k => if j = k then cdel t k else (j, v) :: cdel t k

/-- The table with `k` listed as `v`, at its place in rising order. -/
def cput {α : Type} : Cells α → Nat → α → Cells α
  | [], k, v => [(k, v)]
  | (j, w) :: t, k, v =>
    if k < j then (k, v) :: (j, w) :: t
    else if j = k then (k, v) :: t
    else (j, w) :: cput t k v

/-- Write `v` at `k`: writing what an unlisted key reads as removes the entry. -/
def cset {α : Type} [DecidableEq α] (d : Nat → α) (m : Cells α) (k : Nat) (v : α) : Cells α :=
  if v = d k then cdel m k else cput m k v

/-- The canonical form: keys strictly rising, no entry equal to the default. -/
def cellsWf {α : Type} [DecidableEq α] (d : Nat → α) : Cells α → Bool
  | [] => true
  | (j, v) :: t => (v != d j) && t.all (fun e => decide (j < e.1)) && cellsWf d t

/-- Write a run of values at rising keys from `k`. -/
def csetMany {α : Type} [DecidableEq α] (d : Nat → α) (m : Cells α) (k : Nat) : List α → Cells α
  | [] => m
  | v :: vs => csetMany d (cset d m k v) (k + 1) vs

/-- Read `n` values at rising keys from `k`. -/
def cgetMany {α : Type} (d : Nat → α) (m : Cells α) (k : Nat) : Nat → List α
  | 0 => []
  | n + 1 => cget d m k :: cgetMany d m (k + 1) n

end Sys2Proof.Machine
end

