-- ==== Sys2Proof/Machine/RegMap.lean ====
section
/-! DEFINITION. The register map (R3, R64, R92, R129, R151, R173, R204, R225, R253, R276, R301, R331, R351, R357, R373, R374,
R391): every field with its access, its value after a reset that does not keep it, what keeps it (R10), and its range (R9). -/
namespace Sys2Proof.Machine

/-- The access codes of R9. -/
inductive Acc where
  | rw | ro | wo | w1c | rc
  deriving DecidableEq, Repr

/-- The reset kinds and low-power states of R10. -/
inductive ResetKind where
  | cold | pin | watchdog | soft | control | unit | standby | dormant
  deriving DecidableEq, Repr

/-- The Kept by column (R10): every set of kinds that a table of the manual names. -/
inductive Kept where
  | all | none | c | cs | cu | cus | u | us | st | keep
  deriving DecidableEq, Repr

/-- The Range column (R9). -/
inductive Rng where
  | any
  | u (lo hi : Nat)
  | s (lo hi : Int)
  deriving DecidableEq, Repr

/-- A field of a register. -/
structure FieldRow where
  hi    : Nat
  lo    : Nat
  acc   : Acc
  reset : Nat
  kept  : Kept
  rng   : Rng
  deriving DecidableEq, Repr

/-- A register, or a run of like registers at `base`, `base + stride`, …. -/
structure RegRow where
  base   : Nat
  stride : Nat
  count  : Nat
  fields : List FieldRow
  deriving DecidableEq, Repr

/-- A named field: the address of its word, its lowest bit and its width. -/
structure Fld where
  addr  : Nat
  lo    : Nat
  width : Nat
  deriving DecidableEq, Repr

/-- The key of a field in the register file. -/
def fieldKey (addr lo : Nat) : Nat := addr * 32 + lo

def Fld.key (f : Fld) : Nat := fieldKey f.addr f.lo

/-- Does a field with this Kept by entry survive a reset or state of kind `r` (R10)? -/
def Kept.survives : Kept → ResetKind → Bool
  | .all, _ => true
  | .none, _ => false
  | .c, r => r == .control
  | .cs, r => r == .control || r == .standby
  | .cu, r => r == .control || r == .unit
  | .cus, r => r == .control || r == .unit || r == .standby
  | .u, r => r == .unit
  | .us, r => r == .unit || r == .standby
  | .st, r => r == .standby
  | .keep, r => !(r == .cold)

/-- The registers of unit SYS. -/
def regsSYS : List RegRow :=
  [ ⟨0x4000000C, 4, 1, [⟨0, 0, .ro, 0, .cus, .u 0 1⟩, ⟨1, 1, .ro, 0, .cus, .u 0 1⟩, ⟨2, 2, .ro, 0, .cus, .u 0 1⟩, ⟨3, 3, .ro, 0, .cus, .u 0 1⟩, ⟨4, 4, .ro, 0, .cus, .u 0 1⟩, ⟨5, 5, .ro, 0, .cus, .u 0 1⟩, ⟨15, 8, .rc, 0, .cus, .u 0 255⟩, ⟨16, 16, .rc, 0, .cus, .u 0 1⟩]⟩,
    ⟨0x40000000, 4, 1, [⟨15, 0, .ro, 0, .all, .any⟩, ⟨23, 16, .ro, 0, .all, .any⟩, ⟨31, 24, .ro, 0, .all, .any⟩]⟩,
    ⟨0x40000004, 4, 1, [⟨4, 0, .ro, 0, .all, .u 0 16⟩, ⟨5, 5, .ro, 0, .all, .u 0 1⟩, ⟨6, 6, .ro, 0, .all, .u 0 1⟩, ⟨7, 7, .ro, 0, .all, .u 0 1⟩, ⟨8, 8, .ro, 0, .all, .u 0 1⟩, ⟨19, 16, .ro, 0, .all, .u 0 3⟩, ⟨23, 20, .ro, 0, .all, .u 0 2⟩]⟩,
    ⟨0x40000008, 4, 1, [⟨0, 0, .rw, 0, .us, .u 0 1⟩]⟩,
    ⟨0x40000010, 4, 1, [⟨31, 0, .ro, 0, .cus, .any⟩]⟩,
    ⟨0x40000014, 4, 1, [⟨15, 0, .wo, 0, .none, .any⟩]⟩ ] ++
  [ ⟨0x40000018, 4, 1, [⟨31, 0, .ro, 0, .all, .any⟩]⟩,
    ⟨0x4000001C, 4, 1, [⟨31, 0, .ro, 0, .cus, .any⟩]⟩ ]

/-- The registers of unit KILN. -/
def regsKILN : List RegRow :=
  [ ⟨0x40010000, 4, 1, [⟨10, 0, .w1c, 0, .cus, .any⟩, ⟨26, 16, .ro, 0, .cus, .any⟩, ⟨29, 27, .ro, 0, .cus, .u 0 5⟩, ⟨30, 30, .ro, 0, .cus, .u 0 1⟩, ⟨31, 31, .ro, 0, .cus, .u 0 1⟩]⟩,
    ⟨0x40010004, 4, 1, [⟨10, 0, .wo, 0, .none, .any⟩]⟩,
    ⟨0x40010008, 4, 1, [⟨31, 0, .rc, 0, .cus, .any⟩]⟩,
    ⟨0x4001000C, 4, 1, [⟨8, 0, .ro, 0, .cus, .u 0 256⟩, ⟨23, 16, .rc, 0, .cus, .u 0 255⟩]⟩,
    ⟨0x40010010, 4, 1, [⟨1, 0, .rw, 0, .cus, .u 0 3⟩]⟩,
    ⟨0x40010014, 4, 1, [⟨7, 0, .rc, 0, .cus, .u 0 255⟩, ⟨15, 8, .rc, 0, .cus, .u 0 255⟩, ⟨23, 16, .rc, 0, .cus, .u 0 255⟩, ⟨31, 24, .rc, 0, .cus, .u 0 255⟩]⟩ ] ++
  [ ⟨0x40010018, 4, 1, [⟨31, 0, .ro, 0, .keep, .any⟩]⟩,
    ⟨0x4001001C, 4, 1, [⟨31, 0, .ro, 0, .keep, .any⟩]⟩,
    ⟨0x40010100, 4, 11, [⟨2, 0, .rw, 5, .cus, .u 1 5⟩, ⟨3, 3, .rw, 1, .cus, .u 0 1⟩, ⟨6, 4, .ro, 0, .cus, .u 0 5⟩, ⟨15, 8, .rc, 0, .cus, .u 0 255⟩]⟩ ]

/-- The registers of unit CLK. -/
def regsCLK : List RegRow :=
  [ ⟨0x40020000, 4, 1, [⟨2, 0, .ro, 0, .cus, .u 0 4⟩, ⟨3, 3, .ro, 0, .cus, .u 0 1⟩, ⟨7, 4, .ro, 0, .cus, .u 0 15⟩, ⟨8, 8, .ro, 0, .cus, .u 0 1⟩, ⟨9, 9, .ro, 0, .cus, .u 0 1⟩, ⟨10, 10, .ro, 0, .cs, .u 0 1⟩, ⟨11, 11, .ro, 0, .cs, .u 0 1⟩]⟩,
    ⟨0x40020004, 4, 1, [⟨1, 0, .rw, 0, .cus, .u 0 3⟩, ⟨5, 2, .rw, 0, .cus, .u 0 15⟩, ⟨6, 6, .rw, 0, .cus, .u 0 1⟩, ⟨14, 8, .rw, 10, .cus, .u 1 100⟩, ⟨27, 16, .rw, 300, .cus, .u 10 3600⟩]⟩,
    ⟨0x40020008, 4, 1, [⟨0, 0, .rw, 0, .cus, .u 0 1⟩, ⟨1, 1, .rw, 0, .cus, .u 0 1⟩, ⟨2, 2, .rw, 0, .cus, .u 0 1⟩, ⟨11, 4, .rw, 100, .cus, .u 1 200⟩, ⟨25, 12, .ro, 0, .cus, .u 0 11999⟩]⟩,
    ⟨0x4002000C, 4, 1, [⟨31, 0, .ro, 0, .cus, .s (-500000000) 500000000⟩]⟩,
    ⟨0x40020010, 4, 1, [⟨31, 0, .ro, 0, .keep, .s (-500000000) 500000000⟩]⟩,
    ⟨0x40020014, 4, 1, [⟨31, 0, .ro, 0, .cus, .s (-102400) 102399⟩]⟩ ] ++
  [ ⟨0x40020018, 4, 1, [⟨31, 0, .ro, 0, .cs, .any⟩]⟩,
    ⟨0x4002001C, 4, 1, [⟨17, 0, .rw, 0, .cus, .s (-100000) 100000⟩]⟩,
    ⟨0x40020020, 4, 1, [⟨7, 0, .rc, 0, .cs, .u 0 255⟩, ⟨15, 8, .rc, 0, .cs, .u 0 255⟩, ⟨23, 16, .rc, 0, .cs, .u 0 255⟩, ⟨31, 24, .rc, 0, .cs, .u 0 255⟩]⟩,
    ⟨0x40020100, 16, 16, [⟨0, 0, .rw, 0, .cus, .u 0 1⟩, ⟨5, 1, .rw, 0, .cus, .u 0 13⟩, ⟨8, 6, .rw, 0, .cus, .u 0 3⟩, ⟨13, 10, .rw, 15, .cus, .u 1 15⟩, ⟨18, 14, .rw, 0, .cus, .u 0 20⟩, ⟨19, 19, .rw, 1, .cus, .u 0 1⟩]⟩,
    ⟨0x40020104, 16, 16, [⟨11, 0, .rw, 200, .cus, .u 1 1000⟩, ⟨23, 12, .rw, 100, .cus, .u 1 500⟩, ⟨31, 24, .rw, 100, .cus, .u 1 255⟩]⟩,
    ⟨0x40020108, 16, 16, [⟨11, 0, .rw, 300, .cus, .u 0 3600⟩]⟩ ] ++
  [ ⟨0x4002010C, 16, 16, [⟨2, 0, .ro, 0, .cs, .u 0 7⟩, ⟨31, 8, .ro, 0, .cs, .any⟩]⟩ ]

/-- The registers of unit HOST. -/
def regsHOST : List RegRow :=
  [ ⟨0x40030000, 4, 1, [⟨7, 0, .ro, 0, .cus, .u 0 255⟩, ⟨15, 8, .ro, 0, .cus, .u 0 255⟩, ⟨23, 16, .ro, 0, .cus, .u 0 255⟩, ⟨24, 24, .ro, 0, .none, .u 0 1⟩]⟩,
    ⟨0x40030010, 4, 1, [⟨0, 0, .rw, 0, .cus, .u 0 1⟩, ⟨1, 1, .rw, 0, .cus, .u 0 1⟩, ⟨2, 2, .rw, 0, .cus, .u 0 1⟩, ⟨31, 16, .rw, 49800, .cus, .u 1024 65535⟩]⟩,
    ⟨0x40030014, 4, 1, [⟨0, 0, .rw, 0, .cus, .u 0 1⟩, ⟨1, 1, .rw, 1, .cus, .u 0 1⟩, ⟨2, 2, .rw, 0, .cus, .u 0 1⟩, ⟨31, 16, .rw, 49801, .cus, .u 1024 65535⟩]⟩,
    ⟨0x40030020, 4, 3, [⟨29, 0, .ro, 1, .cus, .u 1 1073741823⟩]⟩,
    ⟨0x40030030, 4, 3, [⟨7, 0, .rc, 0, .cs, .u 0 255⟩, ⟨15, 8, .rc, 0, .cs, .u 0 255⟩, ⟨23, 16, .rc, 0, .cs, .u 0 255⟩, ⟨31, 24, .rc, 0, .cs, .u 0 255⟩]⟩ ]

/-- The registers of unit BAKE. -/
def regsBAKE : List RegRow :=
  [ ⟨0x40040000, 4, 1, [⟨1, 0, .ro, 0, .cus, .u 0 3⟩, ⟨2, 2, .ro, 0, .u, .u 0 1⟩, ⟨3, 3, .ro, 0, .cu, .u 0 1⟩, ⟨4, 4, .ro, 0, .cus, .u 0 1⟩]⟩,
    ⟨0x40040004, 4, 1, [⟨31, 0, .ro, 0, .cus, .any⟩]⟩,
    ⟨0x40040008, 4, 1, [⟨31, 0, .ro, 0, .cus, .any⟩]⟩,
    ⟨0x4004000C, 4, 1, [⟨31, 0, .ro, 0, .cus, .any⟩]⟩,
    ⟨0x40040010, 4, 1, [⟨31, 0, .ro, 0, .cu, .any⟩]⟩,
    ⟨0x40040014, 4, 1, [⟨31, 0, .ro, 0, .cus, .any⟩]⟩ ] ++
  [ ⟨0x40040018, 4, 1, [⟨7, 0, .rc, 0, .cs, .u 0 255⟩, ⟨15, 8, .rc, 0, .cs, .u 0 255⟩, ⟨23, 16, .rc, 0, .cs, .u 0 255⟩, ⟨31, 24, .rc, 0, .cs, .u 0 255⟩]⟩ ]

/-- The registers of unit CORE. -/
def regsCORE : List RegRow :=
  [ ⟨0x40050000, 4, 1, [⟨0, 0, .ro, 0, .cs, .u 0 1⟩, ⟨1, 1, .ro, 0, .cs, .u 0 1⟩]⟩,
    ⟨0x40050010, 4, 4, [⟨31, 0, .ro, 0, .cs, .any⟩]⟩,
    ⟨0x40051000, 16, 128, [⟨0, 0, .w1c, 0, .cs, .u 0 1⟩, ⟨1, 1, .w1c, 0, .cs, .u 0 1⟩, ⟨2, 2, .w1c, 0, .cs, .u 0 1⟩, ⟨3, 3, .w1c, 0, .cs, .u 0 1⟩, ⟨4, 4, .w1c, 0, .cs, .u 0 1⟩, ⟨5, 5, .w1c, 0, .cs, .u 0 1⟩, ⟨6, 6, .w1c, 0, .cs, .u 0 1⟩]⟩,
    ⟨0x40051004, 16, 128, [⟨15, 0, .rc, 0, .cs, .u 0 65535⟩, ⟨31, 16, .rc, 0, .cs, .u 0 65535⟩]⟩,
    ⟨0x40051008, 16, 128, [⟨16, 0, .ro, 0, .cs, .u 0 102399⟩, ⟨31, 30, .ro, 0, .cs, .u 0 3⟩]⟩,
    ⟨0x4005100C, 16, 128, [⟨16, 0, .rc, 0, .cs, .u 0 102399⟩]⟩ ]

/-- The registers of unit MIX. -/
def regsMIX : List RegRow :=
  [ ⟨0x40060000, 4, 1, [⟨18, 0, .ro, 0, .cus, .u 0 262144⟩, ⟨31, 19, .ro, 0, .cu, .u 0 4096⟩]⟩,
    ⟨0x40060004, 4, 1, [⟨16, 0, .ro, 0, .cus, .u 0 65536⟩, ⟨28, 17, .ro, 0, .cus, .u 0 2048⟩]⟩,
    ⟨0x40060008, 4, 1, [⟨7, 0, .rc, 0, .cs, .u 0 255⟩, ⟨15, 8, .rc, 0, .cs, .u 0 255⟩, ⟨23, 16, .rc, 0, .cs, .u 0 255⟩, ⟨31, 24, .rc, 0, .cs, .u 0 255⟩]⟩ ]

/-- The registers of unit DYN. -/
def regsDYN : List RegRow :=
  [ ⟨0x40070000, 4, 1, [⟨10, 0, .ro, 0, .cus, .u 0 1024⟩, ⟨21, 11, .ro, 0, .cus, .u 0 1024⟩, ⟨26, 22, .ro, 0, .cus, .u 0 16⟩]⟩,
    ⟨0x40070004, 4, 1, [⟨15, 0, .rc, 0, .cs, .u 0 65535⟩, ⟨31, 16, .rc, 0, .cs, .u 0 65535⟩]⟩,
    ⟨0x40070100, 4, 16, [⟨15, 0, .ro, 0, .c, .u 0 65535⟩, ⟨23, 16, .ro, 255, .c, .u 0 255⟩, ⟨31, 24, .ro, 255, .c, .u 0 255⟩]⟩ ]

/-- The registers of unit PORT. -/
def regsPORT : List RegRow :=
  [ ⟨0x40080000, 4, 1, [⟨7, 0, .ro, 0, .c, .any⟩, ⟨15, 8, .ro, 0, .c, .any⟩, ⟨23, 16, .ro, 0, .c, .any⟩, ⟨27, 24, .ro, 0, .c, .any⟩]⟩,
    ⟨0x40080100, 16, 8, [⟨5, 0, .rw, 4, .cus, .u 0 63⟩, ⟨14, 8, .rw, 10, .cus, .u 1 100⟩, ⟨26, 16, .rw, 64, .cus, .u 1 1024⟩, ⟨31, 31, .wo, 0, .none, .u 0 1⟩]⟩,
    ⟨0x40080104, 16, 8, [⟨2, 0, .ro, 0, .c, .u 0 5⟩, ⟨5, 3, .ro, 0, .c, .u 0 6⟩, ⟨6, 6, .ro, 0, .cus, .u 0 1⟩, ⟨7, 7, .ro, 0, .cus, .u 0 1⟩]⟩,
    ⟨0x40080108, 16, 8, [⟨7, 0, .rc, 0, .cs, .u 0 255⟩, ⟨15, 8, .rc, 0, .cs, .u 0 255⟩, ⟨23, 16, .rc, 0, .cs, .u 0 255⟩, ⟨31, 24, .rc, 0, .cs, .u 0 255⟩]⟩,
    ⟨0x4008010C, 16, 8, [⟨31, 0, .ro, 0, .cus, .any⟩]⟩,
    ⟨0x40081000, 8, 64, [⟨31, 0, .ro, 0, .c, .any⟩]⟩ ] ++
  [ ⟨0x40081004, 8, 64, [⟨14, 0, .ro, 0, .c, .u 0 25599⟩, ⟨23, 16, .ro, 255, .cus, .any⟩, ⟨31, 31, .ro, 0, .c, .u 0 1⟩]⟩ ]

/-- The registers of unit TRUNK. -/
def regsTRUNK : List RegRow :=
  [ ⟨0x40090000, 4, 1, [⟨7, 0, .ro, 0, .cs, .any⟩, ⟨15, 8, .ro, 0, .cs, .any⟩, ⟨19, 16, .ro, 0, .cs, .any⟩]⟩,
    ⟨0x40090004, 4, 1, [⟨31, 0, .rw, 0, .cus, .any⟩]⟩,
    ⟨0x40090008, 4, 1, [⟨12, 0, .ro, 0, .cus, .u 0 4096⟩]⟩,
    ⟨0x40090100, 32, 8, [⟨0, 0, .rw, 0, .cus, .u 0 1⟩, ⟨1, 1, .rw, 1, .cus, .u 0 1⟩, ⟨5, 2, .rw, 6, .cus, .u 0 14⟩, ⟨9, 6, .rw, 10, .cus, .u 0 15⟩, ⟨12, 10, .rw, 2, .cus, .u 0 7⟩, ⟨13, 13, .wo, 0, .none, .u 0 1⟩]⟩,
    ⟨0x40090104, 32, 8, [⟨2, 0, .ro, 0, .cs, .u 0 5⟩, ⟨6, 3, .ro, 0, .cs, .u 0 14⟩, ⟨7, 7, .ro, 0, .cs, .u 0 1⟩, ⟨8, 8, .ro, 0, .cs, .u 0 1⟩, ⟨9, 9, .ro, 0, .cs, .u 0 1⟩]⟩,
    ⟨0x40090108, 32, 8, [⟨17, 0, .ro, 0, .cs, .u 0 245760⟩]⟩ ] ++
  [ ⟨0x4009010C, 32, 8, [⟨17, 0, .ro, 0, .cs, .u 0 204799⟩]⟩,
    ⟨0x40090110, 32, 8, [⟨31, 0, .ro, 0, .cs, .any⟩]⟩,
    ⟨0x40090114, 32, 8, [⟨31, 0, .ro, 0, .cs, .any⟩]⟩,
    ⟨0x40090118, 32, 8, [⟨7, 0, .rc, 0, .cs, .u 0 255⟩, ⟨15, 8, .rc, 0, .cs, .u 0 255⟩, ⟨23, 16, .rc, 0, .cs, .u 0 255⟩, ⟨31, 24, .rc, 0, .cs, .u 0 255⟩]⟩,
    ⟨0x4009011C, 32, 8, [⟨15, 0, .ro, 0, .cs, .any⟩, ⟨31, 16, .ro, 0, .cs, .any⟩]⟩ ]

/-- The fields of ETHm_CTL; MODE goes to 4 on MAC0 and to 3 on MAC1 (R276). -/
def ethCtlFields (top : Nat) : List FieldRow :=
  [⟨0, 0, .rw, 0, .cus, .u 0 1⟩, ⟨3, 1, .rw, 0, .cus, .u 0 top⟩, ⟨4, 4, .rw, 0, .cus, .u 0 1⟩, ⟨5, 5, .rw, 1, .cus, .u 0 1⟩, ⟨6, 6, .rw, 1, .cus, .u 0 1⟩,
   ⟨7, 7, .rw, 0, .cus, .u 0 1⟩, ⟨19, 8, .rw, 0, .cus, .u 0 4094⟩]

/-- The registers of unit ETH. -/
def regsETH : List RegRow :=
  [ ⟨0x400A0000, 4, 1, [⟨1, 0, .ro, 0, .cs, .any⟩, ⟨3, 2, .ro, 0, .cs, .any⟩, ⟨4, 4, .ro, 0, .st, .u 0 1⟩]⟩,
    ⟨0x400A0004, 4, 1, [⟨6, 0, .ro, 0, .st, .u 0 64⟩, ⟨15, 8, .rc, 0, .cs, .u 0 255⟩]⟩,
    ⟨0x400A0008, 4, 1, [⟨6, 0, .rw, 0, .cus, .u 0 127⟩, ⟨7, 7, .rw, 0, .cus, .u 0 1⟩, ⟨8, 8, .rw, 0, .cus, .u 0 1⟩, ⟨31, 16, .rw, 0, .cus, .s (-32768) 32767⟩]⟩,
    ⟨0x400A0100, 64, 1, ethCtlFields 4⟩, ⟨0x400A0140, 64, 1, ethCtlFields 3⟩,
    ⟨0x400A0104, 64, 2, [⟨6, 0, .rw, 75, .cus, .u 2 100⟩, ⟨14, 8, .rw, 25, .cus, .u 0 98⟩, ⟨31, 16, .rw, 65535, .cus, .u 1 65535⟩]⟩,
    ⟨0x400A0108, 64, 2, [⟨31, 0, .rw, 0, .cus, .any⟩]⟩ ] ++
  [ ⟨0x400A010C, 64, 2, [⟨5, 0, .rw, 24, .cus, .u 0 32⟩]⟩,
    ⟨0x400A0110, 64, 2, [⟨31, 0, .rw, 0, .cus, .any⟩]⟩,
    ⟨0x400A0114, 64, 2, [⟨9, 0, .rw, 100, .cus, .u 10 1000⟩, ⟨19, 10, .ro, 0, .cs, .u 0 1023⟩, ⟨20, 20, .ro, 0, .cs, .u 0 1⟩]⟩,
    ⟨0x400A0118, 64, 2, [⟨8, 0, .ro, 0, .cs, .u 0 256⟩, ⟨24, 16, .rc, 0, .cs, .u 0 256⟩]⟩,
    ⟨0x400A011C, 64, 2, [⟨7, 0, .rc, 0, .cs, .u 0 255⟩, ⟨15, 8, .rc, 0, .cs, .u 0 255⟩, ⟨23, 16, .rc, 0, .cs, .u 0 255⟩, ⟨31, 24, .rc, 0, .cs, .u 0 255⟩]⟩,
    ⟨0x400A0120, 64, 2, [⟨7, 0, .rc, 0, .cs, .u 0 255⟩, ⟨15, 8, .rc, 0, .cs, .u 0 255⟩, ⟨23, 16, .rc, 0, .cs, .u 0 255⟩, ⟨31, 24, .rc, 0, .cs, .u 0 255⟩]⟩ ] ++
  [ ⟨0x400A0124, 64, 2, [⟨31, 0, .ro, 0, .all, .any⟩]⟩,
    ⟨0x400A0128, 64, 2, [⟨15, 0, .ro, 0, .all, .any⟩]⟩ ]

/-- The registers of unit STAGE. -/
def regsSTAGE : List RegRow :=
  [ ⟨0x400B0000, 4, 1, [⟨15, 0, .ro, 0, .c, .any⟩, ⟨31, 16, .ro, 0, .c, .any⟩]⟩,
    ⟨0x400B0040, 4, 8, [⟨11, 0, .ro, 0, .c, .u 0 3932⟩, ⟨12, 12, .ro, 0, .c, .u 0 1⟩, ⟨13, 13, .ro, 0, .c, .u 0 1⟩, ⟨31, 16, .ro, 0, .c, .any⟩]⟩,
    ⟨0x400B0100, 32, 16, [⟨2, 0, .ro, 0, .c, .u 0 7⟩, ⟨5, 3, .ro, 0, .c, .u 0 6⟩, ⟨6, 6, .ro, 0, .c, .u 0 1⟩, ⟨15, 8, .ro, 0, .c, .u 0 255⟩, ⟨18, 16, .ro, 0, .c, .u 0 5⟩]⟩,
    ⟨0x400B0104, 32, 16, [⟨7, 0, .ro, 32, .cus, .u 0 255⟩, ⟨15, 8, .ro, 20, .cus, .u 0 100⟩, ⟨27, 16, .ro, 200, .cus, .u 0 4095⟩, ⟨28, 28, .ro, 1, .cus, .u 0 1⟩]⟩,
    ⟨0x400B0108, 32, 16, [⟨0, 0, .ro, 0, .cus, .u 0 1⟩, ⟨1, 1, .ro, 1, .cus, .u 0 1⟩, ⟨15, 8, .ro, 64, .cus, .u 0 255⟩, ⟨23, 16, .ro, 16, .cus, .u 0 255⟩]⟩,
    ⟨0x400B010C, 32, 16, [⟨7, 0, .ro, 243, .cus, .u 128 251⟩, ⟨15, 8, .ro, 64, .cus, .u 1 255⟩]⟩ ] ++
  [ ⟨0x400B0110, 32, 16, [⟨7, 0, .ro, 10, .cus, .u 5 50⟩, ⟨15, 8, .ro, 30, .cus, .u 10 100⟩, ⟨24, 16, .ro, 50, .cus, .u 10 500⟩]⟩,
    ⟨0x400B0114, 32, 16, [⟨7, 0, .rc, 0, .cs, .u 0 255⟩, ⟨15, 8, .rc, 0, .cs, .u 0 255⟩, ⟨23, 16, .rc, 0, .cs, .u 0 255⟩, ⟨31, 24, .rc, 0, .cs, .u 0 255⟩]⟩ ]

/-- The registers of unit PROT. -/
def regsPROT : List RegRow :=
  [ ⟨0x400C0000, 4, 1, [⟨15, 0, .ro, 0, .c, .any⟩, ⟨31, 16, .ro, 0, .c, .any⟩]⟩,
    ⟨0x400C0004, 4, 1, [⟨15, 0, .ro, 0, .c, .any⟩, ⟨31, 16, .ro, 0, .c, .any⟩]⟩,
    ⟨0x400C0100, 64, 16, [⟨0, 0, .ro, 1, .cus, .u 0 1⟩, ⟨2, 1, .ro, 0, .cus, .u 0 2⟩, ⟨3, 3, .ro, 0, .cus, .u 0 1⟩, ⟨4, 4, .ro, 0, .cus, .u 0 1⟩, ⟨15, 8, .ro, 70, .cus, .u 20 150⟩, ⟨23, 16, .ro, 20, .cus, .u 5 40⟩, ⟨27, 24, .ro, 4, .cus, .u 1 16⟩]⟩,
    ⟨0x400C0104, 64, 16, [⟨15, 0, .ro, 1500, .cus, .u 100 20000⟩, ⟨31, 16, .ro, 400, .cus, .u 50 6000⟩]⟩,
    ⟨0x400C0108, 64, 16, [⟨15, 0, .ro, 1000, .cus, .u 100 20000⟩, ⟨31, 16, .ro, 1800, .cus, .u 100 36000⟩]⟩,
    ⟨0x400C010C, 64, 16, [⟨8, 0, .ro, 150, .cus, .u 40 295⟩, ⟨17, 9, .ro, 180, .cus, .u 60 300⟩, ⟨22, 18, .ro, 10, .cus, .u 1 31⟩, ⟨31, 24, .ro, 255, .cus, .u 1 255⟩]⟩ ] ++
  [ ⟨0x400C0110, 64, 16, [⟨15, 0, .ro, 8000, .cus, .u 500 65535⟩, ⟨23, 16, .ro, 25, .cus, .s (-40) 60⟩, ⟨31, 24, .ro, 0, .cus, .u 0 200⟩]⟩,
    ⟨0x400C0114, 64, 16, [⟨7, 0, .ro, 128, .cus, .u 0 255⟩, ⟨15, 8, .ro, 32, .cus, .u 0 255⟩, ⟨23, 16, .ro, 15, .cus, .u 1 100⟩, ⟨31, 24, .ro, 93, .cus, .u 0 150⟩]⟩,
    ⟨0x400C0118, 64, 16, [⟨7, 0, .ro, 25, .cus, .s (-40) 60⟩, ⟨15, 8, .ro, 50, .cus, .u 10 255⟩, ⟨23, 16, .ro, 30, .cus, .u 10 100⟩]⟩,
    ⟨0x400C011C, 64, 16, [⟨15, 0, .ro, 250, .keep, .any⟩, ⟨31, 16, .ro, 250, .keep, .any⟩]⟩,
    ⟨0x400C0120, 64, 16, [⟨15, 0, .ro, 0, .cs, .u 0 65535⟩, ⟨31, 16, .ro, 0, .cs, .any⟩]⟩,
    ⟨0x400C0124, 64, 16, [⟨2, 0, .ro, 0, .cus, .u 0 5⟩, ⟨15, 4, .ro, 0, .cus, .u 0 2000⟩, ⟨31, 16, .ro, 0, .cus, .u 0 65535⟩]⟩ ] ++
  [ ⟨0x400C0128, 64, 16, [⟨7, 0, .rc, 0, .cs, .u 0 255⟩, ⟨15, 8, .rc, 0, .cs, .u 0 255⟩, ⟨23, 16, .rc, 0, .cs, .u 0 255⟩]⟩,
    ⟨0x400C012C, 64, 16, [⟨1, 0, .ro, 0, .c, .u 0 3⟩, ⟨2, 2, .ro, 0, .c, .u 0 1⟩, ⟨31, 16, .ro, 0, .c, .u 0 65535⟩]⟩ ]

/-- The registers of unit TWIN. -/
def regsTWIN : List RegRow :=
  [ ⟨0x400D0000, 4, 1, [⟨1, 0, .ro, 0, .cus, .u 0 3⟩, ⟨3, 2, .ro, 0, .c, .u 0 3⟩, ⟨4, 4, .ro, 0, .c, .u 0 1⟩, ⟨5, 5, .ro, 0, .cs, .u 0 1⟩]⟩,
    ⟨0x400D0004, 4, 1, [⟨1, 0, .rw, 0, .cus, .u 0 2⟩, ⟨2, 2, .rw, 0, .cus, .u 0 1⟩, ⟨3, 3, .rw, 1, .cus, .u 0 1⟩, ⟨4, 4, .rw, 0, .cus, .u 0 1⟩, ⟨31, 16, .rw, 0, .cus, .u 0 65535⟩]⟩,
    ⟨0x400D0008, 4, 1, [⟨15, 0, .ro, 0, .keep, .any⟩, ⟨31, 16, .ro, 0, .cs, .any⟩]⟩,
    ⟨0x400D000C, 4, 1, [⟨18, 0, .ro, 0, .c, .u 0 262144⟩]⟩,
    ⟨0x400D0010, 4, 1, [⟨18, 0, .rc, 0, .cs, .u 0 262144⟩]⟩,
    ⟨0x400D0014, 4, 1, [⟨16, 0, .ro, 0, .c, .u 0 65536⟩]⟩ ] ++
  [ ⟨0x400D0018, 4, 1, [⟨7, 0, .rc, 0, .cs, .u 0 255⟩, ⟨15, 8, .rc, 0, .cs, .u 0 255⟩, ⟨23, 16, .rc, 0, .cs, .u 0 255⟩, ⟨31, 24, .rc, 0, .cs, .u 0 255⟩]⟩,
    ⟨0x400D0020, 4, 2, [⟨1, 0, .ro, 0, .c, .u 0 3⟩, ⟨3, 2, .ro, 0, .c, .u 0 3⟩, ⟨4, 4, .ro, 0, .c, .u 0 1⟩, ⟨15, 8, .ro, 0, .c, .u 0 255⟩, ⟨31, 16, .ro, 0, .c, .any⟩]⟩ ]

/-- The registers of unit UPD. -/
def regsUPD : List RegRow :=
  [ ⟨0x400E0000, 4, 1, [⟨1, 0, .ro, 0, .us, .u 0 2⟩, ⟨3, 2, .ro, 0, .cus, .u 0 3⟩, ⟨4, 4, .ro, 0, .keep, .u 0 1⟩, ⟨6, 5, .ro, 0, .keep, .u 0 2⟩, ⟨8, 7, .ro, 0, .cus, .u 0 3⟩, ⟨9, 9, .ro, 0, .cus, .u 0 1⟩, ⟨12, 10, .ro, 0, .keep, .u 0 5⟩]⟩,
    ⟨0x400E0004, 4, 1, [⟨31, 0, .ro, 0, .cus, .any⟩]⟩,
    ⟨0x400E0008, 4, 1, [⟨31, 0, .ro, 0, .cus, .any⟩]⟩,
    ⟨0x400E000C, 4, 1, [⟨7, 0, .ro, 0, .keep, .u 0 255⟩, ⟨24, 16, .ro, 0, .us, .u 0 300⟩]⟩,
    ⟨0x400E0010, 4, 1, [⟨8, 0, .rw, 60, .cus, .u 5 300⟩]⟩ ]

/-- The registers of unit FAB. -/
def regsFAB : List RegRow :=
  [ ⟨0x400F0000, 4, 1, [⟨31, 0, .ro, 0, .cs, .any⟩]⟩,
    ⟨0x400F0004, 4, 1, [⟨2, 0, .ro, 0, .cs, .u 0 6⟩, ⟨3, 3, .ro, 0, .cs, .u 0 1⟩]⟩,
    ⟨0x400F0008, 4, 1, [⟨7, 0, .rc, 0, .cs, .u 0 255⟩, ⟨15, 8, .rc, 0, .cs, .u 0 255⟩]⟩,
    ⟨0x400F0010, 4, 3, [⟨15, 0, .rw, 0, .us, .u 0 65535⟩]⟩ ]

/-- The registers of unit PWR. -/
def regsPWR : List RegRow :=
  [ ⟨0x40100000, 4, 1, [⟨6, 0, .ro, 0, .cus, .any⟩, ⟨7, 7, .ro, 0, .cus, .u 0 1⟩, ⟨8, 8, .ro, 0, .cu, .u 0 1⟩]⟩,
    ⟨0x40100004, 4, 1, [⟨15, 0, .ro, 0, .cus, .any⟩, ⟨31, 16, .rc, 0, .cs, .any⟩]⟩,
    ⟨0x40100008, 4, 1, [⟨7, 0, .rc, 0, .cs, .u 0 255⟩]⟩ ]

/-- The registers of unit NVS. -/
def regsNVS : List RegRow :=
  [ ⟨0x40110000, 4, 1, [⟨0, 0, .ro, 0, .cs, .u 0 1⟩, ⟨1, 1, .ro, 0, .cs, .u 0 1⟩, ⟨2, 2, .ro, 0, .cus, .u 0 1⟩, ⟨15, 8, .ro, 0, .cus, .u 0 100⟩]⟩,
    ⟨0x40110004, 4, 1, [⟨12, 0, .rw, 6208, .cus, .u 0 8191⟩]⟩,
    ⟨0x40110008, 4, 1, [⟨0, 0, .wo, 0, .none, .u 0 1⟩]⟩,
    ⟨0x4011000C, 4, 1, [⟨15, 0, .rc, 0, .cs, .u 0 65535⟩, ⟨23, 16, .rc, 0, .cs, .u 0 255⟩, ⟨31, 24, .rc, 0, .cs, .u 0 255⟩]⟩,
    ⟨0x40110040, 4, 16, [⟨31, 0, .rw, 0, .cs, .any⟩]⟩ ]

/-- The registers of unit n (R372). -/
def unitRegs : Nat → List RegRow
  | 0 => regsSYS
  | 1 => regsKILN
  | 2 => regsCLK
  | 3 => regsHOST
  | 4 => regsBAKE
  | 5 => regsCORE
  | 6 => regsMIX
  | 7 => regsDYN
  | 8 => regsPORT
  | 9 => regsTRUNK
  | 10 => regsETH
  | 11 => regsSTAGE
  | 12 => regsPROT
  | 13 => regsTWIN
  | 14 => regsUPD
  | 15 => regsFAB
  | 16 => regsPWR
  | 17 => regsNVS
  | _ => []

def rHOST_STAT : Nat := 0x40030000
def fHOST_STAT_EPOCH0 : Fld := ⟨rHOST_STAT, 0, 8⟩
def fHOST_STAT_EPOCH1 : Fld := ⟨rHOST_STAT, 8, 8⟩
def fHOST_STAT_EPOCH2 : Fld := ⟨rHOST_STAT, 16, 8⟩
def fHOST_STAT_PAUSED : Fld := ⟨rHOST_STAT, 24, 1⟩
def rHOST_UDP1 : Nat := 0x40030010
def fHOST_UDP1_EN : Fld := ⟨rHOST_UDP1, 0, 1⟩
def fHOST_UDP1_MAC : Fld := ⟨rHOST_UDP1, 1, 1⟩
def fHOST_UDP1_PCRC_REQ : Fld := ⟨rHOST_UDP1, 2, 1⟩
def fHOST_UDP1_PORT : Fld := ⟨rHOST_UDP1, 16, 16⟩
def rHOST_UDP2 : Nat := 0x40030014
def fHOST_UDP2_EN : Fld := ⟨rHOST_UDP2, 0, 1⟩
def fHOST_UDP2_MAC : Fld := ⟨rHOST_UDP2, 1, 1⟩
def fHOST_UDP2_PCRC_REQ : Fld := ⟨rHOST_UDP2, 2, 1⟩
def fHOST_UDP2_PORT : Fld := ⟨rHOST_UDP2, 16, 16⟩
def rHOST_HCNT (n : Nat) : Nat := 0x40030020 + 4 * n
def fHOST_HCNT_NEXT (n : Nat) : Fld := ⟨rHOST_HCNT n, 0, 30⟩
def rHOST_ERR (n : Nat) : Nat := 0x40030030 + 4 * n
def fHOST_ERR_HCRC (n : Nat) : Fld := ⟨rHOST_ERR n, 0, 8⟩
def fHOST_ERR_LEN (n : Nat) : Fld := ⟨rHOST_ERR n, 8, 8⟩
def fHOST_ERR_DROP (n : Nat) : Fld := ⟨rHOST_ERR n, 16, 8⟩
def fHOST_ERR_SYNC (n : Nat) : Fld := ⟨rHOST_ERR n, 24, 8⟩
def rBAKE_STAT : Nat := 0x40040000
def fBAKE_STAT_PROOF : Fld := ⟨rBAKE_STAT, 0, 2⟩
def fBAKE_STAT_PENDING : Fld := ⟨rBAKE_STAT, 2, 1⟩
def fBAKE_STAT_FADING : Fld := ⟨rBAKE_STAT, 3, 1⟩
def fBAKE_STAT_MUTED : Fld := ⟨rBAKE_STAT, 4, 1⟩
def rBAKE_OVEN_ID : Nat := 0x40040004
def fBAKE_OVEN_ID_ID : Fld := ⟨rBAKE_OVEN_ID, 0, 32⟩
def rBAKE_PROOF_ID : Nat := 0x40040008
def fBAKE_PROOF_ID_ID : Fld := ⟨rBAKE_PROOF_ID, 0, 32⟩
def rBAKE_LIVE : Nat := 0x4004000C
def fBAKE_LIVE_TRAYS : Fld := ⟨rBAKE_LIVE, 0, 32⟩
def rBAKE_FADEMASK : Nat := 0x40040010
def fBAKE_FADEMASK_TRAYS : Fld := ⟨rBAKE_FADEMASK, 0, 32⟩
def rBAKE_MUTEMASK : Nat := 0x40040014
def fBAKE_MUTEMASK_TRAYS : Fld := ⟨rBAKE_MUTEMASK, 0, 32⟩
def rBAKE_CNT : Nat := 0x40040018
def fBAKE_CNT_MISMATCH : Fld := ⟨rBAKE_CNT, 0, 8⟩
def fBAKE_CNT_PDROP : Fld := ⟨rBAKE_CNT, 8, 8⟩
def fBAKE_CNT_OVERRUN : Fld := ⟨rBAKE_CNT, 16, 8⟩
def fBAKE_CNT_BUNDLE : Fld := ⟨rBAKE_CNT, 24, 8⟩
def rCORE_STAT : Nat := 0x40050000
def fCORE_STAT_ANYFLAG : Fld := ⟨rCORE_STAT, 0, 1⟩
def fCORE_STAT_ANYHALT : Fld := ⟨rCORE_STAT, 1, 1⟩
def rCORE_HALT (n : Nat) : Nat := 0x40050010 + 4 * n
def fCORE_HALT_CORES (n : Nat) : Fld := ⟨rCORE_HALT n, 0, 32⟩
def rCORE_FLAGS (n : Nat) : Nat := 0x40051000 + 16 * n
def fCORE_FLAGS_AOV (n : Nat) : Fld := ⟨rCORE_FLAGS n, 0, 1⟩
def fCORE_FLAGS_FOV (n : Nat) : Fld := ⟨rCORE_FLAGS n, 1, 1⟩
def fCORE_FLAGS_LMOD (n : Nat) : Fld := ⟨rCORE_FLAGS n, 2, 1⟩
def fCORE_FLAGS_OPND (n : Nat) : Fld := ⟨rCORE_FLAGS n, 3, 1⟩
def fCORE_FLAGS_ADDR (n : Nat) : Fld := ⟨rCORE_FLAGS n, 4, 1⟩
def fCORE_FLAGS_BANK (n : Nat) : Fld := ⟨rCORE_FLAGS n, 5, 1⟩
def fCORE_FLAGS_UECC (n : Nat) : Fld := ⟨rCORE_FLAGS n, 6, 1⟩
def rCORE_CNT (n : Nat) : Nat := 0x40051004 + 16 * n
def fCORE_CNT_SAT (n : Nat) : Fld := ⟨rCORE_CNT n, 0, 16⟩
def fCORE_CNT_CORR (n : Nat) : Fld := ⟨rCORE_CNT n, 16, 16⟩
def rCORE_LOAD (n : Nat) : Nat := 0x40051008 + 16 * n
def fCORE_LOAD_LAST (n : Nat) : Fld := ⟨rCORE_LOAD n, 0, 17⟩
def fCORE_LOAD_BG (n : Nat) : Fld := ⟨rCORE_LOAD n, 30, 2⟩
def rCORE_PEAK (n : Nat) : Nat := 0x4005100C + 16 * n
def fCORE_PEAK_PEAK (n : Nat) : Fld := ⟨rCORE_PEAK n, 0, 17⟩
def rMIX_STAT : Nat := 0x40060000
def fMIX_STAT_ACTIVE : Fld := ⟨rMIX_STAT, 0, 19⟩
def fMIX_STAT_FADES : Fld := ⟨rMIX_STAT, 19, 13⟩
def rMIX_POOL : Nat := 0x40060004
def fMIX_POOL_USED : Fld := ⟨rMIX_POOL, 0, 17⟩
def fMIX_POOL_LINES : Fld := ⟨rMIX_POOL, 17, 12⟩
def rMIX_CNT : Nat := 0x40060008
def fMIX_CNT_FOV : Fld := ⟨rMIX_CNT, 0, 8⟩
def fMIX_CNT_SAT : Fld := ⟨rMIX_CNT, 8, 8⟩
def fMIX_CNT_DSAT : Fld := ⟨rMIX_CNT, 16, 8⟩
def fMIX_CNT_DENY : Fld := ⟨rMIX_CNT, 24, 8⟩
def rDYN_STAT : Nat := 0x40070000
def fDYN_STAT_COMP : Fld := ⟨rDYN_STAT, 0, 11⟩
def fDYN_STAT_LIM : Fld := ⟨rDYN_STAT, 11, 11⟩
def fDYN_STAT_OUTLIM : Fld := ⟨rDYN_STAT, 22, 5⟩
def rDYN_CNT : Nat := 0x40070004
def fDYN_CNT_CLAMP : Fld := ⟨rDYN_CNT, 0, 16⟩
def fDYN_CNT_SAT : Fld := ⟨rDYN_CNT, 16, 16⟩
def rDYN_OUT (n : Nat) : Nat := 0x40070100 + 4 * n
def fDYN_OUT_GR (n : Nat) : Fld := ⟨rDYN_OUT n, 0, 16⟩
def fDYN_OUT_THERM (n : Nat) : Fld := ⟨rDYN_OUT n, 16, 8⟩
def fDYN_OUT_HEAD (n : Nat) : Fld := ⟨rDYN_OUT n, 24, 8⟩
def rPORT_STAT : Nat := 0x40080000
def fPORT_STAT_LOST : Fld := ⟨rPORT_STAT, 0, 8⟩
def fPORT_STAT_RUN : Fld := ⟨rPORT_STAT, 8, 8⟩
def fPORT_STAT_UNDERRUN : Fld := ⟨rPORT_STAT, 16, 8⟩
def fPORT_STAT_CLAIMSEL : Fld := ⟨rPORT_STAT, 24, 4⟩
def rPORT_CTL (n : Nat) : Nat := 0x40080100 + 16 * n
def fPORT_CTL_GLITCH (n : Nat) : Fld := ⟨rPORT_CTL n, 0, 6⟩
def fPORT_CTL_ZCTO (n : Nat) : Fld := ⟨rPORT_CTL n, 8, 7⟩
def fPORT_CTL_RAMP (n : Nat) : Fld := ⟨rPORT_CTL n, 16, 11⟩
def fPORT_CTL_CLRCLAIM (n : Nat) : Fld := ⟨rPORT_CTL n, 31, 1⟩
def rPORT_STS (n : Nat) : Nat := 0x40080104 + 16 * n
def fPORT_STS_STATE (n : Nat) : Fld := ⟨rPORT_STS n, 0, 3⟩
def fPORT_STS_RATE (n : Nat) : Fld := ⟨rPORT_STS n, 3, 3⟩
def fPORT_STS_SYNC (n : Nat) : Fld := ⟨rPORT_STS n, 6, 1⟩
def fPORT_STS_MASTER (n : Nat) : Fld := ⟨rPORT_STS n, 7, 1⟩
def rPORT_CNT (n : Nat) : Nat := 0x40080108 + 16 * n
def fPORT_CNT_LOSTC (n : Nat) : Fld := ⟨rPORT_CNT n, 0, 8⟩
def fPORT_CNT_GLITCHC (n : Nat) : Fld := ⟨rPORT_CNT n, 8, 8⟩
def fPORT_CNT_SLIP (n : Nat) : Fld := ⟨rPORT_CNT n, 16, 8⟩
def fPORT_CNT_SAT (n : Nat) : Fld := ⟨rPORT_CNT n, 24, 8⟩
def rPORT_MUTE (n : Nat) : Nat := 0x4008010C + 16 * n
def fPORT_MUTE_MUTED (n : Nat) : Fld := ⟨rPORT_MUTE n, 0, 32⟩
def rASRC_RATIO (n : Nat) : Nat := 0x40081000 + 8 * n
def fASRC_RATIO_RATIO (n : Nat) : Fld := ⟨rASRC_RATIO n, 0, 32⟩
def rASRC_FRAC (n : Nat) : Nat := 0x40081004 + 8 * n
def fASRC_FRAC_FRACTION (n : Nat) : Fld := ⟨rASRC_FRAC n, 0, 15⟩
def fASRC_FRAC_OWNER (n : Nat) : Fld := ⟨rASRC_FRAC n, 16, 8⟩
def fASRC_FRAC_LOCK (n : Nat) : Fld := ⟨rASRC_FRAC n, 31, 1⟩
def rSTAGE_STAT : Nat := 0x400B0000
def fSTAGE_STAT_RUN : Fld := ⟨rSTAGE_STAT, 0, 16⟩
def fSTAGE_STAT_SAFE : Fld := ⟨rSTAGE_STAT, 16, 16⟩
def rSTAGE_LANE (n : Nat) : Nat := 0x400B0040 + 4 * n
def fSTAGE_LANE_FLIGHT (n : Nat) : Fld := ⟨rSTAGE_LANE n, 0, 12⟩
def fSTAGE_LANE_LOCK (n : Nat) : Fld := ⟨rSTAGE_LANE n, 12, 1⟩
def fSTAGE_LANE_IDOK (n : Nat) : Fld := ⟨rSTAGE_LANE n, 13, 1⟩
def fSTAGE_LANE_TYPE (n : Nat) : Fld := ⟨rSTAGE_LANE n, 16, 16⟩
def rSTAGE_STS (n : Nat) : Nat := 0x400B0100 + 32 * n
def fSTAGE_STS_STATE (n : Nat) : Fld := ⟨rSTAGE_STS n, 0, 3⟩
def fSTAGE_STS_CELLS (n : Nat) : Fld := ⟨rSTAGE_STS n, 3, 3⟩
def fSTAGE_STS_HOLD (n : Nat) : Fld := ⟨rSTAGE_STS n, 6, 1⟩
def fSTAGE_STS_HEAD (n : Nat) : Fld := ⟨rSTAGE_STS n, 8, 8⟩
def fSTAGE_STS_ROT (n : Nat) : Fld := ⟨rSTAGE_STS n, 16, 3⟩
def rSTAGE_BAL (n : Nat) : Nat := 0x400B0104 + 32 * n
def fSTAGE_BAL_KB (n : Nat) : Fld := ⟨rSTAGE_BAL n, 0, 8⟩
def fSTAGE_BAL_TRIMMAX (n : Nat) : Fld := ⟨rSTAGE_BAL n, 8, 8⟩
def fSTAGE_BAL_IMIN (n : Nat) : Fld := ⟨rSTAGE_BAL n, 16, 12⟩
def fSTAGE_BAL_ROTEN (n : Nat) : Fld := ⟨rSTAGE_BAL n, 28, 1⟩
def rSTAGE_LOOP (n : Nat) : Nat := 0x400B0108 + 32 * n
def fSTAGE_LOOP_VLOOP (n : Nat) : Fld := ⟨rSTAGE_LOOP n, 0, 1⟩
def fSTAGE_LOOP_BUSFF (n : Nat) : Fld := ⟨rSTAGE_LOOP n, 1, 1⟩
def fSTAGE_LOOP_KP (n : Nat) : Fld := ⟨rSTAGE_LOOP n, 8, 8⟩
def fSTAGE_LOOP_KI (n : Nat) : Fld := ⟨rSTAGE_LOOP n, 16, 8⟩
def rSTAGE_MOD (n : Nat) : Nat := 0x400B010C + 32 * n
def fSTAGE_MOD_MSCALE (n : Nat) : Fld := ⟨rSTAGE_MOD n, 0, 8⟩
def fSTAGE_MOD_HRTHR (n : Nat) : Fld := ⟨rSTAGE_MOD n, 8, 8⟩
def rSTAGE_PC (n : Nat) : Nat := 0x400B0110 + 32 * n
def fSTAGE_PC_PCDUTY (n : Nat) : Fld := ⟨rSTAGE_PC n, 0, 8⟩
def fSTAGE_PC_PCTOL (n : Nat) : Fld := ⟨rSTAGE_PC n, 8, 8⟩
def fSTAGE_PC_PCTIME (n : Nat) : Fld := ⟨rSTAGE_PC n, 16, 9⟩
def rSTAGE_CNT (n : Nat) : Nat := 0x400B0114 + 32 * n
def fSTAGE_CNT_CRCE (n : Nat) : Fld := ⟨rSTAGE_CNT n, 0, 8⟩
def fSTAGE_CNT_LIMIT (n : Nat) : Fld := ⟨rSTAGE_CNT n, 8, 8⟩
def fSTAGE_CNT_CLIP (n : Nat) : Fld := ⟨rSTAGE_CNT n, 16, 8⟩
def fSTAGE_CNT_NSSAT (n : Nat) : Fld := ⟨rSTAGE_CNT n, 24, 8⟩
def rPROT_STAT : Nat := 0x400C0000
def fPROT_STAT_LIMITING : Fld := ⟨rPROT_STAT, 0, 16⟩
def fPROT_STAT_HOT : Fld := ⟨rPROT_STAT, 16, 16⟩
def rPROT_PROBE : Nat := 0x400C0004
def fPROT_PROBE_ACTIVE : Fld := ⟨rPROT_PROBE, 0, 16⟩
def fPROT_PROBE_LOSS : Fld := ⟨rPROT_PROBE, 16, 16⟩
def rPROT_CFG (n : Nat) : Nat := 0x400C0100 + 64 * n
def fPROT_CFG_EN (n : Nat) : Fld := ⟨rPROT_CFG n, 0, 1⟩
def fPROT_CFG_SOURCE (n : Nat) : Fld := ⟨rPROT_CFG n, 1, 2⟩
def fPROT_CFG_LOADCAP (n : Nat) : Fld := ⟨rPROT_CFG n, 3, 1⟩
def fPROT_CFG_PROBE (n : Nat) : Fld := ⟨rPROT_CFG n, 4, 1⟩
def fPROT_CFG_PILOTF (n : Nat) : Fld := ⟨rPROT_CFG n, 8, 8⟩
def fPROT_CFG_FPROG (n : Nat) : Fld := ⟨rPROT_CFG n, 16, 8⟩
def fPROT_CFG_MEASWIN (n : Nat) : Fld := ⟨rPROT_CFG n, 24, 4⟩
def rPROT_TH1 (n : Nat) : Nat := 0x400C0104 + 64 * n
def fPROT_TH1_RTHC (n : Nat) : Fld := ⟨rPROT_TH1 n, 0, 16⟩
def fPROT_TH1_TAUC (n : Nat) : Fld := ⟨rPROT_TH1 n, 16, 16⟩
def rPROT_TH2 (n : Nat) : Nat := 0x400C0108 + 64 * n
def fPROT_TH2_RTHS (n : Nat) : Fld := ⟨rPROT_TH2 n, 0, 16⟩
def fPROT_TH2_TAUS (n : Nat) : Fld := ⟨rPROT_TH2 n, 16, 16⟩
def rPROT_LIM (n : Nat) : Nat := 0x400C010C + 64 * n
def fPROT_LIM_TSTART (n : Nat) : Fld := ⟨rPROT_LIM n, 0, 9⟩
def fPROT_LIM_TMAX (n : Nat) : Fld := ⟨rPROT_LIM n, 9, 9⟩
def fPROT_LIM_TCRIT (n : Nat) : Fld := ⟨rPROT_LIM n, 18, 5⟩
def fPROT_LIM_PFRAC (n : Nat) : Fld := ⟨rPROT_LIM n, 24, 8⟩
def rPROT_TRK (n : Nat) : Nat := 0x400C0110 + 64 * n
def fPROT_TRK_R0 (n : Nat) : Fld := ⟨rPROT_TRK n, 0, 16⟩
def fPROT_TRK_T0 (n : Nat) : Fld := ⟨rPROT_TRK n, 16, 8⟩
def fPROT_TRK_RCABLE (n : Nat) : Fld := ⟨rPROT_TRK n, 24, 8⟩
def rPROT_COR (n : Nat) : Nat := 0x400C0114 + 64 * n
def fPROT_COR_KUP (n : Nat) : Fld := ⟨rPROT_COR n, 0, 8⟩
def fPROT_COR_KDN (n : Nat) : Fld := ⟨rPROT_COR n, 8, 8⟩
def fPROT_COR_DEVMAX (n : Nat) : Fld := ⟨rPROT_COR n, 16, 8⟩
def fPROT_COR_ALPHA (n : Nat) : Fld := ⟨rPROT_COR n, 24, 8⟩
def rPROT_AMB (n : Nat) : Nat := 0x400C0118 + 64 * n
def fPROT_AMB_TAMB (n : Nat) : Fld := ⟨rPROT_AMB n, 0, 8⟩
def fPROT_AMB_IMINP (n : Nat) : Fld := ⟨rPROT_AMB n, 8, 8⟩
def fPROT_AMB_PROBEK (n : Nat) : Fld := ⟨rPROT_AMB n, 16, 8⟩
def rPROT_TEMP (n : Nat) : Nat := 0x400C011C + 64 * n
def fPROT_TEMP_TC (n : Nat) : Fld := ⟨rPROT_TEMP n, 0, 16⟩
def fPROT_TEMP_TS (n : Nat) : Fld := ⟨rPROT_TEMP n, 16, 16⟩
def rPROT_MEAS (n : Nat) : Nat := 0x400C0120 + 64 * n
def fPROT_MEAS_RMEAS (n : Nat) : Fld := ⟨rPROT_MEAS n, 0, 16⟩
def fPROT_MEAS_TMEAS (n : Nat) : Fld := ⟨rPROT_MEAS n, 16, 16⟩
def rPROT_LOAD (n : Nat) : Nat := 0x400C0124 + 64 * n
def fPROT_LOAD_CLASS (n : Nat) : Fld := ⟨rPROT_LOAD n, 0, 3⟩
def fPROT_LOAD_CAP (n : Nat) : Fld := ⟨rPROT_LOAD n, 4, 12⟩
def fPROT_LOAD_RHF (n : Nat) : Fld := ⟨rPROT_LOAD n, 16, 16⟩
def rPROT_CNT (n : Nat) : Nat := 0x400C0128 + 64 * n
def fPROT_CNT_TRIPS (n : Nat) : Fld := ⟨rPROT_CNT n, 0, 8⟩
def fPROT_CNT_BADM (n : Nat) : Fld := ⟨rPROT_CNT n, 8, 8⟩
def fPROT_CNT_LATCHES (n : Nat) : Fld := ⟨rPROT_CNT n, 16, 8⟩
def rPROT_RUN (n : Nat) : Nat := 0x400C012C + 64 * n
def fPROT_RUN_RETRY (n : Nat) : Fld := ⟨rPROT_RUN n, 0, 2⟩
def fPROT_RUN_PILOTON (n : Nat) : Fld := ⟨rPROT_RUN n, 2, 1⟩
def fPROT_RUN_PF (n : Nat) : Fld := ⟨rPROT_RUN n, 16, 16⟩
def rTRUNK_STAT : Nat := 0x40090000
def fTRUNK_STAT_UP : Fld := ⟨rTRUNK_STAT, 0, 8⟩
def fTRUNK_STAT_TRAINING : Fld := ⟨rTRUNK_STAT, 8, 8⟩
def fTRUNK_STAT_CLAIMSEL : Fld := ⟨rTRUNK_STAT, 16, 4⟩
def rTRUNK_NODE : Nat := 0x40090004
def fTRUNK_NODE_NODE_ID : Fld := ⟨rTRUNK_NODE, 0, 32⟩
def rTRUNK_XIT : Nat := 0x40090008
def fTRUNK_XIT_ENTRIES : Fld := ⟨rTRUNK_XIT, 0, 13⟩
def rTL_CTL (n : Nat) : Nat := 0x40090100 + 32 * n
def fTL_CTL_EN (n : Nat) : Fld := ⟨rTL_CTL n, 0, 1⟩
def fTL_CTL_CTLEAUTO (n : Nat) : Fld := ⟨rTL_CTL n, 1, 1⟩
def fTL_CTL_CTLE (n : Nat) : Fld := ⟨rTL_CTL n, 2, 4⟩
def fTL_CTL_TXAMP (n : Nat) : Fld := ⟨rTL_CTL n, 6, 4⟩
def fTL_CTL_DEEMPH (n : Nat) : Fld := ⟨rTL_CTL n, 10, 3⟩
def fTL_CTL_RESTART (n : Nat) : Fld := ⟨rTL_CTL n, 13, 1⟩
def rTL_STS (n : Nat) : Nat := 0x40090104 + 32 * n
def fTL_STS_STATE (n : Nat) : Fld := ⟨rTL_STS n, 0, 3⟩
def fTL_STS_CTLEF (n : Nat) : Fld := ⟨rTL_STS n, 3, 4⟩
def fTL_STS_LOCK (n : Nat) : Fld := ⟨rTL_STS n, 7, 1⟩
def fTL_STS_MAPOK (n : Nat) : Fld := ⟨rTL_STS n, 8, 1⟩
def fTL_STS_HOLD (n : Nat) : Fld := ⟨rTL_STS n, 9, 1⟩
def rTL_RANGE (n : Nat) : Nat := 0x40090108 + 32 * n
def fTL_RANGE_FLIGHT (n : Nat) : Fld := ⟨rTL_RANGE n, 0, 18⟩
def rTL_WAIT (n : Nat) : Nat := 0x4009010C + 32 * n
def fTL_WAIT_WAIT (n : Nat) : Fld := ⟨rTL_WAIT n, 0, 18⟩
def rTL_OFFS (n : Nat) : Nat := 0x40090110 + 32 * n
def fTL_OFFS_OFFS (n : Nat) : Fld := ⟨rTL_OFFS n, 0, 32⟩
def rTL_PEER (n : Nat) : Nat := 0x40090114 + 32 * n
def fTL_PEER_NODE_ID (n : Nat) : Fld := ⟨rTL_PEER n, 0, 32⟩
def rTL_CNT (n : Nat) : Nat := 0x40090118 + 32 * n
def fTL_CNT_CRCE (n : Nat) : Fld := ⟨rTL_CNT n, 0, 8⟩
def fTL_CNT_CODE (n : Nat) : Fld := ⟨rTL_CNT n, 8, 8⟩
def fTL_CNT_SLIP (n : Nat) : Fld := ⟨rTL_CNT n, 16, 8⟩
def fTL_CNT_DOWN (n : Nat) : Fld := ⟨rTL_CNT n, 24, 8⟩
def rTL_CLAIM (n : Nat) : Nat := 0x4009011C + 32 * n
def fTL_CLAIM_HIGH (n : Nat) : Fld := ⟨rTL_CLAIM n, 0, 16⟩
def fTL_CLAIM_LAST (n : Nat) : Fld := ⟨rTL_CLAIM n, 16, 16⟩
def rETH_STAT : Nat := 0x400A0000
def fETH_STAT_LINK : Fld := ⟨rETH_STAT, 0, 2⟩
def fETH_STAT_LPI : Fld := ⟨rETH_STAT, 2, 2⟩
def fETH_STAT_PTPLOCK : Fld := ⟨rETH_STAT, 4, 1⟩
def rETH_TSQ : Nat := 0x400A0004
def fETH_TSQ_COUNT : Fld := ⟨rETH_TSQ, 0, 7⟩
def fETH_TSQ_OVF : Fld := ⟨rETH_TSQ, 8, 8⟩
def rETH_PTP : Nat := 0x400A0008
def fETH_PTP_DOMAIN : Fld := ⟨rETH_PTP, 0, 7⟩
def fETH_PTP_EN : Fld := ⟨rETH_PTP, 7, 1⟩
def fETH_PTP_MASTER : Fld := ⟨rETH_PTP, 8, 1⟩
def fETH_PTP_ASYM : Fld := ⟨rETH_PTP, 16, 16⟩
def rETH_CTL (n : Nat) : Nat := 0x400A0100 + 64 * n
def fETH_CTL_EN (n : Nat) : Fld := ⟨rETH_CTL n, 0, 1⟩
def fETH_CTL_MODE (n : Nat) : Fld := ⟨rETH_CTL n, 1, 3⟩
def fETH_CTL_JUMBO (n : Nat) : Fld := ⟨rETH_CTL n, 4, 1⟩
def fETH_CTL_RXPAUSE (n : Nat) : Fld := ⟨rETH_CTL n, 5, 1⟩
def fETH_CTL_TXPAUSE (n : Nat) : Fld := ⟨rETH_CTL n, 6, 1⟩
def fETH_CTL_EEE (n : Nat) : Fld := ⟨rETH_CTL n, 7, 1⟩
def fETH_CTL_VID (n : Nat) : Fld := ⟨rETH_CTL n, 8, 12⟩
def rETH_WM (n : Nat) : Nat := 0x400A0104 + 64 * n
def fETH_WM_HIGH (n : Nat) : Fld := ⟨rETH_WM n, 0, 7⟩
def fETH_WM_LOW (n : Nat) : Fld := ⟨rETH_WM n, 8, 7⟩
def fETH_WM_PQUANTA (n : Nat) : Fld := ⟨rETH_WM n, 16, 16⟩
def rETH_IP (n : Nat) : Nat := 0x400A0108 + 64 * n
def fETH_IP_ADDR (n : Nat) : Fld := ⟨rETH_IP n, 0, 32⟩
def rETH_NET (n : Nat) : Nat := 0x400A010C + 64 * n
def fETH_NET_PREFIX (n : Nat) : Fld := ⟨rETH_NET n, 0, 6⟩
def rETH_GW (n : Nat) : Nat := 0x400A0110 + 64 * n
def fETH_GW_GW (n : Nat) : Fld := ⟨rETH_GW n, 0, 32⟩
def rETH_EEE (n : Nat) : Nat := 0x400A0114 + 64 * n
def fETH_EEE_LPIDLY (n : Nat) : Fld := ⟨rETH_EEE n, 0, 10⟩
def fETH_EEE_TWRES (n : Nat) : Fld := ⟨rETH_EEE n, 10, 10⟩
def fETH_EEE_AGREED (n : Nat) : Fld := ⟨rETH_EEE n, 20, 1⟩
def rETH_FILL (n : Nat) : Nat := 0x400A0118 + 64 * n
def fETH_FILL_FILL (n : Nat) : Fld := ⟨rETH_FILL n, 0, 9⟩
def fETH_FILL_PEAK (n : Nat) : Fld := ⟨rETH_FILL n, 16, 9⟩
def rETH_CNT (n : Nat) : Nat := 0x400A011C + 64 * n
def fETH_CNT_RUNT (n : Nat) : Fld := ⟨rETH_CNT n, 0, 8⟩
def fETH_CNT_LONG (n : Nat) : Fld := ⟨rETH_CNT n, 8, 8⟩
def fETH_CNT_FCS (n : Nat) : Fld := ⟨rETH_CNT n, 16, 8⟩
def fETH_CNT_OVF (n : Nat) : Fld := ⟨rETH_CNT n, 24, 8⟩
def rETH_CNT2 (n : Nat) : Nat := 0x400A0120 + 64 * n
def fETH_CNT2_PTX (n : Nat) : Fld := ⟨rETH_CNT2 n, 0, 8⟩
def fETH_CNT2_PRX (n : Nat) : Fld := ⟨rETH_CNT2 n, 8, 8⟩
def fETH_CNT2_FILT (n : Nat) : Fld := ⟨rETH_CNT2 n, 16, 8⟩
def fETH_CNT2_LATE (n : Nat) : Fld := ⟨rETH_CNT2 n, 24, 8⟩
def rETH_MACL (n : Nat) : Nat := 0x400A0124 + 64 * n
def fETH_MACL_ADDR (n : Nat) : Fld := ⟨rETH_MACL n, 0, 32⟩
def rETH_MACH (n : Nat) : Nat := 0x400A0128 + 64 * n
def fETH_MACH_ADDR (n : Nat) : Fld := ⟨rETH_MACH n, 0, 16⟩
def rCLK_STAT : Nat := 0x40020000
def fCLK_STAT_STATE : Fld := ⟨rCLK_STAT, 0, 3⟩
def fCLK_STAT_SELV : Fld := ⟨rCLK_STAT, 3, 1⟩
def fCLK_STAT_SEL : Fld := ⟨rCLK_STAT, 4, 4⟩
def fCLK_STAT_ROOTLOCK : Fld := ⟨rCLK_STAT, 8, 1⟩
def fCLK_STAT_BANKOK : Fld := ⟨rCLK_STAT, 9, 1⟩
def fCLK_STAT_ALIGNING : Fld := ⟨rCLK_STAT, 10, 1⟩
def fCLK_STAT_DISAGREE : Fld := ⟨rCLK_STAT, 11, 1⟩
def rCLK_CTL : Nat := 0x40020004
def fCLK_CTL_SELMODE : Fld := ⟨rCLK_CTL, 0, 2⟩
def fCLK_CTL_MANUAL : Fld := ⟨rCLK_CTL, 2, 4⟩
def fCLK_CTL_LOOP : Fld := ⟨rCLK_CTL, 6, 1⟩
def fCLK_CTL_ALSLEW : Fld := ⟨rCLK_CTL, 8, 7⟩
def fCLK_CTL_HOLDTAU : Fld := ⟨rCLK_CTL, 16, 12⟩
def rCLK_OUT : Nat := 0x40020008
def fCLK_OUT_WCEN : Fld := ⟨rCLK_OUT, 0, 1⟩
def fCLK_OUT_WCRATE : Fld := ⟨rCLK_OUT, 1, 1⟩
def fCLK_OUT_PPSEN : Fld := ⟨rCLK_OUT, 2, 1⟩
def fCLK_OUT_PPSW : Fld := ⟨rCLK_OUT, 4, 8⟩
def fCLK_OUT_PPSCNT : Fld := ⟨rCLK_OUT, 12, 14⟩
def rCLK_FREQ : Nat := 0x4002000C
def fCLK_FREQ_FREQ : Fld := ⟨rCLK_FREQ, 0, 32⟩
def rCLK_BANK : Nat := 0x40020010
def fCLK_BANK_BANK : Fld := ⟨rCLK_BANK, 0, 32⟩
def rCLK_PHASE : Nat := 0x40020014
def fCLK_PHASE_PHASE : Fld := ⟨rCLK_PHASE, 0, 32⟩
def rCLK_PHERR : Nat := 0x40020018
def fCLK_PHERR_PHERR : Fld := ⟨rCLK_PHERR, 0, 32⟩
def rCLK_XO : Nat := 0x4002001C
def fCLK_XO_XOTRIM : Fld := ⟨rCLK_XO, 0, 18⟩
def rCLK_CNT : Nat := 0x40020020
def fCLK_CNT_SWITCH : Fld := ⟨rCLK_CNT, 0, 8⟩
def fCLK_CNT_LOS : Fld := ⟨rCLK_CNT, 8, 8⟩
def fCLK_CNT_DEMOTE : Fld := ⟨rCLK_CNT, 16, 8⟩
def fCLK_CNT_DISAG : Fld := ⟨rCLK_CNT, 24, 8⟩
def rCLK_CFG (n : Nat) : Nat := 0x40020100 + 16 * n
def fCLK_CFG_EN (n : Nat) : Fld := ⟨rCLK_CFG n, 0, 1⟩
def fCLK_CFG_SOURCE (n : Nat) : Fld := ⟨rCLK_CFG n, 1, 5⟩
def fCLK_CFG_TYPE (n : Nat) : Fld := ⟨rCLK_CFG n, 6, 3⟩
def fCLK_CFG_RANK (n : Nat) : Fld := ⟨rCLK_CFG n, 10, 4⟩
def fCLK_CFG_BW (n : Nat) : Fld := ⟨rCLK_CFG n, 14, 5⟩
def fCLK_CFG_DEFBW (n : Nat) : Fld := ⟨rCLK_CFG n, 19, 1⟩
def rCLK_LIM (n : Nat) : Nat := 0x40020104 + 16 * n
def fCLK_LIM_SOFT (n : Nat) : Fld := ⟨rCLK_LIM n, 0, 12⟩
def fCLK_LIM_HARD (n : Nat) : Fld := ⟨rCLK_LIM n, 12, 12⟩
def fCLK_LIM_DWELL (n : Nat) : Fld := ⟨rCLK_LIM n, 24, 8⟩
def rCLK_WTR (n : Nat) : Nat := 0x40020108 + 16 * n
def fCLK_WTR_WTR (n : Nat) : Fld := ⟨rCLK_WTR n, 0, 12⟩
def rCLK_STS (n : Nat) : Nat := 0x4002010C + 16 * n
def fCLK_STS_STATE (n : Nat) : Fld := ⟨rCLK_STS n, 0, 3⟩
def fCLK_STS_FREQ (n : Nat) : Fld := ⟨rCLK_STS n, 8, 24⟩
def rTWIN_STAT : Nat := 0x400D0000
def fTWIN_STAT_ROLE : Fld := ⟨rTWIN_STAT, 0, 2⟩
def fTWIN_STAT_SYNC : Fld := ⟨rTWIN_STAT, 2, 2⟩
def fTWIN_STAT_REFOK : Fld := ⟨rTWIN_STAT, 4, 1⟩
def fTWIN_STAT_TWUP : Fld := ⟨rTWIN_STAT, 5, 1⟩
def rTWIN_CFG : Nat := 0x400D0004
def fTWIN_CFG_ROLE : Fld := ⟨rTWIN_CFG, 0, 2⟩
def fTWIN_CFG_SIDE : Fld := ⟨rTWIN_CFG, 2, 1⟩
def fTWIN_CFG_AUTOJOIN : Fld := ⟨rTWIN_CFG, 3, 1⟩
def fTWIN_CFG_PREFER : Fld := ⟨rTWIN_CFG, 4, 1⟩
def fTWIN_CFG_PAIRID : Fld := ⟨rTWIN_CFG, 16, 16⟩
def rTWIN_CLAIM : Nat := 0x400D0008
def fTWIN_CLAIM_CLAIM : Fld := ⟨rTWIN_CLAIM, 0, 16⟩
def fTWIN_CLAIM_HIGH : Fld := ⟨rTWIN_CLAIM, 16, 16⟩
def rTWIN_MIR : Nat := 0x400D000C
def fTWIN_MIR_LAST : Fld := ⟨rTWIN_MIR, 0, 19⟩
def rTWIN_MIRPK : Nat := 0x400D0010
def fTWIN_MIRPK_PEAK : Fld := ⟨rTWIN_MIRPK, 0, 19⟩
def rTWIN_COPY : Nat := 0x400D0014
def fTWIN_COPY_REMAIN : Fld := ⟨rTWIN_COPY, 0, 17⟩
def rTWIN_CNT : Nat := 0x400D0018
def fTWIN_CNT_DIVERGE : Fld := ⟨rTWIN_CNT, 0, 8⟩
def fTWIN_CNT_MISS : Fld := ⟨rTWIN_CNT, 8, 8⟩
def fTWIN_CNT_GRANT : Fld := ⟨rTWIN_CNT, 16, 8⟩
def fTWIN_CNT_SYNCLOSS : Fld := ⟨rTWIN_CNT, 24, 8⟩
def rTWIN_SIDE (n : Nat) : Nat := 0x400D0020 + 4 * n
def fTWIN_SIDE_ROLE (n : Nat) : Fld := ⟨rTWIN_SIDE n, 0, 2⟩
def fTWIN_SIDE_SYNC (n : Nat) : Fld := ⟨rTWIN_SIDE n, 2, 2⟩
def fTWIN_SIDE_OK (n : Nat) : Fld := ⟨rTWIN_SIDE n, 4, 1⟩
def fTWIN_SIDE_MISSRUN (n : Nat) : Fld := ⟨rTWIN_SIDE n, 8, 8⟩
def fTWIN_SIDE_CLAIM (n : Nat) : Fld := ⟨rTWIN_SIDE n, 16, 16⟩
def rSYS_RSTCAUSE : Nat := 0x4000000C
def fSYS_RSTCAUSE_COLD : Fld := ⟨rSYS_RSTCAUSE, 0, 1⟩
def fSYS_RSTCAUSE_PIN : Fld := ⟨rSYS_RSTCAUSE, 1, 1⟩
def fSYS_RSTCAUSE_BROWN : Fld := ⟨rSYS_RSTCAUSE, 2, 1⟩
def fSYS_RSTCAUSE_WDOG : Fld := ⟨rSYS_RSTCAUSE, 3, 1⟩
def fSYS_RSTCAUSE_SOFT : Fld := ⟨rSYS_RSTCAUSE, 4, 1⟩
def fSYS_RSTCAUSE_DORM : Fld := ⟨rSYS_RSTCAUSE, 5, 1⟩
def fSYS_RSTCAUSE_CTRL : Fld := ⟨rSYS_RSTCAUSE, 8, 8⟩
def fSYS_RSTCAUSE_CWDOG : Fld := ⟨rSYS_RSTCAUSE, 16, 1⟩
def rKILN_STAT : Nat := 0x40010000
def fKILN_STAT_ACTIVE : Fld := ⟨rKILN_STAT, 0, 11⟩
def fKILN_STAT_UNACK : Fld := ⟨rKILN_STAT, 16, 11⟩
def fKILN_STAT_MAXLVL : Fld := ⟨rKILN_STAT, 27, 3⟩
def fKILN_STAT_FAILREQ : Fld := ⟨rKILN_STAT, 30, 1⟩
def fKILN_STAT_SAFE : Fld := ⟨rKILN_STAT, 31, 1⟩
def rKILN_ACK : Nat := 0x40010004
def fKILN_ACK_ACK : Fld := ⟨rKILN_ACK, 0, 11⟩
def rKILN_LOG : Nat := 0x40010008
def fKILN_LOG_WORD : Fld := ⟨rKILN_LOG, 0, 32⟩
def rKILN_LOGSTAT : Nat := 0x4001000C
def fKILN_LOGSTAT_COUNT : Fld := ⟨rKILN_LOGSTAT, 0, 9⟩
def fKILN_LOGSTAT_LOST : Fld := ⟨rKILN_LOGSTAT, 16, 8⟩
def rKILN_CFG : Nat := 0x40010010
def fKILN_CFG_NOTIFY : Fld := ⟨rKILN_CFG, 0, 2⟩
def rKILN_CNT : Nat := 0x40010014
def fKILN_CNT_REFUSED : Fld := ⟨rKILN_CNT, 0, 8⟩
def fKILN_CNT_CONSEQ : Fld := ⟨rKILN_CNT, 8, 8⟩
def fKILN_CNT_ESCAL : Fld := ⟨rKILN_CNT, 16, 8⟩
def fKILN_CNT_DROP : Fld := ⟨rKILN_CNT, 24, 8⟩
def rKILN_LASTH : Nat := 0x40010018
def fKILN_LASTH_SHARD : Fld := ⟨rKILN_LASTH, 0, 32⟩
def rKILN_LASTL : Nat := 0x4001001C
def fKILN_LASTL_SHARD : Fld := ⟨rKILN_LASTL, 0, 32⟩
def rKILN_CLS (n : Nat) : Nat := 0x40010100 + 4 * n
def fKILN_CLS_ESCMAX (n : Nat) : Fld := ⟨rKILN_CLS n, 0, 3⟩
def fKILN_CLS_IRQEN (n : Nat) : Fld := ⟨rKILN_CLS n, 3, 1⟩
def fKILN_CLS_ESC (n : Nat) : Fld := ⟨rKILN_CLS n, 4, 3⟩
def fKILN_CLS_COUNT (n : Nat) : Fld := ⟨rKILN_CLS n, 8, 8⟩
def rPWR_STAT : Nat := 0x40100000
def fPWR_STAT_WARN : Fld := ⟨rPWR_STAT, 0, 7⟩
def fPWR_STAT_DAMPER : Fld := ⟨rPWR_STAT, 7, 1⟩
def fPWR_STAT_STANDBY : Fld := ⟨rPWR_STAT, 8, 1⟩
def rPWR_TJ : Nat := 0x40100004
def fPWR_TJ_TJ : Fld := ⟨rPWR_TJ, 0, 16⟩
def fPWR_TJ_PEAK : Fld := ⟨rPWR_TJ, 16, 16⟩
def rPWR_CNT : Nat := 0x40100008
def fPWR_CNT_DIPS : Fld := ⟨rPWR_CNT, 0, 8⟩
def rSYS_ID : Nat := 0x40000000
def fSYS_ID_PART : Fld := ⟨rSYS_ID, 0, 16⟩
def fSYS_ID_MASKREV : Fld := ⟨rSYS_ID, 16, 8⟩
def fSYS_ID_VENDOR : Fld := ⟨rSYS_ID, 24, 8⟩
def rSYS_CAPS : Nat := 0x40000004
def fSYS_CAPS_CLUSTERS : Fld := ⟨rSYS_CAPS, 0, 5⟩
def fSYS_CAPS_MOD : Fld := ⟨rSYS_CAPS, 5, 1⟩
def fSYS_CAPS_PROT : Fld := ⟨rSYS_CAPS, 6, 1⟩
def fSYS_CAPS_TWIN : Fld := ⟨rSYS_CAPS, 7, 1⟩
def fSYS_CAPS_REF : Fld := ⟨rSYS_CAPS, 8, 1⟩
def fSYS_CAPS_MEMBER : Fld := ⟨rSYS_CAPS, 16, 4⟩
def fSYS_CAPS_VARIANT : Fld := ⟨rSYS_CAPS, 20, 4⟩
def rSYS_REMAP : Nat := 0x40000008
def fSYS_REMAP_WRAM : Fld := ⟨rSYS_REMAP, 0, 1⟩
def rSYS_BATCH : Nat := 0x40000010
def fSYS_BATCH_INDEX : Fld := ⟨rSYS_BATCH, 0, 32⟩
def rSYS_WDOG : Nat := 0x40000014
def fSYS_WDOG_KEY : Fld := ⟨rSYS_WDOG, 0, 16⟩
def rSYS_ROMVER : Nat := 0x40000018
def fSYS_ROMVER_VERSION : Fld := ⟨rSYS_ROMVER, 0, 32⟩
def rSYS_OVLVER : Nat := 0x4000001C
def fSYS_OVLVER_VERSION : Fld := ⟨rSYS_OVLVER, 0, 32⟩
def rFAB_ERR : Nat := 0x400F0000
def fFAB_ERR_ADDR : Fld := ⟨rFAB_ERR, 0, 32⟩
def rFAB_ERRSRC : Nat := 0x400F0004
def fFAB_ERRSRC_MASTER : Fld := ⟨rFAB_ERRSRC, 0, 3⟩
def fFAB_ERRSRC_WRITE : Fld := ⟨rFAB_ERRSRC, 3, 1⟩
def rFAB_CNT : Nat := 0x400F0008
def fFAB_CNT_DECODE : Fld := ⟨rFAB_CNT, 0, 8⟩
def fFAB_CNT_CUT : Fld := ⟨rFAB_CNT, 8, 8⟩
def rFAB_HBEAT (n : Nat) : Nat := 0x400F0010 + 4 * n
def fFAB_HBEAT_COUNT (n : Nat) : Fld := ⟨rFAB_HBEAT n, 0, 16⟩
def rUPD_STAT : Nat := 0x400E0000
def fUPD_STAT_SESS : Fld := ⟨rUPD_STAT, 0, 2⟩
def fUPD_STAT_INACT : Fld := ⟨rUPD_STAT, 2, 2⟩
def fUPD_STAT_ACTBANK : Fld := ⟨rUPD_STAT, 4, 1⟩
def fUPD_STAT_HPEND : Fld := ⟨rUPD_STAT, 5, 2⟩
def fUPD_STAT_MIG : Fld := ⟨rUPD_STAT, 7, 2⟩
def fUPD_STAT_ROMONLY : Fld := ⟨rUPD_STAT, 9, 1⟩
def fUPD_STAT_LASTFB : Fld := ⟨rUPD_STAT, 10, 3⟩
def rUPD_VERA : Nat := 0x400E0004
def fUPD_VERA_VERSION : Fld := ⟨rUPD_VERA, 0, 32⟩
def rUPD_VERB : Nat := 0x400E0008
def fUPD_VERB_VERSION : Fld := ⟨rUPD_VERB, 0, 32⟩
def rUPD_BOOT : Nat := 0x400E000C
def fUPD_BOOT_COUNT : Fld := ⟨rUPD_BOOT, 0, 8⟩
def fUPD_BOOT_HLEFT : Fld := ⟨rUPD_BOOT, 16, 9⟩
def rUPD_CFG : Nat := 0x400E0010
def fUPD_CFG_HWIN : Fld := ⟨rUPD_CFG, 0, 9⟩
def rNVS_STAT : Nat := 0x40110000
def fNVS_STAT_BUSY : Fld := ⟨rNVS_STAT, 0, 1⟩
def fNVS_STAT_HELD : Fld := ⟨rNVS_STAT, 1, 1⟩
def fNVS_STAT_PRIMARY : Fld := ⟨rNVS_STAT, 2, 1⟩
def fNVS_STAT_WEAR : Fld := ⟨rNVS_STAT, 8, 8⟩
def rNVS_LINE : Nat := 0x40110004
def fNVS_LINE_LINE : Fld := ⟨rNVS_LINE, 0, 13⟩
def rNVS_GO : Nat := 0x40110008
def fNVS_GO_WRITE : Fld := ⟨rNVS_GO, 0, 1⟩
def rNVS_CNT : Nat := 0x4011000C
def fNVS_CNT_LINES : Fld := ⟨rNVS_CNT, 0, 16⟩
def fNVS_CNT_CORR : Fld := ⟨rNVS_CNT, 16, 8⟩
def fNVS_CNT_REJ : Fld := ⟨rNVS_CNT, 24, 8⟩
def rNVS_BUF (n : Nat) : Nat := 0x40110040 + 4 * n
def fNVS_BUF_DATA (n : Nat) : Fld := ⟨rNVS_BUF n, 0, 32⟩

/-- The row that decodes an address. -/
def rowAt (addr : Nat) : Option RegRow :=
  (unitRegs ((addr - 0x40000000) / 65536)).find? fun r =>
    decide (r.base ≤ addr) && (addr - r.base) % r.stride == 0 && decide ((addr - r.base) / r.stride < r.count)

/-- The field of the register at `addr` whose lowest bit is `lo`. -/
def fieldAt (addr lo : Nat) : Option FieldRow :=
  match rowAt addr with
  | some r => r.fields.find? (fun f => f.lo == lo)
  | none => none

/-- What a field holds after a reset that does not keep it: what an unlisted key of the register file reads as. -/
def fieldReset (key : Nat) : Nat :=
  match fieldAt (key / 32) (key % 32) with
  | some f => f.reset
  | none => 0

/-- Does the field of this key survive a reset of kind `k` (R10)? -/
def fieldKept (k : ResetKind) (key : Nat) : Bool :=
  match fieldAt (key / 32) (key % 32) with
  | some f => f.kept.survives k
  | none => false

/-- The register unit an address lies in (R372). -/
def unitOfAddr (addr : Nat) : Nat := (addr - 0x40000000) / 65536

end Sys2Proof.Machine
end

