-- ==== Sys2Proof/Machine/State.lean ====
section
/-! DEFINITION. The state of the THR-1024 as plain data: the register file, the command channels, the bake, the cores, the
fixed units, the ports and lanes, the Clock Unit, the twin, the Kiln, the supplies, the fabric and the update store, and the
queue of waiting commands. Registers' fields live in `regs`, one entry for each field that differs from its value after reset
(Machine/RegMap.lean), so that a field has one home. Numbered groups (ports, outputs, lanes, cores) are sparse tables whose
unlisted members stand as after reset. -/
namespace Sys2Proof.Machine

open Sys2Proof

/-! ## Fuses and phases -/

/-- The ordering variants (R1). -/
inductive Variant where
  | a | m | n
  deriving DecidableEq, Repr

/-- What fuses fix at manufacture (R3, R276, R373). `mac0` is the address of MAC0; MAC1's is that plus 1 (R258). -/
structure Fuses where
  variant : Variant := .a
  maskrev : Nat := 0
  romver  : Nat := 0
  mac0    : Nat := 0
  deriving DecidableEq, Repr

/-- Whether the engine is held in reset, running, or in Dormant (R349, R353, R396, R397). `keepLow`: VKEEP is below 1.30 V. -/
inductive Phase where
  | keepLow | held | run | dormant
  deriving DecidableEq, Repr

/-- Standby as R352 sets it out. `entering n` counts the boundaries to the gating boundary, and is 100 until the boundary of entry. -/
inductive StandbySt where
  | awake | entering (left : Nat) | gated | leaving
  deriving DecidableEq, Repr

/-! ## Command channels (chapter 02) -/

/-- An item of an outbound queue (R55): its bytes, whether it is an immediate reply, and the handle it completes. -/
structure OutItem where
  reply  : Bool
  bytes  : List Byte
  handle : Option Word
  deriving DecidableEq, Repr

/-- An open handle (R51, R52, R60): `gen` numbers the Control resets and fault recoveries before its issue, `stopped` marks an
operation that a reset has stopped, `done` one that has finished. -/
structure HandleRec where
  h       : Word
  opcode  : Nat
  tag     : Half
  gen     : Nat
  stopped : Bool
  done    : Bool
  deriving DecidableEq, Repr

/-- A finished operation whose completion has not entered the outbound queue (R60). -/
structure Compl where
  h      : Word
  status : Nat
  batch  : Word
  result : List Byte
  deriving DecidableEq, Repr

/-- A stored result (R54) and the SEQ of its completion; `left` counts the later completions until it is dropped. -/
structure StoredResult where
  h      : Word
  seq    : Nat
  bytes  : List Byte
  left   : Nat
  deriving DecidableEq, Repr

/-- An entry of a replay cache (R41). -/
structure ReplayEntry where
  tag   : Half
  key   : Half
  bytes : List Byte
  deriving DecidableEq, Repr

/-- A completion sent over UDP and not yet acknowledged (R42); `wait` is the interval before the next resend, in ms. -/
structure Unacked where
  h     : Word
  seq   : Nat
  bytes : List Byte
  wait  : Nat
  deriving DecidableEq, Repr

/-- A command channel (R33). -/
structure Chan where
  epoch   : Nat := 0
  next    : Nat := 1
  seq     : Nat := 1
  inBuf   : List (List Byte) := []
  out     : List OutItem := []
  handles : List HandleRec := []
  held    : List Compl := []
  results : List StoredResult := []
  replay  : List ReplayEntry := []
  unacked : List Unacked := []
  peer    : Option Peer := none
  dHcrc   : Nat := 0
  dLen    : Nat := 0
  dDrop   : Nat := 0
  dSync   : Nat := 0
  dFrag   : Nat := 0
  dResend : Nat := 0
  deriving DecidableEq, Repr

/-- A handled operation that runs (R50). -/
inductive OpKind where
  | romCheck
  | scrub (region : Nat) (paused : Bool)
  | bakeLoad (flash : Option Nat)
  | commit
  | train (mask : Nat)
  | sweep (out : Nat)
  | cal (out : Nat)
  | range (lane : Nat)
  | msgSend (lane : Nat) (seq : Nat)
  | align (moved : Int)
  | join
  | switch
  | standbyEnter
  | standbyLeave
  | bootSave
  | updWrite
  | updClose (crc : Word)
  | activate
  deriving DecidableEq, Repr

structure Op where
  ch   : Nat
  h    : Word
  kind : OpKind
  deriving DecidableEq, Repr

/-! ## Ramps and staged writes (R18 to R20, R85, R135) -/

/-- A linear ramp: start, target, length and samples done. -/
structure Ramp where
  start  : Word := 0
  target : Word := 0
  len    : Nat := 0
  pos    : Nat := 0
  deriving DecidableEq, Repr

/-- A write that waits for its boundary (R18). -/
inductive StagedWrite where
  | param (id : Nat) (ramp : Nat) (value : Word)
  | bundle (id : Nat) (ramp : Nat) (coeffs : List Word)
  | xp (src dst : Nat) (gain : Word) (ramp : Nat)
  | route (dst : Nat) (ramp : Nat) (entries : List RouteEntry)
  | delay (line : Nat) (ramp : Nat) (delay : Nat)
  | dyn (inst mask : Nat) (set : DynSet)
  | gate (port : Nat) (action : Nat) (ramp : Nat) (mask : Nat)
  | run (out : Nat) (action : Nat)
  | stage (out : Nat) (mask : Nat) (words : List Word)
  | prot (out : Nat) (mask : Nat) (words : List Word)
  | aes (owner : Nat) (f : AesFields)
  | train (mask : Nat)
  | sweep (out : Nat)
  | cal (out : Nat) (tcal : Int)
  deriving DecidableEq, Repr

/-- A staged write and the batch index at whose boundary it takes effect. -/
structure Staged where
  due : Word
  w   : StagedWrite
  deriving DecidableEq, Repr

/-! ## The bake (chapter 03) -/

/-- A pending commit (R76, R77, R80): its handle, mask, the batch at which it may begin, the pre-fade samples left (`none`
before the pre-fade has begun), and the exports it has faded, with the L and the tray of each. -/
structure Commit where
  ch    : Nat
  h     : Word
  mask  : Nat
  start : Word
  fade  : Option Nat
  faded : List (Nat × Nat × Nat)
  deriving DecidableEq, Repr

/-- The gain that a fade puts on a slot's words (R80, R81, R90, R341). -/
structure SlotFade where
  gain : Ramp := { start := 0x3F800000, target := 0x3F800000, len := 0, pos := 0 }
  deriving DecidableEq, Repr

/-- A tray in the oven: samples left of its pre-fade and fade-in, the hard mute of R90 and R99 with the classes still to be
cleared, the classes whose level-2 reactions mute it (R341), whether its exports ramp down or up
from the next boundary, and whether they then rise over their groups' L. -/
structure TraySt where
  preFade : Nat := 0
  fadeIn  : Nat := 0
  hard    : Bool := false
  hardCls : Nat := 0
  soft    : Nat := 0
  muteDue : Bool := false
  openDue : Bool := false
  long    : Bool := false
  deriving DecidableEq, Repr

/-- A live parameter (R79, R85). -/
structure ParamSt where
  ramp : Ramp
  deriving DecidableEq, Repr

/-- A live coefficient bundle (R86): the set in force, the set it crossfades to, and a held write. -/
structure BundleSt where
  cur  : List Word
  next : Option (List Word)
  len  : Nat
  pos  : Nat
  held : Option (Nat × List Word)
  deriving DecidableEq, Repr

/-! ## DSP cores (chapter 04) -/

/-- The two contexts of a core, and a core with nothing to run until the next tick (R122, R125). -/
inductive Ctx where
  | sched | back | idle | waiting | parked | halted
  deriving DecidableEq, Repr

/-- A register write in flight: the cycle from which it is visible, the cycle and slot of its issue, whether the background context
issued it, and the place it goes to (R102, R111, R112). Cycles count from the start of the batch; those of an earlier batch are negative. -/
inductive Dest where
  | f (i : Nat)
  | acc (i : Nat)
  | flags (mask : Nat) (val : Nat)
  | p (i : Nat) | m (i : Nat) | b (i : Nat)
  | lc (i : Nat) | ls (i : Nat) | le (i : Nat)
  | la (i : Nat) (on : Bool)
  deriving DecidableEq, Repr

structure Flight where
  at_   : Int
  issue : Int
  slot  : Nat
  bg    : Bool := false
  dest  : Dest
  val   : Nat
  deriving DecidableEq, Repr

/-- A DSP core (R101, R122): its registers, both contexts, results in flight, the accumulation chain of each slot, the branch
in its delay slots (its target, the slots left, whether it is a RETB) and the cycle of its issue, the shards already sent in this batch,
the background state saved by the tick (PC with a pending branch, ST), and the ST of the scheduled context while the other runs. -/
structure CoreSt where
  f      : Cells Word := []
  a0     : BitVec 44 := 0
  a1     : BitVec 44 := 0
  p      : Cells Nat := []
  m      : Cells Nat := []
  b      : Cells Nat := []
  l      : Cells Nat := []
  lStage : Cells (Option Nat) := []
  lNext  : Cells (Option Nat) := []
  lc     : Cells Nat := []
  ls     : Cells Nat := []
  le     : Cells Nat := []
  st     : Nat := 0
  pc     : Nat := 0
  ctx    : Ctx := .idle
  bgPc   : Nat := 0
  bgSt   : Nat := 0
  bgBranch : Option (Nat × Nat × Bool) := none
  bgOk   : Bool := false
  scSt   : Nat := 0
  branch : Option (Nat × Nat × Bool) := none
  brAt   : Nat := 0
  flight : List Flight := []
  chain0 : Option (BitVec 44) := none
  chain1 : Option (BitVec 44) := none
  cyc    : Nat := 0
  sent   : Nat := 0
  last   : Nat := 0
  deriving DecidableEq, Repr

/-- A store to the slot window that other accesses do not see yet (R98). -/
structure SlotStore where
  seen : Nat
  key  : Nat
  val  : Word
  deriving DecidableEq, Repr

/-! ## Dynamics and delay (chapter 05) -/

/-- A dynamics instance: settings in force, ramps of the settings that ramp, the running gain g in dB, the look-ahead buffer
(newest first), the requirement window, its two gain inputs (R139 to R144), and the link and bypass crossfades; the gain G last applied
(R141), and g after each sample of this batch once its detector has run (R143). -/
structure DynSt where
  set    : DynSet
  thresh : Ramp
  iratio : Ramp
  knee   : Ramp
  makeup : Ramp
  link   : Ramp
  byp    : Ramp
  aAtt   : Word
  aRel   : Word
  g      : Word
  buf    : List Word
  keyBuf : List Word
  req    : List Word
  app    : Word
  trace  : List Word
  deriving DecidableEq, Repr

/-- A delay line (R147): the delay in effect, the one it crossfades to, a held write, and the write position. -/
structure DelaySt where
  cur  : Nat
  next : Option Nat
  len  : Nat
  pos  : Nat
  held : Option (Nat × Nat)
  wr   : Nat
  deriving DecidableEq, Repr

/-! ## Ports (chapter 06) -/

/-- The gate of one port channel (R166, R167): its gain, a request that searches for a zero crossing, the sample before, and
whether it is muted. -/
structure Gate where
  gain  : Ramp := { start := 0x3F800000, target := 0x3F800000, len := 0, pos := 0 }
  goal  : Option (Word × Nat) := none
  prev  : Word := 0
  muted : Bool := false
  deriving DecidableEq, Repr

/-- An SAI port (R162 to R167). STATE and RATE are in its register; here are the batches spent in ALIGN, the fade of RUN and
LOST, consecutive frame errors, a stop under way, the ingress count, the isolation of R341 and its ramp, the words in its
alignment and output delays, the samples and the claims (newest first) that the alignment buffer holds, the words it delivered last, the
frames of this batch, the claim last delivered, frames without one, and the write position of its alignment buffer. -/
structure PortSt where
  alignLeft : Nat := 0
  fade      : Ramp := { start := 0x3F800000, target := 0x3F800000, len := 0, pos := 0 }
  gates     : Cells Gate := []
  frameErrs : Nat := 0
  stopping  : Bool := false
  ingress   : Nat := 0
  isolated  : Bool := false
  iso       : Ramp := { start := 0x3F800000, target := 0x3F800000, len := 0, pos := 0 }
  lastIn    : Cells Word := []
  lastOut   : Cells Word := []
  avail     : Nat := 0
  claims    : List (Option Nat) := []
  heldIn    : Cells Word := []
  got       : Nat := 0
  claim     : Option Nat := none
  badClaims : Nat := 0
  wpos      : Int := 0
  locked    : Bool := false
  deriving DecidableEq, Repr

/-- A claim pair (R171, R172): the highest claim seen, samples held, and the fade. -/
structure PairSt where
  high : Nat := 0
  held : Nat := 0
  hold : Bool := false
  fade : Ramp := { start := 0x3F800000, target := 0x3F800000, len := 0, pos := 0 }
  deriving DecidableEq, Repr

/-- A stream of an alignment bundle or an AES67 stream (R168, R169, R272 to R274, R277). `state` uses the codes of
AES_STREAM_STATUS. For a converted receive stream: whether its converter makes samples, the position of the network sample it took last
and whether there is one, and the place of its next Core sample with the fraction of 2^−30 made of it. -/
structure StreamSt where
  state   : Nat := 0
  asrcOn  : Bool := false
  seqIn   : Bool := false
  inPos   : Nat := 0
  outPos  : Nat := 0
  outFrac : Nat := 0
  set     : AesFields := { enable := 0, pt := 96, group := 0, udpPort := 1024, delay := 0, rtpOff := 0, ssrc := 0 }
  pos     : Nat := 0
  buf     : Cells Word := []
  last    : Word := 0
  fade    : Ramp := { start := 0x3F800000, target := 0x3F800000, len := 0, pos := 0 }
  under   : Nat := 0
  stale   : Nat := 0
  early   : Nat := 0
  gaps    : Nat := 0
  packets : Nat := 0
  seq     : Nat := 0
  seqOk   : Bool := false
  lastTs  : Word := 0
  ingress : Nat := 0
  stopped : Nat := 0
  queued  : Bool := false
  deriving DecidableEq, Repr

/-- An alignment bundle (R168). -/
structure AlignSt where
  playout : Nat := 0
  deriving DecidableEq, Repr

/-! ## Modulator, Gate Link, protection (chapters 07, 08) -/

/-- An amplifier output (R177 to R203). STATE, CELLS, HOLD, HEAD and ROT are in its register. Here: the last valid sense data,
VBF, the shaper states of its cells, the voltage loop, the limiter's output and the interpolator's input (newest first), the soft
start and MSCALE ramps, the training result and step, the capacitor being precharged (0 in the check) and its time in periods, the
state a ramp down leads to (1 OFF, 4 ARMED), the run of bad capacitor periods, the last edges sent, the edges of the last three periods
that have not been sent yet (newest first), the modulation values (newest first), whether a MOD_CLIP or OC_LIMIT shard went out this batch, g_hr as the modulator last sent it, and its
linear return after a hold, with the samples left (R387). -/
structure OutSt where
  i0 : Word := 0
  i1 : Word := 0
  v0 : Word := 0
  v1 : Word := 0
  vbus : Word := 0
  vbf : Word := 0
  fc : List Word := [0, 0, 0, 0, 0]
  temp : Word := 0
  headPair : List Nat := []
  trip : Bool := false
  e1 : List Word := [0, 0, 0, 0, 0, 0]
  e2 : List Word := [0, 0, 0, 0, 0, 0]
  acc : Word := 0
  uHist : List Word := []
  xHist : List Word := []
  soft : Ramp := { start := 0, target := 0, len := 0, pos := 0 }
  mscale : Ramp := { start := 0x43730000, target := 0x43730000, len := 0, pos := 0 }
  code : Option Nat := none
  step : Nat := 0
  pcCap : Nat := 0
  pcT : Nat := 0
  pcCheck : Option (List Word) := none
  toward : Nat := 0
  fcBad : Nat := 0
  edges : List (Nat × Nat) := []
  edgePipe : List (List (Nat × Nat)) := []
  mods : List Word := []
  clipSent : Bool := false
  limSent : Bool := false
  gHr : Word := 0
  hrFrom : Word := 0
  hrLeft : Nat := 0
  deriving DecidableEq, Repr

/-- A Gate Link lane (R189 to R194): its identification record as far as received, the period within the batch, periods in a row
without a valid return frame, the request for identification, whether a valid return frame stands for this period, invalid
frames of the link test, whether a period is open, and the last OVT. -/
structure GlSt where
  ident  : List Byte := []
  period : Nat := 0
  miss   : Nat := 0
  ask    : Bool := false
  valid  : Bool := false
  errs   : Nat := 0
  open_  : Bool := false
  ovt    : Bool := false
  deriving DecidableEq, Repr

/-- The sums of a lock-in over `n` sense pairs (R214, R219, R221). -/
structure LockIn where
  vc  : Word := 0
  vs  : Word := 0
  ic  : Word := 0
  is_ : Word := 0
  n   : Nat := 0
  deriving DecidableEq, Repr

/-- A point of a sweep (R219): R_k and X_k. -/
structure ZPoint where
  r : Word
  x : Word
  deriving DecidableEq, Repr

/-- Protection of an output (R208 to R224): the two temperatures, the filtered and the permitted power, the gain before and after
the batch, the critical flag, the sum of the batch's products, the sums of the tracker window (`wn` pairs) and of the model's
mean, the states of the two low-passes, the pilot's phase and fade, runs of bad windows, the hot flags, the probe and its window, a sweep
under way with its points and whether its current has been below 2 mA at each, a calibration (its temperature, valid windows and
windows), and the retry that waits, is due, or runs. -/
structure ProtSt where
  tc : Word := 0x41C80000
  ts : Word := 0x41C80000
  pf : Word := 0
  pss : Word := 0
  gOld : Word := 0x3F800000
  gNew : Word := 0x3F800000
  crit : Bool := false
  sumVI : Word := 0
  vc : Word := 0
  vs : Word := 0
  ic : Word := 0
  is_ : Word := 0
  lpVI : Word := 0
  lpII : Word := 0
  wn : Nat := 0
  tcSum : Word := 0
  tcN : Nat := 0
  vHist : List Word := []
  iHist : List Word := []
  phase : Word := 0
  pilot : Ramp := { start := 0, target := 0, len := 0, pos := 0 }
  devRun : Nat := 0
  hotSent : Bool := false
  critSent : Bool := false
  zref : Option Word := none
  zWins : List Word := []
  lossRun : Nat := 0
  probePhase : Word := 0
  probe : LockIn := {}
  sweeping : Bool := false
  sweepTrip : Bool := false
  swPhase : Word := 0
  swStep : Nat := 0
  swLock : LockIn := {}
  swPts : List ZPoint := []
  swLow : Bool := true
  cal : Option (Int × List Word × Nat) := none
  retryWait : Bool := false
  retryDue : Bool := false
  retrying : Bool := false
  deriving DecidableEq, Repr

/-! ## Trunk and twin lanes (chapters 09, 12) -/

/-- A HOST message that waits for its acknowledgement (R238); `due`: it goes into the next frame. -/
structure HostMsg where
  seq   : Nat
  bytes : List Byte
  sends : Nat
  due   : Bool
  ch    : Nat
  h     : Word
  deriving DecidableEq, Repr

/-- A symbol of a coded lane: a data byte or a K-code, by its byte (R230). -/
inductive Sym where
  | d (b : Byte)
  | k (b : Byte)
  deriving DecidableEq, Repr

/-- What a frame that the engine sends on a trunk lane holds (R232, R233). -/
structure TxFrame where
  lane    : Nat
  claim   : Nat
  batch   : Word
  mode    : Nat
  twin    : Bool
  stby    : Bool
  node    : Word
  payload : Cells Word
  msgs    : List Byte
  deriving DecidableEq, Repr

/-- A frame received and waiting for its delivery boundary (R242): its BATCH, claim and payload. -/
structure RxFrame where
  batch   : Word
  claim   : Nat
  payload : Cells Word
  deriving DecidableEq, Repr

/-- A trunk lane (0 to 7) or twin lane (8 to 11) (R236 to R250). STATE, CTLEF, LOCK, MAPOK, HOLD, FLIGHT, WAIT, OFFS, the peer's
NODE_ID and the claims of a trunk lane are in its registers; `state`, `ctlef`, `lock` and `flight` serve twin lanes. `answers`: the IDs
of ranging requests to answer, with the batch and the instant of their frames (R241). `capsTx`: a
CAPS waits to be sent; `capsOut`: one has been sent. `current`: the words of this batch; `anchor`: the sample of each channel that a hold
repeats and a crossfade starts from. `held` counts samples held, `bad` the batches still to come that CRCE has counted or need not, `fade` is the gain on live samples, `cross` the crossfade from the held value. -/
structure LaneSt where
  state   : Nat := 0
  ctlef   : Nat := 0
  lock    : Bool := false
  flight  : Nat := 0
  commas  : Nat := 0
  exch    : List Int := []
  ranging : Bool := false
  answers : List (List Byte × Word × Int) := []
  sendSeq : Nat := 1
  recvSeq : Nat := 0
  unacked : List HostMsg := []
  ackDue  : Bool := false
  capsRx  : List Byte := []
  capsTx  : Bool := false
  capsOut : Bool := false
  offsSet : Bool := false
  buffered : List RxFrame := []
  current : Cells Word := []
  anchor  : Cells Word := []
  held    : Nat := 0
  bad     : Nat := 0
  fade    : Ramp := { start := 0, target := 0x3F800000, len := 64, pos := 0 }
  cross   : Ramp := { start := 0x3F800000, target := 0x3F800000, len := 0, pos := 0 }
  isolated : Bool := false
  ingress : Nat := 0
  capsShard : Bool := false
  deriving DecidableEq, Repr

/-! ## Ethernet (chapter 10) -/

/-- A frame waiting in a transmit queue (R264); `plain`: no UDP datagram. -/
structure TxItem where
  queue : Nat
  dest  : Option Peer
  owner : Option Nat
  plain : Bool
  bytes : List Byte
  deriving DecidableEq, Repr

/-- A MAC (R256 to R266): frames in the receive buffer by port and length, the pause it asserts and the pause it obeys, queued frames, the partner's requested wake time, and whether negotiation gave pause (R256). -/
structure MacSt where
  rxq      : List (Nat × Nat) := []
  asserted : Bool := false
  paused   : Bool := false
  txq      : List TxItem := []
  twReq    : Nat := 0
  pauseOk  : Bool := true
  deriving DecidableEq, Repr

/-- An entry of the transmit timestamp queue (R270): sequenceId, messageType, MAC, GAP, LOST, seconds, nanoseconds, 1/65,536 ns. -/
structure Stamp where
  seqId : Nat
  mtype : Nat
  mac   : Nat
  gap   : Bool
  lost  : Nat
  sec   : Nat
  ns    : Nat
  frac  : Nat
  deriving DecidableEq, Repr

/-! ## Clock Unit (chapter 11) -/

/-- An entry of the priority table (R278 to R286). STATE and FREQ are in its register; counts are in updates of 100 ms: good ones,
whether it was ever qualified, wait to restore, dwell; then its offset φ, last raw phase error and alignment offset, whether its PPS
stands, updates since a bad edge, and the updates for which it differs from each earlier entry. -/
structure ClkEnt where
  good  : Nat := 0
  ever  : Bool := false
  wtr   : Nat := 0
  dwell : Nat := 0
  phi   : Int := 0
  err   : Int := 0
  phase : Int := 0
  pps   : Bool := true
  ppsOk : Nat := 0
  apart : List Nat := []
  deriving DecidableEq, Repr

/-- The averager and the outputs (R287 to R299): n of R291, updates since the last switch, the DCO word of the last 20 updates
(newest first), selection frozen, WC_OUT and PPS_OUT driven, PPS_OUT high, the last selected source, held BANKED by the Kiln, and
whether a boundary has started PPSCNT. -/
structure ClkSt where
  n       : Nat := 0
  since   : Nat := 100
  hist    : List Int := []
  frozen  : Bool := false
  wcOn    : Bool := false
  ppsOn   : Bool := false
  ppsHigh : Bool := false
  lastRef : Nat := 255
  heldByKiln : Bool := false
  first   : Bool := false
  deriving DecidableEq, Repr

/-! ## Twin (chapter 12) -/

/-- The twin, its join, its mirror and its referee duties (R304 to R330): the peer as its headers and CONTROL items show it; the
join's step (0 none, 1 accepted, 2 batch taken, 3 copying, 4 a whole checked batch runs), its boundary, and whether it shall be
tried again; the bulk bytes copied; MIRROR cells of this batch and of the one before, the CLOSE received, and whether a cell was
lost; a difference in this batch; records to send and the CLOSE to send; the last OFFS sent; the referee's words (words missed,
REF_LOST sent, SWREQ words left, FORCE, the claim known at TWIN_SWITCH); and the referee's SEQ, owner, GRANT words left, misses,
last words, quarters without the preferred side, NO_STANDBY sent; and
whether the peer's Damper state parks background work here. -/
structure TwinSt where
  peerSync  : Nat := 0
  peerProof : Option Word := none
  peerOven  : Option Word := none
  peerRole  : Nat := 0
  peerClaim : Nat := 0
  peerBatch : Word := 0
  peerPps   : Nat := 0
  join      : Nat := 0
  joinAt    : Word := 0
  rejoin    : Bool := false
  copied    : Nat := 0
  rxCells   : List (Nat × List Byte) := []
  prevCells : List (Nat × List Byte) := []
  close     : Option (Nat × Nat) := none
  lostCell  : Bool := false
  diverged  : Bool := false
  mixed     : Bool := false
  txRecs    : List MirrorRec := []
  closeOut  : List Byte := []
  sentOffs  : List Nat := []
  missed    : Nat := 0
  gotWord   : Bool := false
  lostSent  : Bool := false
  swreq     : Nat := 0
  force     : Bool := false
  swClaim   : Nat := 0
  seq       : Nat := 0
  owner     : Option Nat := none
  grant     : Nat := 0
  miss      : Nat := 0
  last0     : List Byte := []
  last1     : List Byte := []
  absent    : Nat := 0
  noStandby : Bool := false
  parked    : Bool := false
  deriving DecidableEq, Repr

/-! ## Kiln and supplies (chapter 13) -/

/-- A shard (R334). -/
structure Shard where
  inj    : Bool := false
  conseq : Bool := false
  dry    : Bool := false
  esc    : Bool := false
  level  : Nat := 0
  src    : Nat
  inst   : Nat
  cls    : Nat
  kind   : Nat
  ctx    : Nat
  deriving DecidableEq, Repr

/-- A log entry (R338). -/
structure LogEntry where
  shard : Shard
  batch : Word
  cycle : Nat
  seq   : Nat
  deriving DecidableEq, Repr

/-- A shard recorded against its class (R344): its kind, source, instance and CONTEXT, whether it counts as an event, and the
resets it started (unit numbers, or 18 for a Control reset). -/
structure Cause where
  cls   : Nat
  kind  : Nat
  src   : Nat
  inst  : Nat
  ctx   : Nat
  event : Bool
  reset : List Nat
  deriving DecidableEq, Repr

/-- A reaction that stands until its class is cleared (R341 to R343): its class, its level (2, 3, 4 or 5), its source and instance,
and whether it stopped an open handle's operation. -/
structure Standing where
  cls     : Nat
  level   : Nat
  src     : Nat
  inst    : Nat
  stopped : Bool
  deriving DecidableEq, Repr

/-- A masking window (R347): the reset it belongs to, its blast radius, and whether that reset has ended. -/
structure Window where
  reset : Nat
  srcs  : List Nat
  ended : Bool
  deriving DecidableEq, Repr

/-- A Unit reset in progress (R341, R347), the class whose shard started it, and whether it stopped an open handle. -/
structure UnitReset where
  unit    : Nat
  cls     : Nat
  stopped : Bool
  deriving DecidableEq, Repr

structure KilnSt where
  waiting : List Shard := []
  log     : List LogEntry := []
  logPos  : Nat := 0
  seq     : Nat := 0
  levels  : Cells Nat := []
  causes  : List Cause := []
  standing : List Standing := []
  windows : List Window := []
  resets  : List UnitReset := []
  ctlReset : Bool := false
  decodeSent : Nat := 0
  mixSent : Bool := false
  deriving DecidableEq, Repr

/-- A settings record (R377). -/
structure SetRec where
  key  : Nat
  fmt  : Nat
  data : List Byte
  deriving DecidableEq, Repr

/-- The boot record (R376). -/
structure BootRec where
  confirmed : Nat := 0
  pending   : Bool := false
  primary   : Nat := 0
  window    : Nat := 60
  deriving DecidableEq, Repr

/-- A write that NVS holds in WRAM (R348): a line at its address, a record of a settings area, or the boot record. -/
inductive HeldWrite where
  | line (addr : Nat) (bytes : List Byte)
  | record (area : Nat) (r : SetRec)
  | boot (b : BootRec)
  deriving DecidableEq, Repr

/-- Supplies, reset, power states and the supervisor (R348 to R360): `romDone`: the ROM has run since the last reset, `held` lists the NVS writes held, `portsOn` the ports that were
not in OFF when the clocks were gated, `hlpStop` the helpers held stopped for a reload, `wdog` and `hbeat` the batches since the
watchdog was serviced and since each heartbeat changed, and `txFade` is the fade of TDM and trunk
outputs (R342, R352). -/
structure PwrSt where
  phase    : Phase := .held
  sup      : Bool := false
  romDone  : Bool := false
  standby  : StandbySt := .awake
  held     : List HeldWrite := []
  portsOn  : Nat := 0
  tjWarned : Bool := false
  tjCrit   : Bool := false
  keepPwren : Bool := true
  softDue  : Bool := false
  dormDue  : Bool := false
  hlpStop  : List Nat := []
  wdog     : Nat := 0
  hbeat    : Cells Nat := []
  txFade   : Ramp := { start := 0x3F800000, target := 0x3F800000, len := 0, pos := 0 }
  deriving DecidableEq, Repr

/-! ## Update and NVS (chapter 15) -/

/-- An update session (R381): its number, channel, target, range, the byte ranges written and the sectors erased. -/
structure Session where
  id      : Word
  ch      : Nat
  data    : Bool
  base    : Nat
  len     : Nat
  written : List (Nat × Nat)
  erased  : List Nat
  deriving DecidableEq, Repr

/-- Update and settings (R375 to R388): the session, the number of the next, the two settings areas, the boot record, whether the gain
inputs hold (R387), the LASTFB code that an ended window leaves for the ROM, boundaries within the second of HLEFT, and the versions
of LIB, PRT and GLT that run; the board's flash size; and the lines written since State.reset, for NVS_STAT.WEAR. -/
structure UpdSt where
  session : Option Session := none
  nextId  : Nat := 1
  area0   : List SetRec := []
  area1   : List SetRec := []
  boot    : BootRec := {}
  gHold   : Bool := false
  fb      : Nat := 0
  hTick   : Nat := 0
  libVer  : Word := 0
  prtVer  : Word := 0
  gltVer  : Word := 0
  flashSize : Nat := 0x10000000
  lineWrites : Nat := 0
  deriving DecidableEq, Repr

/-! ## What leaves the engine -/

/-- How a frame leaves a MAC: its transmit queue, its tag (PCP and VID), the DSCP of its traffic, and the µs it waits for the partner to
wake (R259, R264, R266). -/
structure EthOut where
  mac   : Nat
  queue : Nat
  tag   : Option (Nat × Nat)
  dscp  : Nat
  after : Nat
  deriving DecidableEq, Repr

/-- An IPv4 fragment of a datagram: where its data begin in the datagram's payload (UDP header included), whether more follow, and the
data without the UDP header (R265). -/
structure Fragment where
  off  : Nat
  more : Bool
  data : List Byte
  deriving DecidableEq, Repr

/-- What the last command put on the engine's outputs (the model's own record of its wires). `udp`: a datagram with its next hop (R258)
and its destination. -/
inductive Wire where
  | qspi (bytes : List Byte)
  | udp (o : EthOut) (hop : Option Word) (dest : Option Peer) (frags : List Fragment)
  | trunk (lane : Nat) (syms : List Sym)
  | twin (lane : Nat) (syms : List Sym) (msgs : List Byte)
  | gateLink (lane : Nat) (syms : List Byte)
  | referee (side : Nat) (syms : List Byte)
  | tdm (port chan : Nat) (word : Word)
  | pause (mac quanta : Nat)
  | eth (o : EthOut) (what : Nat) (data : List Byte)
  | fabric (words : List Word) (error : Bool) (cycles : Nat)
  | ch3 (target : Word) (opcode : Nat) (payload : List Byte)
  deriving DecidableEq, Repr

/-- The machine. `ptp` is the PTP counter at the start of the batch, in units of 1 / (3 × 65,536 × 10^12) ns, and `ptpAdj` its adder in parts
per trillion (R267). `fresh` lists the flags that cores have set and the counts they have made in the present DCLK cycle, by field (R128). -/
structure State where
  pending : List Instr := []
  fuses   : Fuses := {}
  cycle   : Nat := 0
  wire    : List Wire := []
  fresh   : List (Nat × Nat) := []
  free    : Nat := 0
  regs    : Cells Nat := []
  mem     : List Host.Cell := []
  chans   : Cells Chan := []
  gen     : Nat := 0
  ops     : List Op := []
  staged  : List Staged := []
  -- bake
  proofTop   : Nat := 0
  proofTotal : Nat := 64
  proof      : Bake := Bake.empty
  oven       : Bake := Bake.empty
  commits    : List Commit := []
  trays      : Cells TraySt := []
  fades      : Cells SlotFade := []
  params     : Cells (Option ParamSt) := []
  bundles    : Cells (Option BundleSt) := []
  -- cores and slots
  cores   : Cells CoreSt := []
  dsp     : Cells Word := []
  slots   : Cells Word := []
  inBuf   : Cells Word := []
  stores  : List SlotStore := []
  fixedAt : Nat := 0
  bridges : Cells (List Word) := []
  -- mix, dynamics, delay
  xps     : Cells (Option Ramp) := []
  dyns    : Cells (Option DynSt) := []
  delays  : Cells (Option DelaySt) := []
  -- ports and streams
  ports   : Cells PortSt := []
  pairs   : Cells PairSt := []
  streams : Cells StreamSt := []
  aligns  : Cells AlignSt := []
  -- outputs
  outs    : Cells OutSt := []
  gls     : Cells GlSt := []
  prots   : Cells ProtSt := []
  outBuf  : Cells (List Word) := []
  pipeAt  : Nat := 0
  -- lanes and network
  lanes   : Cells LaneSt := []
  msgs    : List (Nat × List Byte) := []
  macs    : Cells MacSt := []
  stamps  : List Stamp := []
  stLost  : Nat := 0
  ptp     : Nat := 0
  ptpAdj  : Int := 0
  -- clock, twin, Kiln, power, fabric, update
  ents    : Cells ClkEnt := []
  clk     : ClkSt := {}
  twin    : TwinSt := {}
  kiln    : KilnSt := {}
  pwr     : PwrSt := {}
  granted : Cells Nat := []
  lock    : Option (Master × Nat) := none
  upd     : UpdSt := {}
  deriving DecidableEq, Repr

/-- Why a command could stop the machine: the manual gives every command an effect, so no meaning raises a fault. The one
constructor is for a command whose meaning would need state the manual takes away; nothing raises it. -/
inductive Fault where
  /-- Raised by no meaning (safe: a fault would only stop a run). -/
  | impossible
  deriving DecidableEq, Repr

/-- Why a command is turned away by the model. -/
inductive Refusal where
  /-- Raised by an arm of `exec` whose command has no meaning yet (safe: the run stops). -/
  | notModelled (mnemonic : String)
  deriving DecidableEq, Repr

/-- The key of the one register field that differs from its Reset value after a Cold reset: SYS_RSTCAUSE.COLD (R351). -/
def State.coldKey : Nat := 0x4000000C * 32

/-- The machine right after a Cold reset (R350, R351, R355, R397): every field at its Reset value, SYS_RSTCAUSE.COLD set, the oven
and the proof empty, the Keep domain zero, and the engine held in its internal reset until RESET_RELEASE. -/
def State.reset : State := { regs := [(State.coldKey, 1)] }

end Sys2Proof.Machine
end

