-- ==== Sys2Proof/Machine/Ops.lean ====
section
/-! DEFINITION. The named operations that the meanings share: the register file, memory, the tables, replies, handles and
completions (chapter 02), shards on their way to the Kiln (R337), and staged writes (R18). -/
namespace Sys2Proof.Machine

open Sys2Proof

/-- Apply `f` to every element in turn. -/
def foldState {α : Type} (f : α → State → State) (l : List α) (s : State) : State := l.foldl (fun t a => f a t) s

/-- Do `f` when `b`. -/
def when_ (b : Bool) (f : State → State) (s : State) : State := if b then f s else s

/-! ## The register file -/

/-- What a field holds. -/
def getF (s : State) (f : Fld) : Nat := cget fieldReset s.regs f.key

/-- Write a field. -/
def setF (f : Fld) (v : Nat) (s : State) : State :=
  { s with regs := cset fieldReset s.regs f.key (v % 2 ^ f.width) }

def getFI (s : State) (f : Fld) : Int := signed f.width (getF s f)
def setFI (f : Fld) (v : Int) (s : State) : State := setF f (unsigned f.width v) s

/-- A counter that stops at its highest value counts `n` more. -/
def bumpN (f : Fld) (n : Nat) (s : State) : State :=
  setF f (if 2 ^ f.width - 1 < getF s f + n then 2 ^ f.width - 1 else getF s f + n) s

def bump (f : Fld) (s : State) : State := bumpN f 1 s

/-- `n` events of a field in the present cycle (R128). -/
def noteFresh (f : Fld) (n : Nat) (s : State) : State := if n = 0 then s else { s with fresh := s.fresh ++ [(f.key, n)] }

/-- How many events of a field the present cycle has had. -/
def freshCount (s : State) (f : Fld) : Nat := ((s.fresh.filter (fun e => e.1 == f.key)).map (·.2)).sum

/-- Write bit `i` of a mask field. -/
def setMaskBit (f : Fld) (i : Nat) (v : Bool) (s : State) : State := setF f (setBit (getF s f) i v) s

/-- Return the fields that satisfy `p` to their Reset values. -/
def resetFields (p : Nat → Bool) (s : State) : State := { s with regs := s.regs.filter (fun e => !p e.1) }

/-- The batch index (SYS_BATCH). -/
def batch (s : State) : Word := BitVec.ofNat 32 (getF s fSYS_BATCH_INDEX)

/-! ## Which units are present (R1) -/

def hasMod (s : State) : Bool := !(s.fuses.variant == .m)
def hasProt (s : State) : Bool := !(s.fuses.variant == .m)
def hasTwin (s : State) : Bool := !(s.fuses.variant == .n)
def hasRef (s : State) : Bool := !(s.fuses.variant == .n)

/-! ## Memory (R370) -/

/-- What a byte that nothing has written reads as: the ROM's contents, the WRAM as the loader left it, the
supervisor's areas of the NVS, erased flash, else zero (log
entry 1). -/
def memDefault (a : Nat) : Byte :=
  if 0x08000000 ≤ a ∧ a ≤ 0x0803FFFF then Config.romByte (a - 0x08000000)
  else if 0x10000000 ≤ a ∧ a ≤ 0x100FFFFF then Config.wramByte (a - 0x10000000)
  else if 0x20000000 ≤ a ∧ a < 0x20061000 then Config.nvsByte (a - 0x20000000)
  else if 0x70000000 ≤ a ∧ a ≤ 0x7FFFFFFF then 0xFF
  else 0

/-- The canonical form of memory: addresses rise strictly, and no entry equals what an unlisted address reads as. -/
abbrev Memory.wf (m : List Host.Cell) : Bool := cellsWf memDefault m
def memByte (s : State) (a : Nat) : Byte := cget memDefault s.mem a
def memBytes (s : State) (a n : Nat) : List Byte := cgetMany memDefault s.mem a n
def setMemByte (a : Nat) (b : Byte) (s : State) : State := { s with mem := cset memDefault s.mem a b }
def setMemBytes (a : Nat) (bs : List Byte) (s : State) : State := { s with mem := csetMany memDefault s.mem a bs }

/-- Return the bytes from `a`, `n` of them, to what nothing has written. -/
def clearMem (a n : Nat) (s : State) : State :=
  { s with mem := s.mem.filter (fun e => decide (e.1 < a) || decide (a + n ≤ e.1)) }

/-- A 32-bit word, least significant byte first (R27). -/
def memWord (s : State) (a : Nat) : Nat := leNat (memBytes s a 4)
def setMemWord (a n : Nat) (s : State) : State := setMemBytes a (leBytes 4 n) s

def nvsBase : Nat := 0x20000000
def wramBase : Nat := 0x10000000
def keepBase : Nat := 0x30000000
def pantryBase : Nat := 0x60000000
def aesBase : Nat := 0x63000000
def proofBase : Nat := 0x63800000
def flashBase : Nat := 0x70000000

/-! ## Running a command -/

/-- What every command starts with: the DCLK cycle at which it happens, and no output yet. -/
def begin_ (c : Nat) (s : State) : State := { s with cycle := c, wire := [], fresh := if c = s.cycle then s.fresh else [] }

/-- A table of memory in its canonical form. Every operation on memory keeps the form (Laws/Cells.lean), so this changes nothing that
a command has stored. -/
def canonMem (m : List Host.Cell) : List Host.Cell :=
  if cellsWf memDefault m then m else m.foldl (fun n e => cset memDefault n e.1 e.2) []

/-- Run a command at cycle `c`. The queue and the fuses are no command's to change (R3, R10: fuse fields are kept by all). -/
def runMem (c : Nat) (op : State → State) (s : State) : Host.Outcome State Fault Refusal :=
  .next { op (begin_ c s) with pending := s.pending, fuses := s.fuses, mem := canonMem (op (begin_ c s)).mem }

/-- Run a command that stores to no memory of the control fabric's map (R370). -/
def run (c : Nat) (op : State → State) (s : State) : Host.Outcome State Fault Refusal :=
  .next { op (begin_ c s) with pending := s.pending, fuses := s.fuses, mem := s.mem }

/-! ## Tables of like things -/

def getT {α : Type} (d : α) (m : Cells α) (n : Nat) : α := cget (fun _ => d) m n
def setT {α : Type} [DecidableEq α] (d : α) (m : Cells α) (n : Nat) (v : α) : Cells α := cset (fun _ => d) m n v

def chan (s : State) (n : Nat) : Chan := getT {} s.chans n
def setChan (n : Nat) (v : Chan) (s : State) : State := { s with chans := setT {} s.chans n v }
def tray (s : State) (n : Nat) : TraySt := getT {} s.trays n
def setTray (n : Nat) (v : TraySt) (s : State) : State := { s with trays := setT {} s.trays n v }
def slotFade (s : State) (n : Nat) : SlotFade := getT {} s.fades n
def setSlotFade (n : Nat) (v : SlotFade) (s : State) : State := { s with fades := setT {} s.fades n v }
def param (s : State) (n : Nat) : Option ParamSt := getT none s.params n
def setParam (n : Nat) (v : Option ParamSt) (s : State) : State := { s with params := setT none s.params n v }
def bundle (s : State) (n : Nat) : Option BundleSt := getT none s.bundles n
def setBundle (n : Nat) (v : Option BundleSt) (s : State) : State := { s with bundles := setT none s.bundles n v }
def core_ (s : State) (n : Nat) : CoreSt := getT {} s.cores n
def setCore (n : Nat) (v : CoreSt) (s : State) : State := { s with cores := setT {} s.cores n v }
def xpKey (src dst : Nat) : Nat := dst * 65536 + src
def xp (s : State) (src dst : Nat) : Option Ramp := getT none s.xps (xpKey src dst)
def setXp (src dst : Nat) (v : Option Ramp) (s : State) : State := { s with xps := setT none s.xps (xpKey src dst) v }
def dyn (s : State) (n : Nat) : Option DynSt := getT none s.dyns n
def setDyn (n : Nat) (v : Option DynSt) (s : State) : State := { s with dyns := setT none s.dyns n v }
def delay (s : State) (n : Nat) : Option DelaySt := getT none s.delays n
def setDelay (n : Nat) (v : Option DelaySt) (s : State) : State := { s with delays := setT none s.delays n v }
def port (s : State) (n : Nat) : PortSt := getT {} s.ports n
def setPort (n : Nat) (v : PortSt) (s : State) : State := { s with ports := setT {} s.ports n v }
def pair (s : State) (n : Nat) : PairSt := getT {} s.pairs n
def setPair (n : Nat) (v : PairSt) (s : State) : State := { s with pairs := setT {} s.pairs n v }
def stream (s : State) (n : Nat) : StreamSt := getT {} s.streams n
def setStream (n : Nat) (v : StreamSt) (s : State) : State := { s with streams := setT {} s.streams n v }
def align_ (s : State) (n : Nat) : AlignSt := getT {} s.aligns n
def setAlign (n : Nat) (v : AlignSt) (s : State) : State := { s with aligns := setT {} s.aligns n v }
def out_ (s : State) (n : Nat) : OutSt := getT {} s.outs n
def setOut (n : Nat) (v : OutSt) (s : State) : State := { s with outs := setT {} s.outs n v }
def gl (s : State) (n : Nat) : GlSt := getT {} s.gls n
def setGl (n : Nat) (v : GlSt) (s : State) : State := { s with gls := setT {} s.gls n v }
def prot (s : State) (n : Nat) : ProtSt := getT {} s.prots n
def setProt (n : Nat) (v : ProtSt) (s : State) : State := { s with prots := setT {} s.prots n v }
def lane (s : State) (n : Nat) : LaneSt := getT {} s.lanes n
def setLane (n : Nat) (v : LaneSt) (s : State) : State := { s with lanes := setT {} s.lanes n v }
def mac (s : State) (n : Nat) : MacSt := getT {} s.macs n
def setMac (n : Nat) (v : MacSt) (s : State) : State := { s with macs := setT {} s.macs n v }
def ent (s : State) (n : Nat) : ClkEnt := getT {} s.ents n
def setEnt (n : Nat) (v : ClkEnt) (s : State) : State := { s with ents := setT {} s.ents n v }

/-- Format and domain of a slot address. -/
def slotDef (b : Bake) (a : Nat) : SlotDef :=
  match b.trays.findSome? (fun t => t.slots.find? (fun d => d.addr == a)) with
  | some d => d
  | none =>
    match b.extSlots.find? (fun d => d.addr == a) with
    | some d => d
    | none => { addr := a, fp32 := true, rate := 1 }

/-- Has a slot address a producer in this bake (R24)? -/
def hasProducer (b : Bake) (a : Nat) : Bool :=
  b.trays.any (fun t => t.slots.any (fun d => d.addr == a)) || b.extSlots.any (fun d => d.addr == a)

/-- The word of a slot address, and its write; words 4 to 7 of a Half slot read zero (R24). -/
def slotWord (s : State) (a w : Nat) : Word :=
  if 4 ≤ w ∧ (slotDef s.oven a).rate = 0 then 0 else getT 0 s.slots (a * 8 + w)
def setSlotWord (a w : Nat) (v : Word) (s : State) : State := { s with slots := setT 0 s.slots (a * 8 + w) v }

/-- A word of DSP memory: space n < 128 is the DM of core n, 128 + k the CSM of cluster k (R95). -/
def dspKey (space loc : Nat) : Nat := space * 2 ^ 20 + loc
def dspWord (s : State) (space loc : Nat) : Word := getT 0 s.dsp (dspKey space loc)
def setDspWord (space loc : Nat) (v : Word) (s : State) : State := { s with dsp := setT 0 s.dsp (dspKey space loc) v }

/-- The next free value (log entry 16): what the engine produces where the manual states none. -/
def freeWord (s : State) : Word := Config.freeWord s.free
def useFree (s : State) : State := { s with free := s.free + 1 }

/-- A quotient of FP32 values; by zero it is the open value of log entry 10. -/
def fpDiv (a b : Word) : Word := fpDivWith (Config.divByZero a) a b

/-- Do the clocks of the cores and of the mix and dynamics engines run (R352)? -/
def clocksRun (s : State) : Bool := !(s.pwr.standby == .gated || s.pwr.standby == .leaving)

/-! ## Ramps (R85, R135) -/

def steady (v : Word) : Ramp := { start := v, target := v, len := 0, pos := 0 }

/-- Samples of a ramp that remain. -/
def rampLeft (r : Ramp) : Nat := r.len - r.pos

/-- The present value: that of the last sample made. -/
def rampNow (r : Ramp) : Word :=
  if r.len ≤ r.pos then r.target
  else if r.pos = 0 then r.start
  else rampAt r.start r.target r.len (r.pos - 1)

/-- The value at sample `n` from now on. -/
def rampSample (r : Ramp) (n : Nat) : Word :=
  if r.len ≤ r.pos + n then r.target else rampAt r.start r.target r.len (r.pos + n)

/-- `n` samples have been made; a ramp that has ended stands at its target. -/
def rampAdvance (n : Nat) (r : Ramp) : Ramp :=
  if r.len ≤ r.pos + n then steady r.target else { r with pos := r.pos + n }

/-- A new ramp from the present value. -/
def rampTo (t : Word) (l : Nat) (r : Ramp) : Ramp := { start := rampNow r, target := t, len := l, pos := 0 }

/-- What a read-back at DCLK cycle `c` of a batch shows of a ramp: the value of the sample then in progress, and the samples that
remain after it (R20, R85, R152; log entry 3). While the clocks are gated it is that of the last sample made. -/
def rampShown (s : State) (c : Nat) (r : Ramp) : Word × Nat :=
  if clocksRun s then (rampSample r (c / 12800), r.len - (r.pos + c / 12800 + 1)) else (rampNow r, rampLeft r)

/-! ## What leaves the engine -/

def emit (w : Wire) (s : State) : State := { s with wire := s.wire ++ [w] }

/-- The MAC that serves a UDP channel (R39). -/
def chanMac (s : State) (ch : Nat) : Nat := if ch = 1 then getF s fHOST_UDP1_MAC else getF s fHOST_UDP2_MAC

/-! ## The transmitter of a MAC (R258, R259, R263 to R266) -/

def macUp (s : State) (n : Nat) : Bool := (getF s fETH_STAT_LINK).testBit n

/-- The DSCP of a queue's traffic (R264). -/
def queueDscp (q : Nat) : Nat := if q = 7 ∨ q = 5 then 46 else if q = 6 then 34 else 0

/-- How a frame of a queue leaves (R259, R264): tagged when VID is not 0, with its queue as PCP; after TWRES when LPI stands (R266). -/
def ethOut (s : State) (n q : Nat) : EthOut :=
  { mac := n, queue := q, tag := if getF s (fETH_CTL_VID n) = 0 then none else some (q, getF s (fETH_CTL_VID n)), dscp := queueDscp q,
    after := if (getF s fETH_STAT_LPI).testBit n then getF s (fETH_EEE_TWRES n) else 0 }

def isMulticast (g : Word) : Bool := decide (0xE0000000 ≤ g.toNat) && decide (g.toNat ≤ 0xEFFFFFFF)

/-- The next hop to an address (R258): itself within the prefix, else the gateway. Without a gateway the address itself (log entry 85). -/
def nextHop (s : State) (n : Nat) (ip : Word) : Word :=
  let k := 32 - getF s (fETH_NET_PREFIX n)
  let gw := getF s (fETH_GW_GW n)
  if isMulticast ip ∨ ip.toNat / 2 ^ k = getF s (fETH_IP_ADDR n) / 2 ^ k ∨ gw = 0 then ip else BitVec.ofNat 32 gw

/-- The IPv4 MTU (R265). -/
def ipMtu (s : State) (n : Nat) : Nat := if getF s (fETH_CTL_JUMBO n) = 1 then 9000 else 1500

/-- The fragments from payload offset `off` on, `unit` bytes each but for the last; the first argument bounds their number. -/
def fragsFrom : Nat → Nat → Nat → List Byte → List Fragment
  | 0, _, _, _ => []
  | k + 1, unit, off, bs =>
    if bs.length ≤ unit then [⟨off, false, bs⟩] else ⟨off, true, bs.take unit⟩ :: fragsFrom k unit (off + unit) (bs.drop unit)

/-- The fragments of a UDP datagram at an MTU (R265): beside 20 bytes of IPv4 header each holds a multiple of 8 bytes but for the last,
and the first begins with the 8 bytes of the UDP header. -/
def ipFragments (mtu : Nat) (bs : List Byte) : List Fragment :=
  let unit := (mtu - 20) / 8 * 8
  if 8 + bs.length ≤ mtu - 20 then [⟨0, false, bs⟩] else ⟨0, true, bs.take (unit - 8)⟩ :: fragsFrom bs.length unit unit (bs.drop (unit - 8))

/-- The code of a frame that carries no datagram of its own: 1 ARP reply, 2 ICMP echo reply, 3 IGMPv3 report, 4 Delay_Req, 5 Delay_Resp, 6
LLDP. Its bytes follow the code. -/
def plainByte (what : Nat) : List Byte := [byteOf what]

/-- A queued frame leaves, its fragments back to back (R264, R265); LPI ends with it (R266). -/
def putTx (n : Nat) (i : TxItem) (s : State) : State :=
  let o := ethOut s n i.queue
  let t := setMaskBit fETH_STAT_LPI n false s
  if i.plain then emit (.eth o (beNat (i.bytes.take 1)) (i.bytes.drop 1)) t
  else emit (.udp o (i.dest.map (fun d => nextHop s n d.ip)) i.dest (ipFragments (ipMtu s n) i.bytes)) t

/-- Queue a frame: it leaves at once unless the MAC obeys a pause (R263); a MAC without a link drops it (R275). -/
def txSend (n : Nat) (i : TxItem) (s : State) : State :=
  if (mac s n).paused then setMac n { mac s n with txq := (mac s n).txq ++ [i] } s
  else if macUp s n then putTx n i s
  else s

/-- Send a datagram of a UDP channel on a transmit queue of its MAC (R40, R264). It goes to the channel's peer; before a packet with a
good header CRC has come the manual names no destination, and it leaves with none (DESIGN CHOICE, log entry 86). -/
def sendUdp (ch queue : Nat) (bytes : List Byte) (s : State) : State :=
  txSend (chanMac s ch) { queue := queue, dest := (chan s ch).peer, owner := none, plain := false, bytes := bytes } s

/-! ## Packets, replies, handles and completions (R43 to R60) -/

/-- A whole item: header with HCRC, payload, and the payload CRC when PCRC is set (R44 to R46). -/
def makeItem (op : Nat) (tag : Half) (flags chn epoch : Nat) (payload : List Byte) : List Byte :=
  let h := [0xA5, 0xC3] ++ be2 op ++ be2 tag.toNat ++ be2 payload.length ++
    [byteOf flags, byteOf chn, byteOf epoch, 0, 0, 0]
  h ++ be2 (crc16 h) ++ payload ++ (if flags.testBit 2 then be4 (crc32 payload) else [])

/-- Put an item into an outbound queue (R33, R55); a UDP channel sends it at once. On channel 3 the target batch stands before a packet, 0
for one without (log entry 27). -/
def pushOut (ch queue : Nat) (it : OutItem) (s : State) : State :=
  if ch = 1 ∨ ch = 2 then sendUdp ch queue it.bytes s
  else setChan ch { chan s ch with out := (chan s ch).out ++ [if ch = 3 then { it with bytes := zeros 4 ++ it.bytes } else it] } s

/-- A packet goes to the twin over channel 3 with its target batch (R314, R320): into the queue that the CH3 cells empty (R312). -/
def sendCh3 (target : Word) (op : Nat) (payload : List Byte) (s : State) : State :=
  let it : OutItem := { reply := false, handle := none, bytes := beWord target ++ makeItem op 0 0 3 (chan s 3).epoch payload }
  emit (.ch3 target op payload) (setChan 3 { chan s 3 with out := (chan s 3).out ++ [it] } s)

/-- Store a reply in the replay cache of a UDP channel, the last 16 of them (R41). -/
def storeReplay (r : Req) (bytes : List Byte) (s : State) : State :=
  if r.ch = 1 ∨ r.ch = 2 then
    let k := chan s r.ch
    let l := k.replay ++ [{ tag := r.tag, key := r.key, bytes := bytes }]
    setChan r.ch { k with replay := l.drop (l.length - 16) } s
  else s

/-- The immediate reply to a command (R47): status block, then the result. -/
def reply (r : Req) (op status detail : Nat) (result : List Byte) (s : State) : State :=
  let bytes := makeItem op r.tag (if r.pcrc then 5 else 1) r.ch (chan s r.ch).epoch
    ([byteOf status, byteOf detail, 0, 0] ++ result)
  storeReplay r bytes (pushOut r.ch 4 { reply := true, bytes := bytes, handle := none } s)

def stOK : Nat := 0
def stACCEPTED : Nat := 1
def stBUSY : Nat := 2
def stABSENT : Nat := 3
def stBADOPCODE : Nat := 4
def stBADLENGTH : Nat := 5
def stBADCRC : Nat := 6
def stNOTNOW : Nat := 7
def stDENIED : Nat := 8
def stABORTED : Nat := 9
def stFAILED : Nat := 10

def replyOK (r : Req) (op : Nat) (result : List Byte) (s : State) : State := reply r op stOK 0 result s

/-- A check that a packet can fail: the condition, the status and the DETAIL. -/
structure Guard where
  bad    : Bool
  status : Nat
  detail : Nat
  deriving DecidableEq, Repr

def busyIf (b : Bool) : Guard := ⟨b, stBUSY, 0⟩
def absentIf (b : Bool) : Guard := ⟨b, stABSENT, 0⟩
def deniedIf (b : Bool) (d : Nat) : Guard := ⟨b, stDENIED, d⟩
def notNowIf (b : Bool) (d : Nat) : Guard := ⟨b, stNOTNOW, d⟩

/-- The first check that fails sets the reply and ends processing (R49, R417); else the command executes. -/
def checked (r : Req) (op : Nat) (gs : List Guard) (k : State → State) (s : State) : State :=
  match gs.find? (fun g => g.bad) with
  | some g => reply r op g.status g.detail [] s
  | none => k s

/-- Does the engine start commands: out of reset, and its supervisor running (R61, R359)? -/
def commandsLive (s : State) : Bool := s.pwr.phase == .run && s.pwr.sup && getF s fHOST_STAT_PAUSED == 0

/-- Do something only while the engine runs (out of reset, main rails up). -/
def ifRunning (f : State → State) (s : State) : State := if s.pwr.phase == .run then f s else s

/-- The groups a ROM that runs alone still answers: system, register, Kiln and update (R385). -/
def romAnswers (op : Nat) : Bool := op / 256 == 0 || op / 256 == 1 || op / 256 == 0xA || op / 256 == 0xB

/-- Does the engine answer this opcode with a check of its own? -/
def answers (s : State) (op : Nat) : Bool := commandsLive s && !(getF s fUPD_STAT_ROMONLY == 1 && !romAnswers op)

/-- A host command: checks 8 and 9 of R49, then its execution. DESIGN CHOICE (log entry 87): while the ROM runs alone, an opcode outside its
groups replies NOT_NOW, DETAIL 19 (R385) before the check of an absent unit, which R49 puts first for opcodes that are answered. -/
def command (r : Req) (op : Nat) (gs : List Guard) (k : State → State) (s : State) : State :=
  if commandsLive s then
    checked r op (notNowIf (getF s fUPD_STAT_ROMONLY == 1 && !romAnswers op) 19 :: gs) k s
  else s

/-- A command that would need the twin's active: on an engine in the STANDBY role only channel 3 may send it (R83, R150, R175,
R206, R227, R277). -/
def standbyDenied (r : Req) (s : State) : Guard := deniedIf (getF s fTWIN_STAT_ROLE == 2 && r.ch != 3) 8

/-- In Standby, commands that latch at a boundary reply NOT_NOW, DETAIL 14 (R352): from the acceptance of an entry until a leave
has been accepted and the entry has run to its end. -/
def inStandby (s : State) : Bool :=
  getF s fPWR_STAT_STANDBY == 1 || (match s.pwr.standby with
    | .entering _ => true
    | .gated => true
    | _ => false)
def standbyNotNow (s : State) : Guard := notNowIf (inStandby s) 14

def openHandles (s : State) (ch : Nat) : Nat := (chan s ch).handles.length

/-- The open-handle limit (R52), the first test of check 9 for a handled command (R417). -/
def handleLimit (r : Req) (s : State) : Guard := busyIf (64 ≤ openHandles s r.ch)

/-- A channel's issue counter, always 1 to 0x3FFF_FFFF (R51). -/
def issueCount (s : State) (ch : Nat) : Nat :=
  if (chan s ch).next = 0 ∨ 0x3FFFFFFF < (chan s ch).next then 1 else (chan s ch).next

/-- The handle that a channel issues next (R51). -/
def nextHandle (s : State) (ch : Nat) : Word := BitVec.ofNat 32 (ch * 2 ^ 30 + issueCount s ch)

/-- Issue a handle, start its operation, and reply ACCEPTED (R50 to R52). -/
def accept (r : Req) (op : Nat) (kind : OpKind) (s : State) : State :=
  let h := nextHandle s r.ch
  let k := chan s r.ch
  let n := if issueCount s r.ch = 0x3FFFFFFF then 1 else issueCount s r.ch + 1
  reply r op stACCEPTED 0 (beWord h)
    { setChan r.ch { k with next := n, handles := k.handles ++ [{ h := h, opcode := op, tag := r.tag, gen := s.gen, stopped := false, done := false }] } s
      with ops := s.ops ++ [{ ch := r.ch, h := h, kind := kind }] }

def seqNext (n : Nat) : Nat := if n = 0xFFFF then 1 else n + 1

/-- Put one completion into its outbound queue (R53). -/
def deliver (ch : Nat) (c : Compl) (s : State) : State :=
  let k := chan s ch
  match k.handles.find? (fun h => h.h == c.h) with
  | none => s
  | some r =>
    let pre := if r.gen < s.gen then 1 else 0
    let res := if 16 < c.result.length then 2 else 0
    let pay := beWord c.h ++ [byteOf c.status, byteOf (pre + res)] ++ be2 k.seq ++ beWord c.batch ++ be4 c.result.length ++
      (c.result ++ zeros 16).take 16
    let bytes := makeItem r.opcode r.tag 6 ch k.epoch pay
    let k1 := { k with seq := seqNext k.seq,
                       held := k.held.filter (fun d => !(d.h == c.h)),
                       results := if res = 0 then k.results else k.results ++ [{ h := c.h, seq := k.seq, bytes := c.result, left := 64 }],
                       unacked := if ch = 1 ∨ ch = 2 then k.unacked ++ [{ h := c.h, seq := k.seq, bytes := bytes, wait := 20 }] else k.unacked }
    pushOut ch 4 { reply := false, bytes := bytes, handle := some c.h } (setChan ch k1 s)

/-- The oldest generation of a channel's handles whose operation still runs, `s.gen + 1` when none does (R60). -/
def oldestGen (s : State) (ch : Nat) : Nat :=
  (chan s ch).handles.foldl (fun g h => if !h.done && decide (h.gen < g) then h.gen else g) (s.gen + 1)

def genOf (s : State) (ch : Nat) (h : Word) : Nat :=
  match (chan s ch).handles.find? (fun r => r.h == h) with
  | some r => r.gen
  | none => 0

/-- Insert a completion behind those of its own and of older generations. -/
def insertGen (s : State) (ch : Nat) (c : Compl) : List Compl → List Compl
  | [] => [c]
  | d :: t => if genOf s ch c.h < genOf s ch d.h then c :: d :: t else d :: insertGen s ch c t

/-- Release what R60 no longer holds back: completions for handles issued after an event wait for every handle issued before it. A
completion made during a Control reset is delivered at its end, with PRE = 1 (R60, R61; log entry 6). -/
def release (ch : Nat) (s : State) : State :=
  if s.kiln.ctlReset then s
  else
  let sorted := (chan s ch).held.foldl (fun l c => insertGen s ch c l) []
  foldState (deliver ch) (sorted.filter (fun c => decide (genOf s ch c.h ≤ oldestGen s ch))) s

/-- A handled operation finishes: its completion is made now and leaves as R57 and R60 say. -/
def finish (ch : Nat) (h : Word) (status : Nat) (result : List Byte) (s : State) : State :=
  let k := chan s ch
  if k.handles.any (fun r => r.h == h && !r.done) then
    release ch
      { setChan ch { k with handles := k.handles.map (fun r => if r.h == h then { r with done := true } else r),
                            held := k.held ++ [{ h := h, status := status, batch := batch s, result := result }] } s
        with ops := s.ops.filter (fun o => !(o.h == h)) }
  else { s with ops := s.ops.filter (fun o => !(o.h == h)) }

/-- Finish every running operation that satisfies `p`. -/
def finishAll (p : OpKind → Bool) (status : Nat) (result : List Byte) (s : State) : State :=
  foldState (fun o => finish o.ch o.h status result) (s.ops.filter (fun o => p o.kind)) s

/-- Stop the operations that satisfy `p`: their handles complete ABORTED when the reset or reaction ends (R60). -/
def stopOps (p : OpKind → Bool) (s : State) : State :=
  let hs := (s.ops.filter (fun o => p o.kind)).map (fun o => (o.ch, o.h))
  let t := { s with ops := s.ops.filter (fun o => !p o.kind) }
  foldState (fun (c : Nat) (u : State) =>
    let k := chan u c
    setChan c { k with handles := k.handles.map (fun r => if hs.contains (c, r.h) then { r with stopped := true } else r) } u)
    [0, 1, 2, 3] t

/-- Complete ABORTED every handle whose operation was stopped (R60). -/
def abortStopped (s : State) : State :=
  foldState (fun (c : Nat) (u : State) =>
    foldState (fun h => finish c h stABORTED []) (((chan u c).handles.filter (fun r => r.stopped && !r.done)).map (·.h)) u)
    [0, 1, 2, 3] s

def epochNext (e : Nat) : Nat := if e = 0xFF then 1 else e + 1

/-- A Control reset or a fault recovery begins a new epoch on every channel (R59). -/
def newEpoch (s : State) : State :=
  foldState (fun (c : Nat) (u : State) => setChan c { chan u c with epoch := epochNext (chan u c).epoch } u) [0, 1, 2, 3]
    { s with gen := s.gen + 1 }

/-- A completion has been delivered (R52): its handle closes, and stored results of earlier completions age (R54). -/
def delivered (ch : Nat) (h : Word) (seq : Nat) (s : State) : State :=
  let k := chan s ch
  let later (e : StoredResult) : Bool :=
    let d := (seq + 65536 - e.seq) % 65536
    decide (1 ≤ d) && decide (d ≤ 32767)
  let aged := k.results.map (fun e => if later e then { e with left := e.left - 1 } else e)
  setChan ch { k with handles := k.handles.filter (fun r => !(r.h == h)),
                      results := aged.filter (fun e => decide (0 < e.left)) } s

/-! ## Shards (R334, R337) -/

/-- A shard enters its source's queue of 16, or is lost and counted. -/
def enqueue (x : Shard) (s : State) : State :=
  if 16 ≤ (s.kiln.waiting.filter (fun y => y.src == x.src)).length then bump fKILN_CNT_DROP s
  else { s with kiln := { s.kiln with waiting := s.kiln.waiting ++ [x] } }

/-- A block sends a shard. -/
def send (src inst cls kind ctx : Nat) (s : State) : State :=
  enqueue { src := src, inst := inst, cls := cls, kind := kind, ctx := ctx } s

/-! ## Staged writes (R18, R314) -/

/-- Has a standby joined this active (R314)? -/
def joined (s : State) : Bool := getF s fTWIN_STAT_ROLE == 1 && s.twin.peerSync != 0

/-- The boundary at which a staging write that completes at cycle `r.c` takes effect (R18); with a joined standby one boundary
later (R314); a forwarded command names its own. -/
def dueOf (r : Req) (s : State) : Word :=
  match r.target with
  | some t => t
  | none =>
    batch s + (if r.c < 101376 then 1 else 2) + (if joined s then 1 else 0)

/-- A store on an active to a declared word becomes a mirror record (R315). The SPACE codes are the model's (log entry 18): the
DM of core n is n, the CSM of cluster k is 128 + k, delay lines 144, dynamics instances 145, bridges 146, outputs 147, protection
148, AES67 streams 149, ports 150. -/
def record (space addr : Nat) (w : Word) (s : State) : State :=
  if joined s then
    { s with twin := { s.twin with txRecs := s.twin.txRecs ++ [{ space := space, addr := BitVec.ofNat 32 addr, words := [w] }] } }
  else s

/-- Stage writes for their boundary; with a joined standby the values as applied go to it over channel 3 (R314). -/
def stage (r : Req) (op : Nat) (payload : List Byte) (ws : List StagedWrite) (s : State) : State :=
  let due := dueOf r s
  let t := { s with staged := s.staged ++ ws.map (fun w => { due := due, w := w }) }
  if joined s && r.target.isNone then sendCh3 due op payload t else t

/-- Does a command that begins work of its own wait for a target boundary: on an active with a joined standby, and when another
engine forwarded it (R314)? -/
def targeted (r : Req) (s : State) : Bool := joined s || r.target.isSome

/-- Begin the work of a handled command: at its target boundary where it has one (R314), else at once. -/
def startOrStage (r : Req) (op : Nat) (payload : List Byte) (w : StagedWrite) (now : State → State) (s : State) : State :=
  if targeted r s then stage r op payload [w] s else now s

end Sys2Proof.Machine
end

