-- ==== Sys2Proof/Machine/Flags.lean ====
section
/-! DEFINITION. Status that is computed and not stored: the fuse words (R3, R276, R373), the command channels' counters and
epochs (R64), the numbers of waiting entries (R270, R357); and the words that registers show. -/
namespace Sys2Proof.Machine

open Sys2Proof

/-- SYS_CAPS of a variant (R3). -/
def capsOf : Variant → Nat
  | .a => 0x000301F0
  | .m => 0x00130190
  | .n => 0x00230070

def romVersion (s : State) : Nat := s.fuses.romver

/-- A unit that is absent from this variant (R7). -/
def unitAbsent (s : State) (unit : Nat) : Bool :=
  (!hasMod s && unit == 11) || (!hasProt s && unit == 12) || (!hasTwin s && unit == 13)

/-- Fields that show a value held elsewhere. -/
def liveField (s : State) (addr lo : Nat) : Option Nat :=
  if addr = rSYS_ID then some (bits (0xD5000000 + s.fuses.maskrev % 256 * 65536 + 0x1024) (if lo = 0 then 15 else lo + 7) lo)
  else if addr = rSYS_CAPS then
    some (bits (capsOf s.fuses.variant) (if lo = 0 then 4 else if lo < 16 then lo else lo + 3) lo)
  else if addr = rSYS_ROMVER then some (s.fuses.romver % 2 ^ 32)
  else if addr = rETH_MACL 0 then some (s.fuses.mac0 % 2 ^ 32)
  else if addr = rETH_MACL 1 then some ((s.fuses.mac0 + 1) % 2 ^ 32)
  else if addr = rETH_MACH 0 then some (s.fuses.mac0 / 2 ^ 32 % 2 ^ 16)
  else if addr = rETH_MACH 1 then some ((s.fuses.mac0 + 1) / 2 ^ 32 % 2 ^ 16)
  else if addr = rHOST_STAT ∧ lo < 24 then some (chan s (lo / 8)).epoch
  else if addr = rHOST_HCNT 0 then some (issueCount s 0)
  else if addr = rHOST_HCNT 1 then some (issueCount s 1)
  else if addr = rHOST_HCNT 2 then some (issueCount s 2)
  else if addr = rKILN_LOGSTAT ∧ lo = 0 then some s.kiln.log.length
  else if addr = rETH_TSQ ∧ lo = 0 then some s.stamps.length
  else none

/-- What a field shows when it is read. A write-only field reads 0 (R9). -/
def showField (s : State) (addr : Nat) (f : FieldRow) : Nat :=
  if f.acc = .wo then 0
  else
    match liveField s addr f.lo with
    | some v => v
    | none => cget fieldReset s.regs (fieldKey addr f.lo)

/-- The word that fields make up; reserved bits read 0. -/
def wordOf (s : State) (addr : Nat) (fs : List FieldRow) : Nat :=
  fs.foldl (fun w f => w + showField s addr f % 2 ^ (f.hi + 1 - f.lo) * 2 ^ f.lo) 0

/-- The word a register shows, without any effect of a read; 0 where no register is, or its unit is absent (R7). -/
def peekReg (s : State) (addr : Nat) : Nat :=
  if unitAbsent s (unitOfAddr addr) then 0
  else
    match rowAt addr with
    | some r => wordOf s addr r.fields
    | none => 0

/-- Is any bit of a list of conditions set, as a mask. -/
def maskOf (l : List Bool) : Nat := l.foldr (fun b m => (if b then 1 else 0) + 2 * m) 0

/-- The mask over 0 … n − 1 of the numbers that satisfy `p`. -/
def maskWhere (n : Nat) (p : Nat → Bool) : Nat := maskOf ((List.range n).map p)

def b01 (b : Bool) : Nat := if b then 1 else 0

/-! ## Interrupt pins, computed from the state that drives them -/

/-- HOST_IRQ_N is low while an item waits in the outbound queue of channel 0 (R36, R38). -/
def hostIrqLow (s : State) : Bool := !(chan s 0).out.isEmpty

/-- KILN_IRQ_N is low while a class with IRQEN = 1 has UNACK set (R339). -/
def kilnIrqLow (s : State) : Bool :=
  (List.range 11).any (fun c => (getF s fKILN_STAT_UNACK).testBit c && getF s (fKILN_CLS_IRQEN c) == 1)

end Sys2Proof.Machine
end

