-- ==== Sys2Proof/Machine/Operands.lean ====
section
/-! DEFINITION. The operand forms of the host commands: how a payload spells its fields (big-endian, R43), the length rule of
each opcode (R49 check 7, R416), and the clamps that cards share (R56). -/
namespace Sys2Proof.Machine

open Sys2Proof

/-- What checks 5 and 7 of R49 make of an opcode and a payload. -/
inductive Parse where
  | unknown
  | badLength
  | cmd (i : Instr)
  deriving DecidableEq, Repr

/-- The payload must have exactly `n` bytes. -/
def lenIs (n : Nat) (p : List Byte) (i : Instr) : Parse := if p.length = n then .cmd i else .badLength

/-- The payload must have a fixed part and `k` bytes for each of `count` items, `count` from `lo` to `hi` (R416). -/
def lenCount (fixed k lo hi count : Nat) (p : List Byte) (i : Instr) : Parse :=
  if lo ≤ count ∧ count ≤ hi ∧ p.length = fixed + k * count then .cmd i else .badLength

def n1 (p : List Byte) (o : Nat) : Nat := num p o 1
def n2 (p : List Byte) (o : Nat) : Nat := num p o 2
def n4 (p : List Byte) (o : Nat) : Nat := num p o 4
def w4 (p : List Byte) (o : Nat) : Word := BitVec.ofNat 32 (num p o 4)
def h2 (p : List Byte) (o : Nat) : Half := BitVec.ofNat 16 (num p o 2)

/-- `n` words from offset `o`. -/
def wordsAt (p : List Byte) (o n : Nat) : List Word := (List.range n).map (fun i => w4 p (o + 4 * i))

/-- Any NaN among FP32 parameter fields (R56: DENIED, DETAIL 20). -/
def anyNaN (ws : List Word) : Bool :=
  ws.any (fun w => w.toNat / 2 ^ 23 % 256 == 255 && w.toNat % 2 ^ 23 != 0)

/-- An enumerated field out of range takes its highest legal code (R56). -/
def clampHi (hi n : Nat) : Nat := if hi < n then hi else n

end Sys2Proof.Machine
end

