-- ==== Sys2Proof/Machine/Bake.lean ====
section
/-! DEFINITION. Bake loading (R66 to R75, R93), the commit request (R76, R77, R82, R83), run-time parameters and coefficient
bundles (R84 to R87), and the bake-group reads. What a commit does at its boundary is in Machine/Commit.lean. -/
namespace Sys2Proof.Machine

open Sys2Proof

/-! ## The parts of the oven -/

def proofEMPTY : Nat := 0
def proofWRITING : Nat := 1
def proofVERIFYING : Nat := 2
def proofVALID : Nat := 3

def trayOf (b : Bake) (n : Nat) : Option TrayDef := b.trays.find? (fun t => t.num == n)

/-- The tray and entry of a parameter (R84). -/
def paramDef (b : Bake) (id : Nat) : Option (TrayDef × ParamDef) :=
  b.trays.findSome? fun t => (t.params.find? (fun p => p.id == id)).map fun p => (t, p)

def bundleDef (b : Bake) (id : Nat) : Option (TrayDef × BundleDef) :=
  b.trays.findSome? fun t => (t.bundles.find? (fun p => p.id == id)).map fun p => (t, p)

def coreDef (b : Bake) (n : Nat) : Option (TrayDef × CoreDef) :=
  b.trays.findSome? fun t => (t.cores.find? (fun p => p.core == n)).map fun p => (t, p)

/-- Is some state block that satisfies `p` declared in the mirror map of its tray (R88)? -/
def declared (b : Bake) (p : StateBlock → Bool) : Bool :=
  b.trays.any fun t => t.blocks.any fun k => t.mirror.contains k.tag && p k

def ovenEmpty (s : State) : Bool := s.oven.trays.isEmpty

def trayMask (b : Bake) : Nat := maskWhere 32 (fun n => (trayOf b n).isSome)

/-! ## The checks of R74 -/

/-- A section of the directory (R68). -/
structure Section where
  type : Nat
  tray : Nat
  off  : Nat
  len  : Nat
  crc  : Nat
  deriving DecidableEq, Repr

def sectionAt (img : List Byte) (i : Nat) : Section :=
  let o := 64 + 16 * i
  { type := n2 img o, tray := n1 img (o + 2), off := n4 img (o + 4), len := n4 img (o + 8), crc := n4 img (o + 12) }

def sections (img : List Byte) : List Section := (List.range (n1 img 21)).map (sectionAt img)

/-- Check 1: MAGIC, FORMAT and HEADER_CRC (R67). -/
def headerGood (img : List Byte) : Bool :=
  n4 img 0 == 0x5A424B31 && n2 img 4 == 1 && n4 img 60 == crc32 (img.take 60)

/-- The first directory entry that lies outside TOTAL, or whose section does (check 2). -/
def firstOutside (img : List Byte) (total : Nat) : Option Nat :=
  (List.range (n1 img 21)).find? fun i =>
    let e := sectionAt img i
    decide (total < 64 + 16 * i + 16) || decide (total < e.off + e.len)

/-- The first directory entry whose section CRC fails (check 3). -/
def firstBadCrc (img : List Byte) : Option Nat :=
  (List.range (n1 img 21)).find? fun i =>
    let e := sectionAt img i
    crc32 (sub img e.off e.len) != e.crc

/-- The lowest NEEDS bit that names no present unit (check 5). -/
def firstNeed (s : State) (needs : Nat) : Option Nat :=
  (List.range 8).find? fun i =>
    needs.testBit i && !((i == 0 && hasMod s) || (i == 1 && hasProt s) || (i == 2 && hasTwin s))

def sharedType (t : Nat) : Bool := t == 1 || t == 4 || t == 8 || t == 0xC
def perTrayType (t : Nat) : Bool := (t == 2 || t == 3 || t == 5 || t == 6 || t == 7 || t == 9 || t == 0xA || t == 0xB || t == 0xD)

/-- An entry of the tray directory (R69). CORES is a mask with bit n for core n, its bytes big-endian (R66). -/
structure TrayEntry where
  num   : Nat
  flags : Nat
  hash  : Word
  cores : Nat
  pages : Nat
  deriving DecidableEq, Repr

def trayEntries (img : List Byte) : List TrayEntry :=
  match (sections img).find? (fun e => e.type == 1) with
  | none => []
  | some d => (List.range (n1 img 20)).map fun i =>
      let o := d.off + 32 * i
      { num := n1 img o, flags := n1 img (o + 1), hash := w4 img (o + 4), cores := num img (o + 8) 16, pages := n4 img (o + 24) }

def allDistinct {α : Type} [DecidableEq α] : List α → Bool
  | [] => true
  | a :: t => !t.contains a && allDistinct t

/-- Check 8, detail 1: the structure of the directory. A section of a type outside R68's table has no place in it and fails too (DESIGN
CHOICE, log entry 89: the manual names no verdict). -/
def structureGood (img : List Byte) : Bool :=
  let ss := sections img
  let dirs := ss.filter (fun e => e.type == 1)
  let nums := (trayEntries img).map (·.num)
  decide (dirs.length = 1) && decide (1 ≤ n1 img 20) &&
    dirs.all (fun d => d.tray == 0xFF && d.len == 32 * n1 img 20) &&
    allDistinct nums && nums.all (fun n => decide (n < 32)) &&
    ss.all (fun e => (sharedType e.type && e.tray == 0xFF) || (perTrayType e.type && nums.contains e.tray))

/-- The bake that an image spells: the header and tray directory as R67 and R69 set them out, the rest as the Baker's sections
do (R68). -/
def readBake (img : List Byte) : Bake :=
  let b := Config.bakeContent img
  let ts := (trayEntries img).filterMap fun e =>
    (trayOf b e.num).map fun t => { t with drives := e.flags.testBit 0, hash := e.hash, coreMask := e.cores, pageCount := e.pages }
  { b with id := w4 img 8, frameHash := w4 img 12, libMin := w4 img 24, needs := n1 img 7, mirrorBytes := n4 img 28, trays := ts }

def sumOf (l : List Nat) : Nat := l.foldl (· + ·) 0

/-- Every slot address a bake names. -/
def bakeSlots (b : Bake) : List Nat :=
  b.trays.flatMap (fun t => t.slots.map (·.addr) ++ t.sources.map (·.slot) ++ t.dests.map (·.slot) ++
    t.dyns.flatMap (fun d => d.input :: d.out :: d.key.toList) ++ t.delays.flatMap (fun d => [d.input, d.out]) ++
    t.bridges.flatMap (fun d => [d.input, d.out]) ++ t.cores.flatMap (fun c => c.grants.map (·.slot)) ++ t.fades.flatMap (·.exports)) ++
  b.iface.map (·.slot) ++ b.ports.flatMap (fun p => p.chans.map (·.slot)) ++
  b.lanes.flatMap (fun l => (l.rx ++ l.tx).map (·.2)) ++ b.aes.flatMap (fun a => a.slots) ++ b.extSlots.map (·.addr)

/-- The channel limit of a port by its RATE code of R173 (R153). -/
def portChanLimit (rate : Nat) : Nat := if rate ≤ 2 then 32 else if rate ≤ 4 then 16 else 8

/-- The slots that a TDM line may have (R154): up to 16 at 44.1 and 48 kHz, 2, 4 or 8 at 88.2 and 96 kHz, up to 4 above. -/
def tdmLineGood (rate n : Nat) : Bool :=
  if rate ≤ 2 then decide (1 ≤ n ∧ n ≤ 16) else if rate ≤ 4 then n == 2 || n == 4 || n == 8 else decide (1 ≤ n ∧ n ≤ 4)

/-- The nominal rate of a RATE code of R173, in Hz. -/
def rateCodeHz (rate : Nat) : Nat :=
  match rate with
  | 1 => 44100
  | 2 => 48000
  | 3 => 88200
  | 4 => 96000
  | 5 => 176400
  | 6 => 192000
  | _ => 0

/-- The limits of a port (R153, R154, R156). -/
def portGood (p : PortDef) : Bool :=
  decide (p.chans.length ≤ portChanLimit p.rate) && p.chans.all (fun c => decide (c.line ≤ 1)) &&
  (if p.framing = 2 then
      [0, 1].all (fun l => decide ((p.chans.filter (fun c => c.line == l)).length ≤ p.lineSlots)) && tdmLineGood p.rate p.lineSlots &&
        decide (p.lineSlots * p.width * rateCodeHz p.rate ≤ 24576000) && (p.width == 16 || p.width == 24 || p.width == 32) &&
        decide (p.dataBit ≤ 1)
    else
      decide (p.framing ≤ 1) && [0, 1].all (fun l => decide ((p.chans.filter (fun c => c.line == l)).length ≤ 2)) && p.width == 32) &&
  (!p.master || ((p.rate == 2 || p.rate == 4) && (p.width == 16 || p.width == 32) && !p.asrc))

/-- The limits of an AES67 stream (R271). -/
def aesGood (a : AesDef) : Bool :=
  decide (0x10 ≤ a.owner ∧ a.owner ≤ 0x8F) && decide (1 ≤ a.slots.length ∧ a.slots.length ≤ 64) &&
  (a.packetUs == 125 || a.packetUs == 250 || a.packetUs == 1000) &&
  decide ((if a.rate96 then 96 else 48) * a.packetUs / 1000 * a.slots.length * (if a.l24 then 3 else 2) ≤ 1440)

def aesChannels (b : Bake) (rx : Bool) : Nat :=
  sumOf ((b.aes.filter (fun a => decide (a.owner < 0x50) == rx)).map (fun a => a.slots.length))

/-- The first limit of check 7 that a bake breaks. -/
def limitBroken (b : Bake) : Option Nat :=
  let dyns := b.trays.flatMap (·.dyns)
  let delays := b.trays.flatMap (·.delays)
  let bridges := b.trays.flatMap (·.bridges)
  let xps := sumOf (b.trays.map (fun t => t.xps.length))
  let broken : List Bool :=
    [ decide (32 < b.trays.length),
      (bakeSlots b).any (fun a => decide (8192 ≤ a)),
      decide (262144 < xps) || decide (262144 < sumOf (b.trays.map (·.quota))),
      dyns.any (fun d => decide (0x0810 ≤ d.inst)) || decide (128 < (dyns.filterMap (·.group)).eraseDups.length),
      decide (65536 < sumOf (delays.map (·.granules))) || decide (2048 < delays.length) || delays.any (fun d => decide (2048 ≤ d.line) || decide (65536 < d.granule + d.granules)),
      b.trays.any (fun t => t.cores.any (fun c => decide (94208 < c.deadline))),
      decide (4096 < b.transits.length),
      !(b.aes.all aesGood) || decide (128 < aesChannels b true) || decide (128 < aesChannels b false) ||
        decide (64 < (b.aes.filter (fun a => decide (a.owner < 0x50))).length) || decide (64 < (b.aes.filter (fun a => decide (0x50 ≤ a.owner))).length),
      !(b.ports.all portGood) || decide (64 < (b.asrcOwner.filter (fun o => o != 0xFF)).length),
      decide (64 < (bridges.filter (fun d => d.kind == 0)).length) || decide (64 < (bridges.filter (fun d => d.kind == 1)).length) ||
        decide (16 < (bridges.filter (fun d => d.kind == 2)).length) || decide (16 < (bridges.filter (fun d => d.kind == 3)).length) ||
        decide (8 < b.aligns.length),
      b.trays.any (fun t => t.fades.any (fun g => decide (g.len < 1) || decide (1024 < g.len))) ]
  (broken.findIdx? (fun x => x)).map (· + 1)

/-! ### Values outside their ranges (R68, check 8 detail 1) -/

def isComp (d : DynDef) : Bool := decide (d.inst < 0x400)
def isOutLim (d : DynDef) : Bool := decide (0x800 ≤ d.inst)

/-- The settings as applied: each selected field clamped (R140), the others as they stand. -/
def applyFields (d : DynDef) (mask : Nat) (f : DynFields) (o : DynSet) : DynSet :=
  let comp := isComp d
  let sel (i : Nat) : Bool := mask.testBit i
  let fl (i j : Nat) (legal old : Bool) : Bool := if sel i then f.flags.testBit j && legal else old
  { thresh := if sel 0 then fpParam (if comp then 0xC2A00000 else 0xC2200000) 0 f.thresh else o.thresh,
    ratio := if sel 1 && comp then fpParam 0x3F800000 0x42480000 f.ratio else o.ratio,
    knee := if sel 2 && comp then fpParam 0 0x41C00000 f.knee else o.knee,
    attack := if sel 3 then (if comp then fpParam 0x3DCCCCCD 0x43FA0000 f.attack else fpParam 0x3C23D70A 0x42480000 f.attack) else o.attack,
    release := if sel 4 then fpParam 0x3F800000 (if comp then 0x459C4000 else 0x44FA0000) f.release else o.release,
    makeup := if sel 5 && comp then fpParam 0xC1400000 0x41C00000 f.makeup else o.makeup,
    key := fl 6 0 d.key.isSome o.key,
    linked := fl 7 1 d.group.isSome o.linked,
    bypass := fl 8 2 (!isOutLim d) o.bypass,
    det := if comp then o.det else fl 9 3 (decide (4 ≤ d.look)) o.det,
    ramp := if sel 10 then (if f.ramp = 0 then 64 else clampHi 1024 f.ramp) else o.ramp }

/-- A setting as the fields of DYN_SET. -/
def setFields (o : DynSet) : DynFields :=
  { thresh := o.thresh, ratio := o.ratio, knee := o.knee, attack := o.attack, release := o.release, makeup := o.makeup,
    flags := b01 o.key + 2 * b01 o.linked + 4 * b01 o.bypass + 8 * b01 o.det, ramp := o.ramp }

def gainMin : Word := 0xC1800000
def gainMax : Word := 0x41800000

/-- The initial settings of an instance lie inside the limits of R140: a DYN_SET of all of them changes none. -/
def initGood (d : DynDef) : Bool := decide (applyFields d 0x7FF (setFields d.init) d.init = d.init) && decide (1 ≤ d.init.ramp ∧ d.init.ramp ≤ 1024)

/-- Rate and look-ahead of an instance (R138). -/
def lookGood (d : DynDef) : Bool :=
  if isOutLim d then d.rate == 2 && decide (d.look ≤ 384) && decide (1 ≤ d.release ∧ d.release ≤ 8)
  else if d.rate = 0 then decide (d.look ≤ 96) else d.rate == 1 && decide (d.look ≤ 192)

def cycleGood (c : Nat) : Bool := decide (c < 102400)

/-- The values of a tray's sections (R27, R80, R84, R86, R130, R131, R133, R138, R140, R145 to R148). -/
def trayGood (t : TrayDef) : Bool :=
  t.cores.all (fun c => decide (c.core < 128) && c.grants.all (fun g => cycleGood g.cycle)) &&
  decide (t.pages.length = t.pageCount) && (maskList 128 t.coreMask).all (fun n => t.cores.any (fun c => c.core == n)) &&
  t.sources.all (fun d => decide (d.index < 4096)) && t.dests.all (fun d => decide (d.index < 4096) && decide (1 ≤ d.ramp ∧ d.ramp ≤ 1024)) &&
  t.xps.all (fun x => decide (x.src < 4096 ∧ x.dst < 4096) && !fpIsNaN x.gain && fpClamp gainMin gainMax x.gain == x.gain) && cycleGood t.windowEnd &&
  t.dyns.all (fun d => lookGood d && initGood d && cycleGood d.cycle) &&
  t.delays.all (fun d => (d.packing == 3 || d.packing == 4) && decide (d.rate ≤ 2) && cycleGood d.cycle &&
    decide (d.init + 8 ≤ d.granules * (if d.packing = 3 then 256 else 192))) &&
  t.bridges.all (fun d => decide (d.kind ≤ 3) && cycleGood d.cycle) &&
  t.params.all (fun p => decide (p.id < 65536 ∧ p.kind ≤ 3) && decide (1 ≤ p.ramp ∧ p.ramp ≤ 1024)) &&
  t.bundles.all (fun d => decide (d.id < 65536 ∧ 1 ≤ d.sections ∧ d.sections ≤ 8) && decide (1 ≤ d.ramp ∧ d.ramp ≤ 1024) &&
    decide (d.init.length = 5 * d.sections)) &&
  allDistinct (t.fades.flatMap (·.exports))

/-- The streaming outputs of a bake: alignment group and release offset P of each (R30). -/
def streamingOuts (b : Bake) : List (Nat × Nat) :=
  (b.ports.filter (fun p => p.chans.any (fun c => !c.input))).map (fun p => (p.outGroup, p.release)) ++
  (b.aes.filter (fun a => decide (0x50 ≤ a.owner))).map (fun a => (a.outGroup, a.release)) ++
  (b.trays.flatMap (fun t => t.dyns.filter isOutLim)).map (fun d => (d.outGroup, d.release))

/-- Check 8, detail 1: every section holds the values the engine reads from it, each inside the range of the manual (R68). -/
def contentGood (b : Bake) : Bool :=
  b.trays.all trayGood &&
  b.ports.all (fun p => decide (p.port < 8) && decide (1 ≤ p.rate ∧ p.rate ≤ 6) && p.chans.all (fun c => decide (c.ch < 32))) &&
  allDistinct (b.ports.map (·.port)) && b.lanes.all (fun l => decide (l.lane < 8)) && allDistinct (b.lanes.map (·.lane)) &&
  b.transits.all (fun t => decide (t.rxLane < 8 ∧ t.txLane < 8)) &&
  b.aligns.all (fun a => decide (a.bundle < 8) && decide (2 ≤ a.members.length ∧ a.members.length ≤ 16)) &&
  b.report.all (fun e => decide (1 ≤ e.p ∧ e.p ≤ 8) && decide (e.frac ≤ 25599)) &&
  (streamingOuts b).all (fun x => decide (1 ≤ x.2 ∧ x.2 ≤ 8) && (streamingOuts b).all (fun y => x.1 != y.1 || x.2 == y.2))

/-- Does the content hold every tray of the directory? -/
def traysGood (img : List Byte) : Bool := decide ((readBake img).trays.length = (trayEntries img).length)

/-! ### Ownership (R70, check 8 detail 2) -/

/-- The slot addresses that the units of a tray produce, one for each producer: a core counts once for a slot. -/
def trayProducers (t : TrayDef) : List Nat :=
  t.dests.map (·.slot) ++ (t.dyns.filter (fun d => !isOutLim d)).map (·.out) ++ t.delays.map (·.out) ++ t.bridges.map (·.out) ++
    t.cores.flatMap (fun c => ((c.grants.filter (·.write)).map (·.slot)).eraseDups)

/-- The slot addresses that ports, lanes and streams produce; the members of a claim pair produce one slot together (R171, R250). -/
def extProducers (b : Bake) : List Nat :=
  let portSlots (p : PortDef) : List Nat := (p.chans.filter (·.input)).map (·.slot)
  let other (p : PortDef) : List Nat := (b.ports.filter (fun q => q.claimPair && q.port + 1 == p.port && q.port % 2 == 0)).flatMap portSlots
  let otherL (l : LaneDef) : List Nat := (b.lanes.filter (fun m => m.pair && m.lane + 1 == l.lane && m.lane % 2 == 0)).flatMap (fun m => m.rx.map (·.2))
  b.ports.flatMap (fun p => (portSlots p).filter (fun a => !(p.claimPair && (other p).contains a))) ++
  b.lanes.flatMap (fun l => (l.rx.map (·.2)).filter (fun a => !(l.pair && (otherL l).contains a))) ++
  (b.aes.filter (fun a => decide (a.owner < 0x50))).flatMap (·.slots)

/-- Check 8, detail 2: exclusive ownership (R70) and one producer for each slot address; what a tray's units produce is the tray's, and
its programs run on the cores of its CORES mask (R69). -/
def ownershipGood (b : Bake) : Bool :=
  allDistinct (b.trays.flatMap (fun t => maskList 128 t.coreMask)) &&
  allDistinct (b.trays.flatMap (fun t => t.cores.map (·.core))) &&
  b.trays.all (fun t => t.cores.all (fun c => t.coreMask.testBit c.core)) &&
  allDistinct (b.trays.flatMap (·.pages)) &&
  allDistinct (b.trays.flatMap (fun t => t.slots.map (·.addr)) ++ extProducers b) &&
  b.trays.all (fun t => allDistinct (trayProducers t) && (trayProducers t).all (fun a => t.slots.any (fun d => d.addr == a))) &&
  allDistinct (b.trays.flatMap (fun t => t.dests.map (·.index))) &&
  allDistinct (b.trays.flatMap (fun t => t.dyns.map (·.inst))) &&
  allDistinct (b.trays.flatMap (fun t => t.delays.map (·.line))) &&
  allDistinct (b.trays.flatMap (fun t => t.delays.flatMap (fun d => (List.range d.granules).map (· + d.granule)))) &&
  allDistinct (b.trays.flatMap (fun t => t.params.map (·.id))) &&
  allDistinct (b.trays.flatMap (fun t => t.bundles.map (·.id)))

/-- What the checks of R74 make of an image: the check that failed and its detail, or the bake. `host`: the highest byte
written plus 1, for a host load. `room`: the bytes of flash from the image's start, for a flash load. -/
inductive Verdict where
  | fail (check detail : Nat)
  | good (b : Bake)
  deriving DecidableEq, Repr

def verdict (s : State) (img : List Byte) (total : Nat) (totalBad : Bool) : Verdict :=
  if !headerGood img then .fail 1 0
  else if totalBad || decide (8388608 < total) || decide (total < 64) then .fail 2 0xFF
  else
    match firstOutside img total, firstBadCrc img with
    | some i, _ => .fail 2 i
    | none, some i => .fail 3 i
    | none, none =>
      if n1 img 6 ≠ 3 then .fail 4 0
      else
        match firstNeed s (n1 img 7) with
        | some i => .fail 5 i
        | none =>
          if s.upd.libVer.toNat < n4 img 24 then .fail 6 0
          else if 32 < n1 img 20 then .fail 7 1
          else
            let b := readBake img
            match limitBroken b with
            | some k => .fail 7 k
            | none =>
              if !(structureGood img && Config.bakeComplete img && traysGood img && contentGood b) then .fail 8 1
              else if !ownershipGood b then .fail 8 2
              else if 262144 < b.mirrorBytes ∨ b.mirrorBytes ≠ sumOf (b.trays.map (·.mirrorBytes)) then .fail 9 0
              else .good b

/-! ## Loading -/

def proofState (s : State) : Nat := getF s fBAKE_STAT_PROOF
def setProofState (v : Nat) (s : State) : State := setF fBAKE_STAT_PROOF v s

/-- The proof reads EMPTY (R74). -/
def emptyProof (s : State) : State :=
  setF fBAKE_PROOF_ID_ID 0 (setProofState proofEMPTY { clearMem proofBase 0x800000 s with proof := Bake.empty, proofTop := 0 })

def commitPending (s : State) : Bool := !s.commits.isEmpty
def loadRunning (s : State) : Bool := proofState s == proofVERIFYING

def isBakeLoad : OpKind → Bool
  | .bakeLoad _ => true
  | _ => false

def opBakeBegin (r : Req) (total : Nat) (s : State) : State :=
  command r 0x0200 [notNowIf (commitPending s) 1, busyIf (loadRunning s)]
    (fun s => replyOK r 0x0200 []
      (setProofState proofWRITING { emptyProof s with proofTotal := clampN 64 8388608 total })) s

/-- BAKE_BEGIN (R73, R75, R93). -/
def execBakeBegin (r : Req) (total : Nat) (s : State) : Host.Outcome State Fault Refusal :=
  runMem r.c (opBakeBegin r total) s

def opBakeWrite (r : Req) (offset : Nat) (crc : Word) (data : List Byte) (s : State) : State :=
  command r 0x0201 [deniedIf (proofState s != proofWRITING) 1]
    (fun s =>
      if crc32 data ≠ crc.toNat then reply r 0x0201 stFAILED 1 [] s
      else if s.proofTotal < offset + data.length then reply r 0x0201 stFAILED 2 [] s
      else replyOK r 0x0201 []
        { setMemBytes (proofBase + offset) data s with proofTop := max s.proofTop (offset + data.length) }) s

/-- BAKE_WRITE (R73, R93). -/
def execBakeWrite (r : Req) (offset : Nat) (crc : Word) (data : List Byte) (s : State) : Host.Outcome State Fault Refusal :=
  runMem r.c (opBakeWrite r offset crc data) s

def opBakeEnd (r : Req) (s : State) : State :=
  command r 0x0202 [handleLimit r s, deniedIf (proofState s != proofWRITING) 1]
    (fun s => accept r 0x0202 (.bakeLoad none) (setProofState proofVERIFYING s)) s

/-- BAKE_END (R74, R93). -/
def execBakeEnd (r : Req) (s : State) : Host.Outcome State Fault Refusal := run r.c (opBakeEnd r) s

def opBakeLoadFlash (r : Req) (offset : Nat) (s : State) : State :=
  command r 0x0203 [handleLimit r s, notNowIf (commitPending s) 1, busyIf (loadRunning s)]
    (fun s => accept r 0x0203 (.bakeLoad (some (offset / 4 * 4))) (setProofState proofVERIFYING (emptyProof s))) s

/-- BAKE_LOAD_FLASH (R73, R93). -/
def execBakeLoadFlash (r : Req) (offset : Nat) (s : State) : Host.Outcome State Fault Refusal :=
  runMem r.c (opBakeLoadFlash r offset) s

/-- A load that has run its checks ends (R74): the proof is VALID, or EMPTY and the completion names the check. -/
def endLoad (o : Op) (v : Verdict) (s : State) : State :=
  match v with
  | .fail k d =>
    finish o.ch o.h (if k = 5 then stABSENT else stFAILED) [byteOf k, byteOf d, 0, 0, 0, 0, 0, 0] (emptyProof s)
  | .good b =>
    finish o.ch o.h stOK ([0, 0, 0, 0] ++ beWord b.id)
      (setF fBAKE_PROOF_ID_ID b.id.toNat (setProofState proofVALID { s with proof := b }))

def loadDone (o : Op) (s : State) : State :=
  match o.kind with
  | .bakeLoad none =>
    let total := n4 (memBytes s proofBase 64) 16
    let img := memBytes s proofBase (min total 8388608)
    endLoad o (verdict s (if img.length < 64 then memBytes s proofBase 64 else img) total (total != s.proofTop)) s
  | .bakeLoad (some off) =>
    let hdr := memBytes s (flashBase + off) 64
    let total := n4 hdr 16
    let bad := decide (s.upd.flashSize < off + total)
    if !headerGood hdr || bad || decide (8388608 < total) || decide (total < 64) then endLoad o (verdict s hdr total bad) s
    else
      let img := memBytes s (flashBase + off) total
      let t := setMemBytes proofBase img s
      endLoad o (verdict s img total false) { t with proofTotal := total, proofTop := total }
  | _ => s

def opBakeLoadDone (s : State) : State :=
  if loadRunning s then
    match s.ops.find? (fun o => isBakeLoad o.kind) with
    | some o => loadDone o s
    | none => s
  else s

/-- BAKE_LOAD_DONE: the load that is read or verified ends (R6, R66 to R70, R74). -/
def execBakeLoadDone (c : Nat) (s : State) : Host.Outcome State Fault Refusal := runMem c (ifRunning opBakeLoadDone) s

/-! ## Commit -/

/-- Serial-number comparison of 32 bits: how far `a` lies ahead of `b`, `none` when it lies behind. -/
def serialAhead (a b : Word) : Option Nat :=
  let d := (a - b).toNat
  if d < 2 ^ 31 then some d else none

/-- May the oven take these trays of the proof (R76)? -/
def commitAllowed (s : State) (mask : Nat) : Bool :=
  let full := decide (mask = trayMask s.proof)
  if ovenEmpty s then full
  else full ||
    (s.proof.frameHash == s.oven.frameHash &&
      (List.range 32).all fun n =>
        mask.testBit n ||
          (match trayOf s.proof n, trayOf s.oven n with
           | none, none => true
           | some a, some b => a.hash == b.hash
           | _, _ => false))

/-- The trays that a commit holds: those it names, and with a full commit those it removes. -/
def commitTrays (s : State) (mask : Nat) : Nat :=
  if mask = trayMask s.proof then mask ||| trayMask s.oven else mask

/-- Is a TARGET nearer than 2 batches after the present one (R77)? -/
def targetTooNear (s : State) (target : Word) : Bool :=
  target != 0 &&
    (match serialAhead target (batch s) with
     | some d => decide (d < 2)
     | none => true)

def fadeMask (s : State) : Nat := getF s fBAKE_FADEMASK_TRAYS

/-- The boundary a commit may use at the earliest (R77), later when TARGET says so. -/
def commitStart (r : Req) (target : Word) (s : State) : Word :=
  match r.target with
  | some t => t
  | none =>
    let e := dueOf r s
    if target = 0 then e
    else if (serialAhead target e).isSome then target + (if joined s then 1 else 0) else e

def opBakeCommit (r : Req) (mask0 target : Word) (s : State) : State :=
  let mask := mask0.toNat &&& trayMask s.proof
  let busyMask := s.commits.foldl (fun m c => m ||| commitTrays s c.mask) 0
  command r 0x0204
    [handleLimit r s, standbyDenied r s, notNowIf (proofState s != proofVALID) 2,
     deniedIf (mask == 0 || !commitAllowed s mask) 2,
     busyIf (busyMask &&& commitTrays s mask != 0), standbyNotNow s,
     notNowIf (fadeMask s &&& commitTrays s mask != 0) 3,
     notNowIf (r.target.isNone && targetTooNear s target) 4,
     notNowIf (joined s && s.twin.peerProof != some s.proof.id) 5]
    (fun s =>
      let h := nextHandle s r.ch
      let start := commitStart r target s
      let t := accept r 0x0204 .commit
        (setF fBAKE_STAT_PENDING 1
          { s with commits := s.commits ++ [{ ch := r.ch, h := h, mask := mask, start := start, fade := none, faded := [] }] })
      if joined s && r.target.isNone then sendCh3 start 0x0204 (be4 mask ++ beWord start) t else t) s

/-- BAKE_COMMIT (R76, R77, R82, R83, R93). -/
def execBakeCommit (r : Req) (mask target : Word) (s : State) : Host.Outcome State Fault Refusal :=
  run r.c (opBakeCommit r mask target) s

/-! ## Reads -/

def opBakeStatus (r : Req) (s : State) : State :=
  command r 0x0205 []
    (fun s => replyOK r 0x0205
      ([rBAKE_STAT, rBAKE_OVEN_ID, rBAKE_PROOF_ID, rBAKE_LIVE, rBAKE_FADEMASK, rBAKE_MUTEMASK].flatMap (fun a => be4 (peekReg s a))) s) s

/-- BAKE_STATUS (R92, R93). -/
def execBakeStatus (r : Req) (s : State) : Host.Outcome State Fault Refusal := run r.c (opBakeStatus r) s

/-- A latency report entry as its 16 bytes (R91). -/
def reportBytes (e : ReportEntry) : List Byte :=
  be2 e.src ++ be2 e.dst ++ [byteOf e.passes, byteOf e.p] ++ be2 e.whole ++ be2 e.frac ++ be2 e.line ++
    [byteOf e.flags, byteOf e.tray, 0, 0]

def opBakeReport (r : Req) (index count : Nat) (s : State) : State :=
  command r 0x0206 [notNowIf (ovenEmpty s) 6]
    (fun s =>
      let i := min index (s.oven.report.length - 1)
      let n := clampN 1 255 count
      replyOK r 0x0206 (((s.oven.report.drop i).take n).flatMap reportBytes) s) s

/-- BAKE_REPORT (R91, R93). -/
def execBakeReport (r : Req) (index count : Nat) (s : State) : Host.Outcome State Fault Refusal :=
  run r.c (opBakeReport r index count) s

/-! ## Parameters -/

/-- A value clamped to a parameter's limits: FP32 values (R84), and codes of an enumeration, which out of range become the highest legal
code (R56). -/
def clampParam (d : ParamDef) (v : Word) : Word :=
  if d.kind = 3 then (if v.toNat < d.min.toNat ∨ d.max.toNat < v.toNat then d.max else v) else fpParam d.min d.max v

/-- The last value latched for a parameter, staged ones included (R20). -/
def paramTarget (s : State) (id : Nat) : Word :=
  match s.staged.reverse.findSome? (fun x => match x.w with
      | .param i _ v => if i = id then some v else none
      | _ => none) with
  | some v => v
  | none =>
    match param s id with
    | some p => p.ramp.target
    | none => 0

def opParamWrite (r : Req) (es : List ParamEntry) (s : State) : State :=
  let bad := es.any (fun e => (paramDef s.oven e.id).isNone)
  let nan := es.any fun e =>
    match paramDef s.oven e.id with
    | some (_, d) => d.kind != 3 && fpIsNaN e.value
    | none => false
  command r 0x0210 [standbyDenied r s, deniedIf bad 1, deniedIf nan 20, standbyNotNow s]
    (fun s =>
      let vs := es.map fun e =>
        match paramDef s.oven e.id with
        | some (_, d) => { e with value := clampParam d e.value, ramp := clampHi 1024 e.ramp }
        | none => e
      replyOK r 0x0210 (beWords (vs.map (·.value)))
        (stage r 0x0210 (be2 vs.length ++ [0, 0] ++ vs.flatMap (fun e => be2 e.id ++ be2 e.ramp ++ beWord e.value))
          (vs.map (fun e => .param e.id e.ramp e.value)) s)) s

/-- PARAM_WRITE (R18, R20, R82 to R85, R93). -/
def execParamWrite (r : Req) (es : List ParamEntry) (s : State) : Host.Outcome State Fault Refusal :=
  run r.c (opParamWrite r es) s

def opParamRead (r : Req) (id : Nat) (s : State) : State :=
  command r 0x0211 [deniedIf (paramDef s.oven id).isNone 1]
    (fun s =>
      let p := match param s id with
        | some p => p.ramp
        | none => steady 0
      replyOK r 0x0211 (beWord (paramTarget s id) ++ beWord (rampShown s r.c p).1 ++ be2 (rampShown s r.c p).2 ++ [0, 0]) s) s

/-- PARAM_READ (R20, R93). -/
def execParamRead (r : Req) (id : Nat) (s : State) : Host.Outcome State Fault Refusal := run r.c (opParamRead r id) s

/-- The word a parameter drives takes its value (R84). -/
def driveParam (d : ParamDef) (v : Word) (s : State) : State := setDspWord d.space d.loc v s

/-- The parameter words of sample `n` of the batch (R85): all of them at the boundary, then those whose ramp runs on. -/
def driveParams (n : Nat) (s : State) : State :=
  foldState (fun t u => foldState (fun (d : ParamDef) v =>
    match param v d.id with
    | some p => if n = 0 ∨ p.ramp.pos + n < p.ramp.len then driveParam d (rampSample p.ramp n) v else v
    | none => v) t.params u) s.oven.trays s

/-- A latched parameter write takes effect (R82, R85). -/
def applyParam (id ramp : Nat) (value : Word) (s : State) : State :=
  match paramDef s.oven id with
  | none => bump fBAKE_CNT_PDROP s
  | some (_, d) =>
    let v := clampParam d value
    let p := match param s id with
      | some p => p.ramp
      | none => steady d.init
    let l := if ramp = 0 then d.ramp else ramp
    setParam id (some { ramp := if d.kind = 3 then steady v else rampTo v l p }) s

/-! ## Coefficient bundles -/

/-- Poles inside the unit circle (R87): |a2| < 1 and |a1| < 1 + a2, on exact values. NaN and ±Inf are refused. -/
def sectionGood (c : List Word) : Bool :=
  match c with
  | [b0, b1, b2, a1, a2] =>
    let finite := !([b0, b1, b2, a1, a2].any fpIsE255)
    let one : Dy := ⟨1, 0⟩
    let x2 := fpVal a2
    let abs2 : Dy := if x2.m < 0 then x2.neg else x2
    let x1 := fpVal a1
    let abs1 : Dy := if x1.m < 0 then x1.neg else x1
    finite && abs2.lt one && abs1.lt (one.add x2)
  | _ => false

/-- The sections of a coefficient list, five words each. -/
def sectionsOf (ws : List Word) (n : Nat) : List (List Word) := (List.range n).map (fun i => (ws.drop (5 * i)).take 5)

def opBundleWrite (r : Req) (id sections ramp : Nat) (ws : List Word) (s : State) : State :=
  let size := match bundleDef s.oven id with
    | some (_, d) => d.sections
    | none => 0
  command r 0x0212 [standbyDenied r s, deniedIf (bundleDef s.oven id).isNone 1, deniedIf (size != sections) 9]
    (fun s =>
      match (sectionsOf ws sections).findIdx? (fun c => !sectionGood c) with
      | some i => reply r 0x0212 stDENIED 7 [byteOf i, 0, 0, 0] (bump fBAKE_CNT_BUNDLE s)
      | none =>
        if inStandby s then reply r 0x0212 stNOTNOW 14 [] s
        else
          let l := clampN 1 1024 ramp
          replyOK r 0x0212 []
            (stage r 0x0212 (be2 id ++ [byteOf sections, 0] ++ be2 l ++ [0, 0] ++ beWords ws) [.bundle id l ws] s)) s

/-- BUNDLE_WRITE (R86, R87, R93). -/
def execBundleWrite (r : Req) (id sections ramp : Nat) (ws : List Word) (s : State) : Host.Outcome State Fault Refusal :=
  run r.c (opBundleWrite r id sections ramp ws) s

/-- A latched bundle write takes effect, or is held while a crossfade runs (R82, R86); one of a size that a commit has changed is
discarded (R79). -/
def applyBundle (id ramp : Nat) (ws : List Word) (s : State) : State :=
  match bundleDef s.oven id, bundle s id with
  | some (_, d), some b =>
    if ws.length ≠ 5 * d.sections then bump fBAKE_CNT_PDROP s
    else if b.next.isSome ∧ 0 < b.pos then setBundle id (some { b with held := some (ramp, ws) }) s
    else setBundle id (some { b with next := some ws, len := ramp, pos := 0, held := none }) s
  | _, _ => bump fBAKE_CNT_PDROP s

/-- The crossfade gain of a bundle's new set at sample `n` of this batch (R86). -/
def bundleGain (b : BundleSt) (n : Nat) : Word := rampSample { start := fpZero, target := fpOne, len := b.len, pos := b.pos } n

/-- Words stored from a place on, and words copied, in a core's memory. -/
def storeDsp (space loc : Nat) (ws : List Word) (s : State) : State := foldState (fun e t => setDspWord space (loc + e.2) e.1 t) ws.zipIdx s
def copyDsp (space src dst n : Nat) (s : State) : State := storeDsp space dst ((List.range n).map (fun i => dspWord s space (src + i))) s

/-- What the core of a bundle finds in a batch (R86; log entry 88): the set in force; and while it changes the new set, its state, which
at the boundary starts as a copy of the old set's, and the gain of its output at each sample. -/
def placeBundle (d : BundleDef) (b : BundleSt) (s : State) : State :=
  let t := storeDsp d.space d.coef b.cur s
  match b.next with
  | none => storeDsp d.space d.gain (List.replicate 8 fpZero) t
  | some ws =>
    let u := if b.pos = 0 then copyDsp d.space d.state d.newState (4 * d.sections) t else t
    storeDsp d.space d.gain ((List.range 8).map (bundleGain b)) (storeDsp d.space d.newCoef ws u)

def placeBundles (s : State) : State :=
  foldState (fun t u => foldState (fun (d : BundleDef) v =>
    match bundle v d.id with
    | some b => placeBundle d b v
    | none => v) t.bundles u) s.oven.trays s

/-- A crossfade ends: the old set is dropped (R86). The held write stays for the next boundary. -/
def endBundleFade (b : BundleSt) : BundleSt :=
  match b.next with
  | some n => { b with cur := n, next := none, len := 0, pos := 0 }
  | none => b

/-- The same in the core: what ran as the new set runs on as the set in force. -/
def dropOldSet (d : BundleDef) (b : BundleSt) (s : State) : State := placeBundle d (endBundleFade b) (copyDsp d.space d.newState d.state (4 * d.sections) s)

def opBundleCrossfadeEnd (id : Nat) (s : State) : State :=
  match bundle s id, bundleDef s.oven id with
  | some b, some (_, d) => if b.next.isSome ∧ b.len ≤ b.pos + 8 then dropOldSet d b (setBundle id (some (endBundleFade b)) s) else s
  | _, _ => s

/-- BUNDLE_CROSSFADE_END: the crossfade of a bundle has made its last sample (R86). -/
def execBundleCrossfadeEnd (c id : Nat) (s : State) : Host.Outcome State Fault Refusal :=
  run c (ifRunning (opBundleCrossfadeEnd id)) s

/-- What the bake group's opcodes spell (R93). -/
def parseBake (r : Req) (op : Nat) (p : List Byte) : Parse :=
  match op with
  | 0x0200 => lenIs 4 p (.bakeBegin r (n4 p 0))
  | 0x0201 => lenCount 12 1 1 4000 (n2 p 4) p (.bakeWrite r (n4 p 0) (w4 p 8) (p.drop 12))
  | 0x0202 => lenIs 0 p (.bakeEnd r)
  | 0x0203 => lenIs 4 p (.bakeLoadFlash r (n4 p 0))
  | 0x0204 => lenIs 8 p (.bakeCommit r (w4 p 0) (w4 p 4))
  | 0x0205 => lenIs 0 p (.bakeStatus r)
  | 0x0206 => lenIs 4 p (.bakeReport r (n2 p 0) (n2 p 2))
  | 0x0210 => lenCount 4 8 1 255 (n2 p 0) p (.paramWrite r ((List.range (n2 p 0)).map fun i =>
      { id := n2 p (4 + 8 * i), ramp := n2 p (6 + 8 * i), value := w4 p (8 + 8 * i) }))
  | 0x0211 => lenIs 4 p (.paramRead r (n2 p 0))
  | 0x0212 => lenCount 8 20 1 8 (n1 p 2) p (.bundleWrite r (n2 p 0) (n1 p 2) (n2 p 4) (wordsAt p 8 (5 * n1 p 2)))
  | _ => .unknown

end Sys2Proof.Machine
end

