-- ==== Sys2Proof/Machine/Mix.lean ====
section
/-! DEFINITION. Slots as producers write and consumers read them (R24, R25, R81, R98), and the mix engine (R130 to R137, R152):
crosspoints, quotas, ramps and the sums. -/
namespace Sys2Proof.Machine

open Sys2Proof

/-! ## Slots -/

/-- Stores of the cores become visible to other accesses (R98). -/
def settleStores (c : Nat) (s : State) : State :=
  let now := s.stores.filter (fun x => decide (x.seen ≤ c))
  foldState (fun x t => setSlotWord (x.key / 8) (x.key % 8) x.val t) now
    { s with stores := s.stores.filter (fun x => !decide (x.seen ≤ c)) }

/-- A slot word read as FP32 (R25). -/
def readFp (s : State) (a w : Nat) : Word :=
  if (slotDef s.oven a).fp32 then slotWord s a w else int24ToFp (slotWord s a w)

/-- A slot word read as int24 (R25), and whether the conversion saturated. -/
def readInt24 (s : State) (a w : Nat) : SatRes :=
  if (slotDef s.oven a).fp32 then fpToInt24 (slotWord s a w)
  else { w := slotWord s a w &&& 0xFFFFFF00, sat := false }

/-- The Core sample within the batch that word `w` of a slot belongs to, the later one where it covers two (R24). -/
def coreSample (rate w : Nat) : Nat :=
  if rate = 0 then 2 * w + 1 else if rate = 2 then w / 2 else if rate = 3 then 4 + w / 2 else w

/-- The gain that a fade puts on word `w` of a slot in this batch (R81). -/
def fadeGain (s : State) (a w : Nat) : Word := rampSample (slotFade s a).gain (coreSample (slotDef s.oven a).rate w)

/-- A producer's word after the fade of its slot (R81). -/
def fadedWord (s : State) (a w : Nat) (v : Word) : Word :=
  let g := fadeGain s a w
  if g = fpOne then v
  else if (slotDef s.oven a).fp32 then fpMul g v
  else (fpToInt24 (fpMul g (int24ToFp v))).w

/-- A producer writes an FP32 result into its slot; `sat` tells that the conversion to int24 saturated (R25). -/
structure SlotOut where
  s   : State
  sat : Bool

def writeFp (a w : Nat) (v : Word) (s : State) : SlotOut :=
  if (slotDef s.oven a).fp32 then { s := setSlotWord a w (fadedWord s a w v) s, sat := false }
  else
    let r := fpToInt24 v
    { s := setSlotWord a w (fadedWord s a w r.w) s, sat := r.sat }

/-- A producer writes a word that is already in the slot's format. -/
def writeRaw (a w : Nat) (v : Word) (s : State) : State := setSlotWord a w (fadedWord s a w v) s

/-! ## Crosspoints -/

def fpIsZero (w : Word) : Bool := (w &&& 0x7FFFFFFF) == 0

def sourceDef (b : Bake) (i : Nat) : Option SourceDef := b.trays.findSome? fun t => t.sources.find? (fun d => d.index == i)
def destDef (b : Bake) (i : Nat) : Option (TrayDef × DestDef) :=
  b.trays.findSome? fun t => (t.dests.find? (fun d => d.index == i)).map fun d => (t, d)

/-- The crosspoints of a destination, in ascending source index (R134). -/
def xpsOf (s : State) (dst : Nat) : List (Nat × Ramp) :=
  s.xps.filterMap fun e => if e.1 / 65536 = dst then e.2.map (fun r => (e.1 % 65536, r)) else none

/-- Is a crosspoint reserved by a write that has not latched (R132)? -/
def xpReserved (s : State) (src dst : Nat) : Bool :=
  s.staged.any fun x =>
    match x.w with
    | .xp a b g _ => a == src && b == dst && !fpIsZero g
    | .route b _ es => b == dst && es.any (fun e => e.src == src && !fpIsZero e.gain)
    | _ => false

/-- The crosspoints that staged writes reserve. -/
def stagedXps (s : State) : List Nat :=
  s.staged.flatMap fun x =>
    match x.w with
    | .xp a b g _ => if fpIsZero g then [] else [xpKey a b]
    | .route b _ es => (es.filter (fun e => !fpIsZero e.gain)).map (fun e => xpKey e.src b)
    | _ => []

/-- Would these crosspoints take a tray over its quota (R132)? -/
def overQuota (s : State) (new : List Nat) : Bool :=
  let all := ((s.xps.filterMap (fun e => if e.2.isSome then some e.1 else none)) ++ stagedXps s ++ new).eraseDups
  s.oven.trays.any fun t =>
    decide (t.quota < (all.filter (fun k => t.dests.any (fun d => d.index == k / 65536))).length) &&
      new.any (fun k => t.dests.any (fun d => d.index == k / 65536))

/-- The last gain latched for a crosspoint, from the reply of its write onward (R20). -/
def xpTarget (s : State) (src dst : Nat) : Word :=
  let staged := s.staged.reverse.findSome? fun x =>
    match x.w with
    | .xp a b g _ => if a = src ∧ b = dst then some g else none
    | .route b _ es =>
      if b = dst then some (match es.reverse.find? (fun e => e.src == src) with
        | some e => e.gain
        | none => fpZero)
      else none
    | _ => none
  match staged, xp s src dst with
  | some g, _ => g
  | none, some r => r.target
  | none, none => fpZero

/-- MIX_STAT: crosspoints that exist, and destinations with a ramp in progress; FADES stands while the clocks are gated, when no ramp
progresses (R10, R151, R352). -/
def refreshMix (s : State) : State :=
  let live := s.xps.filter (fun e => e.2.isSome)
  let fading := (live.filter (fun e => match e.2 with
    | some r => decide (0 < rampLeft r)
    | none => false)).map (fun e => e.1 / 65536)
  when_ (clocksRun s) (setF fMIX_STAT_FADES fading.eraseDups.length) (setF fMIX_STAT_ACTIVE live.length s)

def opXpSet (r : Req) (es : List XpEntry) (s : State) : State :=
  let unbound := es.any (fun e => (sourceDef s.oven e.src).isNone || (destDef s.oven e.dst).isNone)
  let vs := es.map (fun e => { e with gain := fpParam gainMin gainMax e.gain, ramp := clampHi 1024 e.ramp })
  let excess := !unbound && overQuota s ((vs.filter (fun e => !fpIsZero e.gain)).map (fun e => xpKey e.src e.dst))
  let denied := excess && !(es.any (fun e => fpIsNaN e.gain)) && (standbyDenied r s).bad == false
  command r 0x0300 [standbyDenied r s, deniedIf unbound 1, deniedIf (es.any (fun e => fpIsNaN e.gain)) 20, deniedIf excess 3, standbyNotNow s]
    (fun s => replyOK r 0x0300 (beWords (vs.map (·.gain)))
      (stage r 0x0300 (be2 vs.length ++ [0, 0] ++ vs.flatMap (fun e => be2 e.src ++ be2 e.dst ++ beWord e.gain ++ be2 e.ramp ++ [0, 0]))
        (vs.map (fun e => .xp e.src e.dst e.gain e.ramp)) s))
    (when_ (answers s 0x0300 && denied) (bump fMIX_CNT_DENY) s)

/-- XP_SET (R130 to R137, R152). -/
def execXpSet (r : Req) (es : List XpEntry) (s : State) : Host.Outcome State Fault Refusal := run r.c (opXpSet r es) s

def opXpRead (r : Req) (src dst : Nat) (s : State) : State :=
  command r 0x0301 [deniedIf ((sourceDef s.oven src).isNone || (destDef s.oven dst).isNone) 1]
    (fun s =>
      let p := match xp s src dst with
        | some p => p
        | none => steady fpZero
      let there := (xp s src dst).isSome || xpReserved s src dst
      replyOK r 0x0301 (if there then beWord (xpTarget s src dst) ++ beWord (rampShown s r.c p).1 ++ be2 (rampShown s r.c p).2 ++ [0, 0] else zeros 12) s) s

/-- XP_READ (R20, R152). -/
def execXpRead (r : Req) (src dst : Nat) (s : State) : Host.Outcome State Fault Refusal := run r.c (opXpRead r src dst) s

def opRouteSet (r : Req) (dst ramp : Nat) (es : List RouteEntry) (s : State) : State :=
  let unbound := (destDef s.oven dst).isNone || es.any (fun e => (sourceDef s.oven e.src).isNone)
  let nan := es.any (fun e => fpIsNaN e.gain)
  let vs := es.map (fun e => { e with gain := fpParam gainMin gainMax e.gain })
  let l := clampHi 1024 ramp
  let due := dueOf r s
  -- of two ROUTE_SET on one destination for one boundary the later alone takes effect (R137)
  let drop (x : Staged) : Bool := x.due == due && (match x.w with
    | .route b _ _ => b == dst
    | _ => false)
  let excess := !unbound && overQuota { s with staged := s.staged.filter (fun x => !drop x) }
    ((vs.filter (fun e => !fpIsZero e.gain)).map (fun e => xpKey e.src dst))
  let denied := excess && !nan && (standbyDenied r s).bad == false
  command r 0x0302 [standbyDenied r s, deniedIf unbound 1, deniedIf nan 20, deniedIf excess 3, standbyNotNow s]
    (fun s => replyOK r 0x0302 (beWords (vs.map (·.gain)))
      (stage r 0x0302 (be2 dst ++ be2 vs.length ++ be2 l ++ [0, 0] ++ vs.flatMap (fun e => be2 e.src ++ [0, 0] ++ beWord e.gain))
        [.route dst l vs] { s with staged := s.staged.filter (fun x => !drop x) }))
    (when_ (answers s 0x0300 && denied) (bump fMIX_CNT_DENY) s)

/-- ROUTE_SET (R136, R137, R152). -/
def execRouteSet (r : Req) (dst ramp : Nat) (es : List RouteEntry) (s : State) : Host.Outcome State Fault Refusal :=
  run r.c (opRouteSet r dst ramp es) s

/-- Set a crosspoint's target at a boundary (R135, R136); one that does not exist is created with present gain 0. -/
def aimXp (src dst : Nat) (g : Word) (l : Nat) (s : State) : State :=
  match xp s src dst with
  | some r => setXp src dst (some (rampTo g l r)) s
  | none => if fpIsZero g then s else setXp src dst (some (rampTo g l (steady fpZero))) s

/-- A latched XP_SET entry takes effect (R82, R135). -/
def applyXp (src dst : Nat) (g : Word) (ramp : Nat) (s : State) : State :=
  match sourceDef s.oven src, destDef s.oven dst with
  | some _, some (_, d) => aimXp src dst g (if ramp = 0 then d.ramp else ramp) s
  | _, _ => bump fBAKE_CNT_PDROP s

/-- A latched ROUTE_SET takes effect (R82, R136). -/
def applyRoute (dst ramp : Nat) (es : List RouteEntry) (s : State) : State :=
  match destDef s.oven dst with
  | none => bump fBAKE_CNT_PDROP s
  | some (_, d) =>
    let l := if ramp = 0 then d.ramp else ramp
    let good := es.filter (fun e => (sourceDef s.oven e.src).isSome)
    let t := bumpN fBAKE_CNT_PDROP (es.length - good.length) s
    let listed := good.map (·.src)
    let u := foldState (fun e => aimXp e.1 dst fpZero l) ((xpsOf t dst).filter (fun e => !listed.contains e.1)) t
    foldState (fun src v =>
      match good.reverse.find? (fun e => e.src == src) with
      | some e => aimXp src dst e.gain l v
      | none => v) listed.eraseDups u

/-- At a boundary every ramp has made 8 more samples, and a crosspoint whose ramp reached 0 is removed (R136). -/
def advanceXps (s : State) : State :=
  { s with xps := s.xps.filterMap fun e =>
      match e.2 with
      | none => none
      | some r =>
        let q := rampAdvance 8 r
        if q.len = 0 ∧ fpIsZero q.target then none else some (e.1, some q) }

/-! ## The sums (R134) -/

/-- One sample of a destination: the exact products added into an A-format accumulator in ascending source index, rounded once. -/
def mixSample (s : State) (dst n : Nat) : FpRes :=
  let acc := (xpsOf s dst).foldl (fun (a : AccW) e =>
    match sourceDef s.oven e.1 with
    | some d => (accRound ((accVal a).add ((fpVal (rampSample e.2 n)).mul (fpVal (readFp s d.slot n))))).a
    | none => a) 0
  fpRound (accVal acc)

/-- A destination saturated: the counters, and one DATA MIXSAT shard per batch (R134). -/
def mixSaturated (slot : Nat) (fov sat : Bool) (s : State) : State :=
  let t := when_ sat (bump fMIX_CNT_SAT) (when_ fov (bump fMIX_CNT_FOV) s)
  if (fov || sat) && !t.kiln.mixSent then
    send 6 0 1 7 slot { t with kiln := { t.kiln with mixSent := true } }
  else t

/-- A destination is written at the end of its tray's window (R133). -/
def mixDest (d : DestDef) (s : State) : State :=
  let rs := (List.range 8).map (fun n => mixSample s d.index n)
  foldState (fun n t =>
    match rs[n]? with
    | some r =>
      let o := writeFp d.slot n r.w t
      mixSaturated d.slot r.ovf o.sat o.s
    | none => t) (List.range 8) s

/-- What the mix group's opcodes spell (R152). -/
def parseMix (r : Req) (op : Nat) (p : List Byte) : Parse :=
  match op with
  | 0x0300 => lenCount 4 12 1 255 (n2 p 0) p (.xpSet r ((List.range (n2 p 0)).map fun i =>
      { src := n2 p (4 + 12 * i), dst := n2 p (6 + 12 * i), gain := w4 p (8 + 12 * i), ramp := n2 p (12 + 12 * i) }))
  | 0x0301 => lenIs 4 p (.xpRead r (n2 p 0) (n2 p 2))
  | 0x0302 => lenCount 8 8 0 255 (n2 p 2) p (.routeSet r (n2 p 0) (n2 p 4) ((List.range (n2 p 2)).map fun i =>
      { src := n2 p (8 + 8 * i), gain := w4 p (12 + 8 * i) }))
  | 0x0303 => lenIs 4 p (.routeLatency r (n2 p 0) (n2 p 2))
  | 0x0304 => lenCount 4 8 1 255 (n2 p 0) p (.delaySet r ((List.range (n2 p 0)).map fun i =>
      { line := n2 p (4 + 8 * i), ramp := n2 p (6 + 8 * i), delay := n4 p (8 + 8 * i) }))
  | 0x0305 => lenIs 4 p (.delayRead r (n2 p 0))
  | 0x0400 => lenIs 32 p (.dynSet r (n2 p 0) (n2 p 2)
      { thresh := w4 p 4, ratio := w4 p 8, knee := w4 p 12, attack := w4 p 16, release := w4 p 20, makeup := w4 p 24,
        flags := n1 p 28, ramp := n2 p 30 })
  | 0x0401 => lenIs 4 p (.dynRead r (n2 p 0))
  | _ => .unknown

end Sys2Proof.Machine
end

