-- ==== Sys2Proof/Machine/Dynamics.lean ====
section
/-! DEFINITION. The dynamics engine (R138 to R144, R152): settings, the gain computation, link groups, and the fixed
Double-domain output pipeline of each output (R11): bridge, output limiter, modulator input. -/
namespace Sys2Proof.Machine

open Sys2Proof

/-! ## Instances and settings (R138, R140) -/

def dynDef (b : Bake) (i : Nat) : Option (TrayDef × DynDef) :=
  b.trays.findSome? fun t => (t.dyns.find? (fun d => d.inst == i)).map fun d => (t, d)

/-- Samples of a batch at an instance's rate (R21). -/
def rateSamples (rate : Nat) : Nat := if rate = 0 then 4 else if rate = 1 then 8 else 16
def rateHz (rate : Nat) : Nat := if rate = 0 then 48000 else if rate = 1 then 96000 else 192000

/-- The 28 bytes of DYN_SET from THRESH onward. -/
def dynBytes (o : DynSet) : List Byte :=
  let f := setFields o
  beWords [f.thresh, f.ratio, f.knee, f.attack, f.release, f.makeup] ++ [byteOf f.flags, 0] ++ be2 f.ramp

/-- The settings last latched, staged ones included (R20). -/
def dynTarget (s : State) (d : DynDef) : DynSet :=
  let cur := match dyn s d.inst with
    | some x => x.set
    | none => d.init
  s.staged.foldl (fun o x => match x.w with
    | .dyn i m v => if i = d.inst then applyFields d m (setFields v) o else o
    | _ => o) cur

/-- exp(−1 / (T × 0.001 × fs)) (R141). -/
def timeCoeff (t : Word) (rate : Nat) : Word :=
  expUnit (fpDiv 0xBF800000 (fpMul (fpMul t 0x3A83126F) (fpOfNat (rateHz rate))))

/-- An instance as it is created: g at 0 dB, its buffers zero (R79, R141). -/
def newDyn (d : DynDef) : DynSt :=
  { set := d.init, thresh := steady d.init.thresh, iratio := steady (fpDiv fpOne d.init.ratio), knee := steady d.init.knee,
    makeup := steady (if isComp d then d.init.makeup else 0), link := steady (if d.init.linked then fpOne else fpZero),
    byp := steady (if d.init.bypass then fpOne else fpZero), aAtt := timeCoeff d.init.attack d.rate, aRel := timeCoeff d.init.release d.rate,
    g := fpZero, buf := List.replicate (d.look + 1) 0, keyBuf := List.replicate (d.look + 6) 0, req := List.replicate (d.look + 1) d.init.thresh,
    app := fpZero, trace := [] }

/-- A ramp moves only when its setting is written. -/
def moveRamp (sel : Bool) (t : Word) (l : Nat) (r : Ramp) : Ramp := if sel then rampTo t l r else r

/-- A latched DYN_SET takes effect (R140). -/
def latchDyn (d : DynDef) (mask : Nat) (v : DynSet) (x : DynSt) : DynSt :=
  let o := applyFields d mask (setFields v) x.set
  let l := o.ramp
  { x with set := o,
           thresh := moveRamp (mask.testBit 0) o.thresh l x.thresh,
           iratio := moveRamp (mask.testBit 1 && isComp d) (fpDiv fpOne o.ratio) l x.iratio,
           knee := moveRamp (mask.testBit 2 && isComp d) o.knee l x.knee,
           makeup := moveRamp (mask.testBit 5 && isComp d) o.makeup l x.makeup,
           link := moveRamp (mask.testBit 7) (if o.linked then fpOne else fpZero) l x.link,
           byp := moveRamp (mask.testBit 8) (if o.bypass then fpOne else fpZero) l x.byp,
           aAtt := if mask.testBit 3 then timeCoeff o.attack d.rate else x.aAtt,
           aRel := if mask.testBit 4 then timeCoeff o.release d.rate else x.aRel }

def applyDyn (inst mask : Nat) (v : DynSet) (s : State) : State :=
  match dynDef s.oven inst, dyn s inst with
  | some (_, d), some x => setDyn inst (some (latchDyn d mask v x)) s
  | _, _ => bump fBAKE_CNT_PDROP s

/-- At a boundary an instance's ramps have made the samples of the batch. -/
def advanceDyn (n : Nat) (x : DynSt) : DynSt :=
  { x with thresh := rampAdvance n x.thresh, iratio := rampAdvance n x.iratio, knee := rampAdvance n x.knee,
           makeup := rampAdvance n x.makeup, link := rampAdvance n x.link, byp := rampAdvance n x.byp, trace := [] }

def advanceDyns (s : State) : State :=
  { s with dyns := s.dyns.filterMap fun e =>
      match e.2, dynDef s.oven e.1 with
      | some x, some (_, d) => some (e.1, some (advanceDyn (rateSamples d.rate) x))
      | _, _ => none }

/-! ## Commands -/

/-- Does INSTANCE name an output limiter that this variant lacks (R5)? -/
def dynAbsent (s : State) (inst : Nat) : Bool := decide (0x800 ≤ inst) && decide (inst ≤ 0x80F) && !hasProt s

def opDynSet (r : Req) (inst mask : Nat) (f : DynFields) (s : State) : State :=
  command r 0x0400
    [absentIf (dynAbsent s inst), standbyDenied r s, deniedIf (dynDef s.oven inst).isNone 1,
     deniedIf (anyNaN [f.thresh, f.ratio, f.knee, f.attack, f.release, f.makeup]) 20, standbyNotNow s]
    (fun s =>
      match dynDef s.oven inst with
      | none => s
      | some (_, d) =>
        let o := applyFields d mask f (dynTarget s d)
        replyOK r 0x0400 (dynBytes o) (stage r 0x0400 (be2 inst ++ be2 mask ++ dynBytes o) [.dyn inst mask o] s)) s

/-- DYN_SET (R138, R140, R152). -/
def execDynSet (r : Req) (inst mask : Nat) (f : DynFields) (s : State) : Host.Outcome State Fault Refusal :=
  run r.c (opDynSet r inst mask f) s

/-- The thermal gain of an output at Double sample `j` of this batch (R217). -/
def thermGain (s : State) (n j : Nat) : Word :=
  let p := prot s n
  if 15 ≤ j then p.gNew else fpAdd p.gOld (fpMul (fpSub p.gNew p.gOld) (fpRatio ((j : Int) + 1) 16))

def outState (s : State) (n : Nat) : Nat := getF s (fSTAGE_STS_STATE n)

/-- The headroom gain of an output (R201): 0 while TRIP is set or the channel is neither ARMED nor in RUN; after a hold it returns
linearly over 16 Double samples (R387). -/
def headGain (s : State) (n : Nat) : Word :=
  let q := out_ s n
  if q.trip ∨ ¬(outState s n = 4 ∨ outState s n = 5) then fpZero
  else if q.hrLeft = 0 then q.gHr
  else fpAdd q.hrFrom (fpMul (fpSub q.gHr q.hrFrom) (fpRatio (17 - (q.hrLeft : Int)) 16))

/-- One Double sample of the return of R387 has been made. -/
def stepHead (n : Nat) (s : State) : State :=
  let q := out_ s n
  if q.hrLeft = 0 then s else setOut n { q with hrLeft := q.hrLeft - 1 } s

def opDynRead (r : Req) (inst : Nat) (s : State) : State :=
  command r 0x0401 [absentIf (dynAbsent s inst), deniedIf (dynDef s.oven inst).isNone 1]
    (fun s =>
      match dynDef s.oven inst with
      | none => s
      | some (_, d) =>
        let g := match dyn s inst with
          | some x => x.app
          | none => fpZero
        let n := inst - 0x800
        replyOK r 0x0401 (dynBytes (dynTarget s d) ++ beWord g ++ be2 d.look ++ [0, 0] ++
          beWord (if isOutLim d then thermGain s n s.pipeAt else fpOne) ++ beWord (if isOutLim d then headGain s n else fpOne)) s) s

/-- DYN_READ (R20, R152). -/
def execDynRead (r : Req) (inst : Nat) (s : State) : Host.Outcome State Fault Refusal := run r.c (opDynRead r inst) s

/-! ## The gain computation (R141, R142) -/

def fp20 : Word := 0x41A00000
def fpHalf : Word := 0x3F000000
def fp2 : Word := 0x40000000
def fpTen : Word := 0x41200000

/-- 20 × log10(max(|k|, floor)). -/
def toDb (floor k : Word) : Word := fpMul fp20 (log10Unit (fpMaxOf (fpAbs k) floor))

/-- 10^(x / 20). -/
def fromDb (x : Word) : Word := powUnit fpTen (fpDiv x fp20)

/-- 2^−40, the floor of R141. -/
def detFloor : Word := 0x2B800000

/-- The compressor's static curve (R141). -/
def staticCurve (thresh iratio knee x : Word) : Word :=
  let excess := fpSub x thresh
  let slope := fpSub iratio fpOne
  if fpLt (fpMul fp2 excess) (fpNeg knee) then fpZero
  else if fpLt fpZero knee && fpLe (fpMul fp2 (fpAbs excess)) knee then
    let e := fpAdd excess (fpMul knee fpHalf)
    fpDiv (fpMul slope (fpMul e e)) (fpMul fp2 knee)
  else fpMul slope excess

/-- The detector sample of age `m`; samples newer than the newest held are taken as the newest (R142). -/
def keyAge (x : DynSt) (m : Nat) : Word := (x.keyBuf[m]?).getD 0

/-- The peak estimate of the detector sample of age `m` (R141, R142). -/
def peakAge (x : DynSt) (m : Nat) : Word :=
  let own := fpAbs (keyAge x m)
  if x.set.det then
    let ks := ((List.range 6).map (fun i => keyAge x (m - (6 - i)))) ++ ((List.range 6).map (fun i => keyAge x (m + i)))
    [1, 2, 3].foldl (fun p i => fpMaxOf p (fpAbs (truePeakTap i ks))) own
  else own

/-- req of the detector sample of age `m`; `req` holds the ceilings, newest first (R141). -/
def reqAge (x : DynSt) (m : Nat) : Word :=
  fpMinOf fpZero (fpSub ((x.req[m]?).getD 0) (toDb detFloor (peakAge x m)))

/-- One sample of the detector and the running gain. `n` is the sample within the batch, `k` the detector input, `ceil` the
ceiling of an output limiter. -/
def detect (d : DynDef) (n : Nat) (k : Word) (ceil : Option Word) (x : DynSt) : DynSt :=
  let y := { x with keyBuf := (k :: x.keyBuf).take (d.look + 6),
                    req := ((match ceil with
                      | some c => c
                      | none => rampSample x.thresh n) :: x.req).take (d.look + 1) }
  let target :=
    if isComp d then staticCurve (rampSample x.thresh n) (rampSample x.iratio n) (rampSample x.knee n) (toDb detFloor k)
    else (List.range d.look).foldl (fun t i => fpMinOf t (reqAge y (i + 1))) (reqAge y 0)
  let a := if fpLt target x.g then x.aAtt else x.aRel
  { y with g := fpAdd (fpMul a x.g) (fpMul (fpSub fpOne a) target) }

/-- A crossfade of two values by a weight; at 0 and 1 the value itself. -/
def blend (w a b : Word) : Word :=
  if w = fpZero then a else if w = fpOne then b else fpAdd (fpMul (fpSub fpOne w) a) (fpMul w b)

/-- An output sample of an instance, and whether the clamp lowered its gain. -/
structure DynOut where
  y     : Word
  clamp : Bool
  x     : DynSt

/-- The output at sample `n` from input `x0`, with `grp` the group minimum (R141, R143). `cut`: the product of an output limiter's two
gains is 0, which silences the output within one sample, ahead of the look-ahead (R144). -/
def dynOutput (d : DynDef) (n : Nat) (x0 grp : Word) (cut : Bool) (x : DynSt) : DynOut :=
  let buf := (x0 :: x.buf).take (d.look + 1)
  let xd := (buf[d.look]?).getD 0
  let mk := rampSample x.makeup n
  let gain0 := blend (rampSample x.link n) (fromDb (fpAdd x.g mk)) (fromDb (fpAdd grp mk))
  let lim := fromDb (reqAge x d.look)
  let low := !isComp d && fpLt lim gain0
  let gain := if cut then fpZero else if low then lim else gain0
  { y := blend (rampSample x.byp n) (fpMul gain xd) xd, clamp := low,
    x := { x with buf := buf, app := if x.set.linked then grp else x.g } }

/-- The detector's trace over the batch: the instance after each sample, reading its slots as they stand. -/
def dynTrace (s : State) (d : DynDef) (x : DynSt) : List DynSt :=
  let key (y : DynSt) (n : Nat) : Word :=
    match y.set.key, d.key with
    | true, some a => readFp s a n
    | _, _ => readFp s d.input n
  ((List.range (rateSamples d.rate)).foldl (fun (acc : List DynSt × DynSt) n =>
    let y := detect d n (key acc.2 n) none acc.2
    (acc.1 ++ [y], y)) ([], x)).1

/-- The members of an instance's link group with LINKED = 1 (R143). -/
def linkMembers (s : State) (d : DynDef) : List DynDef :=
  match d.group with
  | none => []
  | some g => (s.oven.trays.flatMap (·.dyns)).filter fun e =>
      e.group == some g && (match dyn s e.inst with
        | some x => x.set.linked
        | none => false)

/-- A compressor or limiter writes its output slot (R139). Of the other members of its link group, one that has run in this batch
stands with the gains it had at each sample, and one that has not is followed over the same samples (R143). -/
def runDyn (d : DynDef) (s : State) : State :=
  match dyn s d.inst with
  | none => s
  | some x =>
    let own := dynTrace s d x
    let others := (linkMembers s d).filterMap fun e =>
      if e.inst = d.inst then none
      else (dyn s e.inst).map fun y => if y.trace.isEmpty then (dynTrace s e y).map (·.g) else y.trace
    let t := foldl2 d own others s
    let mirrored := declared s.oven fun k => match k.obj with
      | .dyn i => i == d.inst
      | _ => false
    match dyn t d.inst with
    | some y => if mirrored then foldState (fun e => record 145 (d.inst * 65536 + e.2) e.1)
        ((y.g :: y.buf.take (rateSamples d.rate)).zipIdx) t else t
    | none => t
where
  foldl2 (d : DynDef) (own : List DynSt) (others : List (List Word)) (s : State) : State :=
    (List.range (rateSamples d.rate)).foldl (fun t n =>
      match own[n]?, dyn t d.inst with
      | some y, some z =>
        let grp := others.foldl (fun g tr => match tr[n]? with
          | some o => fpMinOf g o
          | none => g) y.g
        let o := dynOutput d n (readFp t d.input n) grp false { y with buf := z.buf, trace := own.map (·.g) }
        let w := writeFp d.out n o.y (setDyn d.inst (some o.x) t)
        when_ o.clamp (bump fDYN_CNT_CLAMP) (when_ w.sat (bump fDYN_CNT_SAT) w.s)
      | _, _ => t) s

/-! ## The output pipeline (R11, R30, R144) -/

/-- The word a streaming output of `n` samples a batch plays at its sample `t`: this batch's result from its release offset P on, the
previous batch's before (R30). P is in Core samples; a Half output counts it in its own, rounded up (log entry 5). -/
def playAt (s : State) (n slot p t : Nat) : Word :=
  let q := (p * n + 7) / 8
  if q ≤ t then readFp s slot (t - q)
  else
    match (getT [] s.outBuf slot)[n + t - q]? with
    | some w => if (slotDef s.oven slot).fp32 then w else int24ToFp w
    | none => 0

/-- The same for a Core-domain output. -/
def playWord (s : State) (slot p t : Nat) : Word := playAt s 8 slot p t

/-- The histories of bridges: those the bake places by index, those of the pipelines from 1000. -/
def bridgeHist (s : State) (i : Nat) : List Word := getT [] s.bridges i
def setBridgeHist (i : Nat) (h : List Word) (s : State) : State := { s with bridges := setT [] s.bridges i h }

/-- 10^−10 (R144). -/
def gainFloor : Word := 0x2EDBE6FF

/-- The effective ceiling of an output limiter (R144). -/
def ceiling (s : State) (n j : Nat) (thresh : Word) : Word :=
  fpAdd thresh (fpMul fp20 (log10Unit (fpMaxOf (fpMul (thermGain s n j) (headGain s n)) gainFloor)))

/-- The sample that enters an output limiter at Double sample `j`: its Core-to-Double bridge (R22). -/
structure PipeIn where
  x : Word
  s : State

def pipeInput (d : DynDef) (j : Nat) (s : State) : PipeIn :=
  let i := 1000 + (d.inst - 0x800)
  let h := if j % 2 = 0 then pushHist (playWord s d.input d.release (j / 2)) (bridgeHist s i) else bridgeHist s i
  { x := ((bridgeUp 2 h)[j % 2]?).getD 0, s := setBridgeHist i h s }

def outLims (s : State) : List DynDef := (s.oven.trays.flatMap (·.dyns)).filter isOutLim

/-- One Double sample of every output pipeline: detectors first, then the gains with their groups (R141, R143, R144). -/
def pipeSample (j : Nat) (s : State) : State :=
  let ds := outLims s
  let ins := ds.foldl (fun (acc : List (DynDef × Word) × State) d =>
    let p := pipeInput d j acc.2
    (acc.1 ++ [(d, p.x)], p.s)) ([], s)
  let t := ins.1.foldl (fun t e =>
    match dyn t e.1.inst with
    | some x =>
      let n := e.1.inst - 0x800
      let k := match x.set.key, e.1.key with
        | true, some a => playWord t a e.1.release (j / 2)
        | _, _ => e.2
      setDyn e.1.inst (some (detect e.1 j k (some (ceiling t n j (rampSample x.thresh j))) x)) t
    | none => t) ins.2
  let u := ins.1.foldl (fun u e =>
    match dyn t e.1.inst with
    | some x =>
      let n := e.1.inst - 0x800
      let grp := (linkMembers t e.1).foldl (fun g m => match dyn t m.inst with
        | some o => fpMinOf g o.g
        | none => g) x.g
      let o := dynOutput e.1 j e.2 grp (fpIsZero (fpMul (thermGain t n j) (headGain t n))) x
      let q := out_ u n
      when_ o.clamp (bump fDYN_CNT_CLAMP) (setOut n { q with uHist := pushHist o.y q.uHist } (setDyn e.1.inst (some o.x) u))
    | none => u) t
  foldState stepHead (List.range 16) { u with pipeAt := j + 1 }

/-- Bring the pipelines to Double sample `n` of the batch. -/
def runPipes (n : Nat) (s : State) : State :=
  if !clocksRun s then s
  else foldState (fun j t => if t.pipeAt = j then pipeSample j t else t) (List.range (min n 16)) s

/-- DYN_OUTn: the reduction G that the limiter applies, in 0.01 dB, g_th and g_hr (R151). -/
def refreshDynOut (n : Nat) (s : State) : State :=
  let g := match dyn s (0x800 + n) with
    | some x => x.app
    | none => fpZero
  let gr := fpToInt (fpMul g 0xC2C80000) 0
  setF (fDYN_OUT_HEAD n) (clampI 0 255 (fpToInt (fpMul (headGain s n) 0x437F0000) 0)).toNat
    (setF (fDYN_OUT_THERM n) (clampI 0 255 (fpToInt (fpMul (thermGain s n 15) 0x437F0000) 0)).toNat
      (setF (fDYN_OUT_GR n) (clampI 0 65535 gr).toNat s))

end Sys2Proof.Machine
end

