-- ==== Sys2Proof/Machine/Delay.lean ====
section
/-! DEFINITION. The delay pool (R145 to R147), the rate bridges (R22, R148) and ROUTE_LATENCY (R32, R149). -/
namespace Sys2Proof.Machine

open Sys2Proof

/-! ## Delay lines -/

def delayDef (b : Bake) (i : Nat) : Option (TrayDef × DelayDef) :=
  b.trays.findSome? fun t => (t.delays.find? (fun d => d.line == i)).map fun d => (t, d)

/-- The capacity of a line in samples (R145). -/
def delayCap (d : DelayDef) : Nat := d.granules * (if d.packing = 3 then 256 else 192)
def delayMax (d : DelayDef) : Nat := delayCap d - 8
def delayAddr (d : DelayDef) (i : Nat) : Nat := pantryBase + d.granule * 768 + i * d.packing

def newDelay (d : DelayDef) : DelaySt := { cur := min d.init (delayMax d), next := none, len := 0, pos := 0, held := none, wr := 0 }

/-- The delay last latched, staged and held writes included (R20, R147). -/
def delayTarget (s : State) (d : DelayDef) : Nat :=
  let staged := s.staged.reverse.findSome? fun x =>
    match x.w with
    | .delay l _ v => if l = d.line then some v else none
    | _ => none
  match staged, delay s d.line with
  | some v, _ => v
  | none, some x =>
    match x.held, x.next with
    | some h, _ => h.2
    | none, some n => n
    | none, none => x.cur
  | none, none => 0

def opDelaySet (r : Req) (es : List DelayEntry) (s : State) : State :=
  let bad := es.any (fun e => (delayDef s.oven e.line).isNone)
  command r 0x0304 [standbyDenied r s, deniedIf bad 1, standbyNotNow s]
    (fun s =>
      let vs := es.map fun e =>
        match delayDef s.oven e.line with
        | some (_, d) => { e with delay := min e.delay (delayMax d), ramp := clampHi 1024 e.ramp }
        | none => e
      replyOK r 0x0304 (vs.flatMap (fun e => be4 e.delay))
        (stage r 0x0304 (be2 vs.length ++ [0, 0] ++ vs.flatMap (fun e => be2 e.line ++ be2 e.ramp ++ be4 e.delay))
          (vs.map (fun e => .delay e.line e.ramp e.delay)) s)) s

/-- DELAY_SET (R145, R147, R152). -/
def execDelaySet (r : Req) (es : List DelayEntry) (s : State) : Host.Outcome State Fault Refusal := run r.c (opDelaySet r es) s

def opDelayRead (r : Req) (line : Nat) (s : State) : State :=
  command r 0x0305 [deniedIf (delayDef s.oven line).isNone 1]
    (fun s =>
      match delayDef s.oven line with
      | none => s
      | some (_, d) =>
        let x := match delay s line with
          | some x => x
          | none => newDelay d
        let st := if x.held.isSome then 2 else if x.next.isSome then 1 else 0
        replyOK r 0x0305 (be4 (delayTarget s d) ++ be4 x.cur ++ be4 (delayMax d) ++ [byteOf st, byteOf d.packing, 0, 0]) s) s

/-- DELAY_READ (R20, R147, R152). -/
def execDelayRead (r : Req) (line : Nat) (s : State) : Host.Outcome State Fault Refusal := run r.c (opDelayRead r line) s

/-- A delay write takes effect at a boundary, or is held while a crossfade runs (R147). -/
def aimDelay (d : DelayDef) (ramp v : Nat) (x : DelaySt) : DelaySt :=
  let t := min v (delayMax d)
  if x.next.isSome ∧ 0 < x.pos then { x with held := some (ramp, t) }
  else { x with next := some t, len := (if ramp = 0 then 64 else ramp), pos := 0, held := none }

def applyDelay (line ramp v : Nat) (s : State) : State :=
  match delayDef s.oven line, delay s line with
  | some (_, d), some x => setDelay line (some (aimDelay d ramp v x)) s
  | _, _ => bump fBAKE_CNT_PDROP s

/-- The crossfade of a line ends: it reads at the new delay alone. -/
def endDelayFade (x : DelaySt) : DelaySt :=
  match x.next with
  | some n => { x with cur := n, next := none, len := 0, pos := 0 }
  | none => x

/-- At a boundary a line's crossfade has made the samples of the batch; a held write becomes due when it has ended (R147). -/
def advanceDelay (d : DelayDef) (x : DelaySt) : DelaySt :=
  let n := rateSamples d.rate
  let y := if x.next.isSome then (if x.len ≤ x.pos + n then endDelayFade x else { x with pos := x.pos + n }) else x
  match y.next, y.held with
  | none, some (l, v) => aimDelay d l v { y with held := none }
  | _, _ => y

def advanceDelays (s : State) : State :=
  { s with delays := s.delays.filterMap fun e =>
      match e.2, delayDef s.oven e.1 with
      | some x, some (_, d) => some (e.1, some (advanceDelay d x))
      | _, _ => none }

/-- The slot and word of sample `j` of a channel at a rate: a Double channel takes two slot addresses (R24). -/
def chanSlot (rate a j : Nat) : Nat × Nat := if rate = 2 then (a + j / 8, j % 8) else (a, j)

/-- The word a line stores of an input word (R27), and whether it saturated. -/
def delayStore (s : State) (d : DelayDef) (a w : Nat) : SatRes :=
  if d.packing = 3 then readInt24 s a w else { w := slotWord s a w, sat := false }

/-- A stored word as bytes in the pool (R27). -/
def packWord (packing : Nat) (w : Word) : List Byte := if packing = 3 then leBytes 3 (w.toNat / 256) else leBytes 4 w.toNat
def unpackWord (packing : Nat) (bs : List Byte) : Word :=
  BitVec.ofNat 32 (if packing = 3 then leNat bs * 256 else leNat bs)

/-- The stored word of age `k` below the write position `wr`, as FP32. -/
def delayTap (s : State) (d : DelayDef) (wr k : Nat) : Word :=
  let cap := delayCap d
  let w := unpackWord d.packing (memBytes s (delayAddr d ((wr + cap - k % cap) % cap)) d.packing)
  if d.packing = 3 ∨ !(slotDef s.oven d.input).fp32 then int24ToFp w else w

/-- The stored word itself where no conversion and no crossfade is due (R146). -/
def delayRaw (s : State) (d : DelayDef) (wr k : Nat) : Word :=
  let cap := delayCap d
  unpackWord d.packing (memBytes s (delayAddr d ((wr + cap - k % cap) % cap)) d.packing)

/-- A saturation in the output slot's conversion is the delay pool's to count (R25, R151). -/
def countSat (o : SlotOut) : State := when_ o.sat (bump fMIX_CNT_DSAT) o.s

/-- One sample of a delay line (R146, R147). -/
def delaySample (d : DelayDef) (j : Nat) (s : State) : State :=
  match delay s d.line with
  | none => s
  | some x =>
    let i := chanSlot d.rate d.input j
    let o := chanSlot d.rate d.out j
    let v := delayStore s d i.1 i.2
    let t := when_ v.sat (bump fMIX_CNT_DSAT) (setMemBytes (delayAddr d x.wr) (packWord d.packing v.w) s)
    let u :=
      match x.next with
      | none =>
        if (d.packing == 3 || !(slotDef s.oven d.input).fp32) && !(slotDef s.oven d.out).fp32 then
          writeRaw o.1 o.2 (delayRaw t d x.wr x.cur) t
        else countSat (writeFp o.1 o.2 (delayTap t d x.wr x.cur) t)
      | some n =>
        let k := x.pos + j
        let y := if x.len ≤ k + 1 then delayTap t d x.wr n
          else fpAdd (fpMul (fadeOutAt x.len k) (delayTap t d x.wr x.cur)) (fpMul (fadeInAt x.len k) (delayTap t d x.wr n))
        countSat (writeFp o.1 o.2 y t)
    let mirrored := declared s.oven fun k => match k.obj with
      | .delay l _ _ => l == d.line
      | _ => false
    setDelay d.line (some { x with wr := (x.wr + 1) % max 1 (delayCap d) })
      (when_ mirrored (record 144 (d.line * 2 ^ 20 + x.wr) v.w) u)

def runDelay (d : DelayDef) (s : State) : State := foldState (delaySample d) (List.range (rateSamples d.rate)) s

/-! ## Bridges (R22, R148) -/

/-- One bridge channel over the batch: the history takes each input sample, the filter gives the outputs. -/
def runBridge (d : BridgeDef) (s : State) : State :=
  let step (acc : State × List Word) (x : Word) (k : Nat) : State × List Word :=
    -- `k` outputs follow this input sample
    let h := pushHist x (bridgeHist acc.1 d.index)
    let ys := if k = 2 then bridgeUp d.kind h else [bridgeDown d.kind h]
    (setBridgeHist d.index h acc.1, if k = 0 then acc.2 else acc.2 ++ ys)
  let inRate := if d.kind = 1 then 0 else if d.kind = 3 then 2 else 1
  let outRate := if d.kind = 0 then 0 else if d.kind = 2 then 2 else 1
  let r := (List.range (rateSamples inRate)).foldl (fun acc n =>
    let i := chanSlot inRate d.input n
    step acc (readFp s i.1 i.2) (if d.kind = 1 ∨ d.kind = 2 then 2 else n % 2)) (s, [])
  let mirrored := declared s.oven fun k => match k.obj with
    | .bridge i => i == d.index
    | _ => false
  let t0 := when_ mirrored (foldState (fun e => record 146 (d.index * 64 + e.2) e.1) ((bridgeHist r.1 d.index).take (rateSamples inRate)).zipIdx) r.1
  foldState (fun j t =>
    let o := chanSlot outRate d.out j
    (writeFp o.1 o.2 ((r.2[j]?).getD 0) t).s) (List.range (rateSamples outRate)) t0

/-! ## Route latency (R28, R32, R149, R243) -/

/-- The owner code of the ASRC channel that serves a slot (R159, R173). -/
def asrcOwnerOf (b : Bake) (slot : Nat) : Option Nat :=
  match b.ports.find? (fun p => p.asrc && p.chans.any (fun c => c.slot == slot)) with
  | some p => some p.port
  | none => (b.aes.find? (fun a => a.asrc && a.slots.contains slot)).map (·.owner)

/-- The present fraction of the ASRC channel that serves a slot, 0 where none does. -/
def asrcFraction (s : State) (slot : Nat) : Nat :=
  match asrcOwnerOf s.oven slot with
  | none => 0
  | some o =>
    match s.oven.asrcOwner.findIdx? (fun x => x == o) with
    | some k => getF s (fASRC_FRAC_FRACTION k)
    | none => 0

/-- Samples of a line at its rate, in fractions of 1/25,600 Core sample (R149). -/
def delayFraction (d : DelayDef) (n : Nat) : Nat :=
  if d.rate = 0 then n * 51200 else if d.rate = 1 then n * 25600 else n * 12800

/-- The trunk hop of a slot that a lane receives into, in fractions (R28, R243). -/
def hopFraction (s : State) (slot : Nat) : Nat :=
  match s.oven.lanes.find? (fun l => l.rx.any (fun e => e.2 == slot)) with
  | some l => 8 * 25600 + 4800 + getF s (fTL_RANGE_FLIGHT l.lane) + getF s (fTL_WAIT_WAIT l.lane)
  | none => 0

def opRouteLatency (r : Req) (src dst : Nat) (s : State) : State :=
  let e? := s.oven.report.find? (fun e => e.src == src && e.dst == dst)
  command r 0x0303 [absentIf (decide (0x8000 ≤ dst) && decide (dst ≤ 0x800F) && !hasMod s), deniedIf (!ovenEmpty s && e?.isNone) 1,
    notNowIf (ovenEmpty s) 6]
    (fun s =>
      match e? with
      | none => s
      | some e =>
        let asrc := e.flags.testBit 0
        let hop := e.flags.testBit 1
        let dl := match delayDef s.oven e.line, delay s e.line with
          | some (_, d), some x => (delayFraction d (x.next.getD x.cur), x.next.isSome)
          | _, _ => (0, false)
        let total := e.whole * 25600 + e.frac + dl.1 + (if asrc then asrcFraction s src + asrcFraction s dst else 0) +
          (if hop then hopFraction s src else 0)
        replyOK r 0x0303 (be4 (total / 25600) ++ be2 (total % 25600) ++
          [byteOf e.passes, byteOf (b01 asrc + 2 * b01 hop + 4 * b01 dl.2)]) s) s

/-- ROUTE_LATENCY (R32, R149, R152). -/
def execRouteLatency (r : Req) (src dst : Nat) (s : State) : Host.Outcome State Fault Refusal :=
  run r.c (opRouteLatency r src dst) s

end Sys2Proof.Machine
end

