-- ==== Sys2Proof/Machine/Fixed.lean ====
section
/-! DEFINITION. The fixed units of a batch: mix destinations, dynamics instances, delay lines and bridges, each at the DCLK cycle
its bake gives it (R12, R133, R139, R146, R148), and the ends of their ramps. -/
namespace Sys2Proof.Machine

open Sys2Proof

/-- What a fixed unit does at its cycle. -/
inductive FixedJob where
  | params (n : Nat)
  | mix (d : DestDef)
  | dyn (d : DynDef)
  | delay (d : DelayDef)
  | bridge (d : BridgeDef)
  deriving DecidableEq, Repr

def runJob (j : FixedJob) (s : State) : State :=
  match j with
  | .params n => driveParams n s
  | .mix d => mixDest d s
  | .dyn d => runDyn d s
  | .delay d => runDelay d s
  | .bridge d => runBridge d s

/-- Insert by cycle, behind those of the same cycle. -/
def insertJob (x : Nat × FixedJob) : List (Nat × FixedJob) → List (Nat × FixedJob)
  | [] => [x]
  | y :: t => if x.1 < y.1 then x :: y :: t else y :: insertJob x t

/-- The jobs of a batch in the order of their cycles; parameter words follow their ramps as samples 1 to 7 begin (R85). DESIGN CHOICE (log
entry 38): units of one cycle run in the order of their trays, and within a tray bridges, delay lines, dynamics, mix destinations. -/
def fixedJobs (b : Bake) : List (Nat × FixedJob) :=
  ((List.range 7).map (fun i => (12800 * (i + 1), FixedJob.params (i + 1))) ++ b.trays.flatMap fun (t : TrayDef) =>
    t.bridges.map (fun (d : BridgeDef) => (d.cycle, FixedJob.bridge d)) ++ t.delays.map (fun (d : DelayDef) => (d.cycle, FixedJob.delay d)) ++
      (t.dyns.filter (fun d => !isOutLim d)).map (fun (d : DynDef) => (d.cycle, FixedJob.dyn d)) ++
      t.dests.map (fun (d : DestDef) => (t.windowEnd, FixedJob.mix d))).foldl (fun l x => insertJob x l) []

/-- Do everything of this batch that falls before or at cycle `c` and has not been done; stores of the cores become visible on
the way (R98). Nothing runs while the clocks are gated (R352). -/
def runFixedTo (c : Nat) (s : State) : State :=
  if !clocksRun s then s
  else
  let due := (fixedJobs s.oven).filter (fun j => decide (s.fixedAt ≤ j.1) && decide (j.1 ≤ c))
  let t := foldState (fun j u => runJob j.2 (settleStores j.1 u)) due s
  settleStores c { t with fixedAt := max t.fixedAt (c + 1) }

/-- The ramp of a crosspoint ends in this batch (R136): once its destination has been written it stands at 0, and the boundary that
follows removes it. -/
def xpRampEnd (c src dst : Nat) (s : State) : State :=
  match xp s src dst, destDef s.oven dst with
  | some r, some (t, _) =>
    if rampLeft r ≤ 8 ∧ fpIsZero r.target ∧ t.windowEnd ≤ c then setXp src dst (some (steady r.target)) s else s
  | _, _ => s

/-- XP_RAMP_END (R136). -/
def execXpRampEnd (c src dst : Nat) (s : State) : Host.Outcome State Fault Refusal :=
  runMem c (ifRunning fun s => refreshMix (xpRampEnd c src dst (runFixedTo c s))) s

/-- The crossfade of a line ends in this batch (R147): once the line has run it reads at the new delay, and a held write becomes due
at the boundary that follows. -/
def delayCrossfadeEnd (c line : Nat) (s : State) : State :=
  match delayDef s.oven line, delay s line with
  | some (_, d), some x =>
    if x.next.isSome ∧ x.len ≤ x.pos + rateSamples d.rate ∧ d.cycle ≤ c then setDelay line (some (endDelayFade x)) s else s
  | _, _ => s

/-- DELAY_CROSSFADE_END (R147). -/
def execDelayCrossfadeEnd (c line : Nat) (s : State) : Host.Outcome State Fault Refusal :=
  runMem c (ifRunning fun s => delayCrossfadeEnd c line (runFixedTo c s)) s

end Sys2Proof.Machine
end

