-- ==== Sys2Proof/Machine/Dsp.lean ====
section
/-! DEFINITION. The DSP cores (R94 to R129): one bundle issued by one core, with its four slots, the exposed pipeline, the
address generators, the loops, the two contexts, faults and flags; and what the batch tick does to a core. -/
namespace Sys2Proof.Machine

open Sys2Proof

/-! ## Registers of a core -/

def cf (c : CoreSt) (i : Nat) : Word := getT 0 c.f i
def cp (c : CoreSt) (i : Nat) : Nat := getT 0 c.p i
def cm (c : CoreSt) (i : Nat) : Nat := getT 0 c.m i
def cb (c : CoreSt) (i : Nat) : Nat := getT 0 c.b i
def cl (c : CoreSt) (i : Nat) : Nat := getT 0 c.l i
def clc (c : CoreSt) (i : Nat) : Nat := getT 0 c.lc i
def cls (c : CoreSt) (i : Nat) : Nat := getT 0 c.ls i
def cle (c : CoreSt) (i : Nat) : Nat := getT 0 c.le i

/-- Does the background context run or wait, so that `st` and `pc` are its own (R102)? -/
def bgActive (c : CoreSt) : Bool := c.ctx == .back || c.ctx == .waiting

/-- A write reaches its register (R101: each keeps its own width). -/
def commitDest (d : Dest) (v : Nat) (c : CoreSt) : CoreSt :=
  match d with
  | .f i => { c with f := setT 0 c.f i (BitVec.ofNat 32 v) }
  | .acc 0 => { c with a0 := BitVec.ofNat 44 v }
  | .acc _ => { c with a1 := BitVec.ofNat 44 v }
  | .flags m x => { c with st := maskAndNot c.st m + (x &&& m) }
  | .p i => { c with p := setT 0 c.p i (v % 2 ^ 20) }
  | .m i => { c with m := setT 0 c.m i (v % 2 ^ 20) }
  | .b i => { c with b := setT 0 c.b i (v % 2 ^ 20) }
  | .lc i => { c with lc := setT 0 c.lc i (v % 2 ^ 16) }
  | .ls i => { c with ls := setT 0 c.ls i (v % 2 ^ 11) }
  | .le i => { c with le := setT 0 c.le i (v % 2 ^ 11) }
  | .la i on => { c with st := setBit c.st (2 + i) on }

/-- The same for a write in flight: flags go to the ST of the context that issued it (R102). -/
def commitFlight (x : Flight) (c : CoreSt) : CoreSt :=
  match x.dest with
  | .flags _ _ => status x c
  | .la _ _ => status x c
  | d => commitDest d x.val c
where
  status (x : Flight) (c : CoreSt) : CoreSt :=
    if x.bg = bgActive c then commitDest x.dest x.val c
    else
      let k := commitDest x.dest x.val { c with st := if x.bg then c.bgSt else c.scSt }
      if x.bg then { k with st := c.st, bgSt := k.st } else { k with st := c.st, scSt := k.st }

/-- Earlier visibility first, then earlier issue, then lower slot (R112). -/
def flightBefore (a b : Flight) : Bool :=
  decide (a.at_ < b.at_) || (a.at_ == b.at_ && (decide (a.issue < b.issue) || (a.issue == b.issue && decide (a.slot < b.slot))))

def insertFlight (x : Flight) : List Flight → List Flight
  | [] => [x]
  | y :: t => if flightBefore x y then x :: y :: t else y :: insertFlight x t

/-- Every write that is visible at cycle `t` takes place, in the order of R112. -/
def settle (t : Nat) (c : CoreSt) : CoreSt :=
  let due := (c.flight.filter (fun x => decide (x.at_ ≤ (t : Int)))).foldl (fun l x => insertFlight x l) []
  due.foldl (fun k x => commitFlight x k) { c with flight := c.flight.filter (fun x => !decide (x.at_ ≤ (t : Int))) }

/-! ## Slots 0 and 1: FP32 arithmetic and accumulators (R110) -/

/-- What a slot of an FMA unit does: writes in flight, the chain it leaves, whether it continues the chain before, the flags it
raises and a conversion saturation. -/
structure FpEff where
  writes : List Flight := []
  chain  : Option AccW := none
  linked : Bool := false
  aov    : Bool := false
  fov    : Bool := false
  opnd   : Bool := false
  sat    : Bool := false

/-- Does an addition to an accumulator that stands at ±A max keep it there: a product of the same sign (R106)? -/
def staysMax (base p : Dy) : Bool :=
  decide ((accRound base).a.toNat % 2 ^ 43 = 2 ^ 43 - 1) && (decide (0 < base.m) && decide (0 < p.m) || decide (base.m < 0) && decide (p.m < 0))

/-- The lesser of two operands as read, −0 below +0 (R110). -/
def fpBelow (a b : Word) : Bool := fpLt a b || (fpIsZero a && fpIsZero b && fpSign a && !fpSign b)

/-- One FMA slot. The background context cannot issue the accumulator class (R102): what such an opcode does there the manual leaves open,
and it acts as an undefined one, a NOP that sets OPND (DESIGN CHOICE, log entry 40). -/
def fpSlot (c : CoreSt) (bg : Bool) (t u : Nat) (w : Nat) : FpEff :=
  let op := bits w 31 26
  let d := bits w 25 21
  let x := cf c (bits w 20 16)
  let y := cf c (bits w 15 11)
  let z := cf c (bits w 10 6)
  let e1 := fpIsE255 x
  let e2 := e1 || fpIsE255 y
  let e3 := e2 || fpIsE255 z
  let toF (v : Word) : List Flight := [{ at_ := t + 4, issue := t, slot := u, dest := .f d, val := v.toNat }]
  let toA (n : Nat) (a : AccW) : List Flight := [{ at_ := t + 4, issue := t, slot := u, dest := .acc n, val := a.toNat }]
  let fp (r : FpRes) (e : Bool) : FpEff := { writes := toF r.w, fov := r.ovf, opnd := e }
  let old := match (if u = 0 then c.chain0 else c.chain1) with
    | some a => a
    | none => if u = 0 then c.a0 else c.a1
  let acc (base : Dy) (neg : Bool) (linked : Bool) : FpEff :=
    let p0 := (fpVal x).mul (fpVal y)
    let p := if neg then p0.neg else p0
    let r := accRound (base.add p)
    { writes := toA u r.a, chain := some r.a, linked := linked, aov := r.ovf || staysMax base p, opnd := e2 }
  let reg (n : Nat) : AccW := if n = 0 then c.a0 else c.a1
  let hasChain := (if u = 0 then c.chain0 else c.chain1).isSome
  if w = 0 then {}
  else if bg && decide (0x10 ≤ op) && decide (op ≤ 0x15) then { opnd := true }
  else
    match op with
    | 0x01 => fp (fpAddR x y) e2
    | 0x02 => fp (fpSubR x y) e2
    | 0x03 => fp (fpMulR x y) e2
    | 0x04 => fp (fpFmaR x y z) e3
    | 0x05 => fp (fpFmsR x y z) e3
    | 0x06 => { writes := toF (if fpBelow (fpRead y) (fpRead x) then fpRead y else fpRead x), opnd := e2 }
    | 0x07 => { writes := toF (if fpBelow (fpRead x) (fpRead y) then fpRead y else fpRead x), opnd := e2 }
    | 0x08 => { writes := toF (fpAbs x), opnd := e1 }
    | 0x09 => { writes := toF (fpNeg x), opnd := e1 }
    | 0x0A => { writes := [{ at_ := t + 4, issue := t, slot := u, bg := bg, dest := .flags 3 (b01 (fpLt x y) + 2 * b01 (fpEq x y)), val := 0 }], opnd := e2 }
    | 0x0B => { writes := toF (if c.st.testBit 0 then fpRead x else fpRead y), opnd := e2 }
    | 0x18 => { writes := toF (int24ToFp x) }
    | 0x19 => { writes := toF (fpToInt24 x).w, sat := (fpToInt24 x).sat, opnd := e1 }
    | 0x10 => acc ⟨0, 0⟩ false false
    | 0x11 => acc (accVal old) false hasChain
    | 0x12 => acc (accVal old) true hasChain
    | 0x13 => fp (fpRound (accVal (reg (bits w 10 10)))) false
    | 0x14 => { writes := toA (bits w 10 10) (accRound (fpVal x)).a, opnd := e1 }
    | 0x15 =>
      let n := bits w 25 25
      let a := accVal (reg n)
      let r := accRound ⟨a.m, a.e + signed 12 (bits w 23 12)⟩
      { writes := toA n r.a, aov := r.ovf }
    | _ => { opnd := true }

/-! ## Slot 2: addresses and memory -/

/-- The post-modify of a pointer (R116). -/
def postModify (p b l : Nat) (step : Int) : Nat :=
  if l = 0 then ((p : Int) + step) % (2 : Int) ^ 20 |>.toNat
  else ((b : Int) + ((p : Int) - (b : Int) + step) % (l : Int)) % (2 : Int) ^ 20 |>.toNat

/-- What an address of a core's data space is (R95, R96). -/
inductive Region where
  | dm (a : Nat)
  | csm (a : Nat)
  | slot (a w : Nat)
  | fault
  deriving DecidableEq, Repr

/-- The tray that owns a core in the oven. -/
def coreTray (s : State) (n : Nat) : Option TrayDef := (coreDef s.oven n).map (·.1)

def regionOf (s : State) (n : Nat) (bg : Bool) (t a : Nat) (write : Bool) : Region :=
  if a < 0x4000 then .dm a
  else if 0x20000 ≤ a ∧ a ≤ 0x3FFFF then
    match coreTray s n with
    | some tr => if tr.pages.contains (n / 8, (a - 0x20000) / 1024) then .csm (a - 0x20000) else .fault
    | none => .fault
  else if 0x40000 ≤ a ∧ a ≤ 0x4FFFF then
    let k := (a - 0x40000) / 8
    match coreDef s.oven n with
    | some (_, d) =>
      if !bg && d.grants.any (fun g => g.cycle == t && g.slot == k && g.write == write) then .slot k ((a - 0x40000) % 8) else .fault
    | none => .fault
  else .fault

/-- The bank a CSM address lies in is connected to the core at cycle `t` (R97). -/
def bankGood (n t a : Nat) : Bool := a % 8 == (n % 8 + t) % 8

/-- What an access gives: the value of a load, faults, a saturation, and the state after a store. -/
structure MemEff where
  s    : State
  val  : Word := 0
  addr : Bool := false
  bank : Bool := false
  sat  : Bool := false

/-- A load (R95 to R98). -/
def coreLoad (n : Nat) (bg : Bool) (t a : Nat) (s0 : State) : MemEff :=
  let s := settleStores t s0
  match regionOf s n bg t a false with
  | .dm x => { s := s, val := dspWord s n x }
  | .csm x => if bankGood n t x then { s := s, val := dspWord s (128 + n / 8) x } else { s := s, bank := true }
  | .slot k w => { s := s, val := readFp s k w }
  | .fault => { s := s, addr := true }

/-- Is the word declared in a mirror map (R88)? -/
def declaredWord (s : State) (space loc : Nat) : Bool :=
  declared s.oven fun k => match k.obj with
    | .mem sp l => sp == space && decide (l ≤ loc) && decide (loc < l + k.len)
    | _ => false

/-- A store (R95 to R98, R315). A stored word with E = 255 is read by the conversion of R25 as ±FP32 max, and saturates; whether it also
sets OPND the manual leaves open, and it does not (DESIGN CHOICE, log entry 92). -/
def coreStore (n : Nat) (bg : Bool) (t a : Nat) (v : Word) (s : State) : MemEff :=
  let put (space loc : Nat) : State :=
    when_ (declaredWord s space loc) (record space loc v) (setDspWord space loc v s)
  match regionOf s n bg t a true with
  | .dm x => { s := put n x }
  | .csm x => if bankGood n t x then { s := put (128 + n / 8) x } else { s := s, bank := true }
  | .slot k w =>
    let fp := (slotDef s.oven k).fp32
    let r : SatRes := if fp then { w := v, sat := false } else fpToInt24 v
    { s := { s with stores := s.stores ++ [{ seen := t + 16, key := k * 8 + w, val := fadedWord s k w r.w }] }, sat := r.sat }
  | .fault => { s := s, addr := true }

/-- A loop register by its code in LDC and STC (R109). -/
def loopRead (c : CoreSt) (code : Nat) : Nat :=
  match code % 3 with
  | 0 => clc c (code / 3)
  | 1 => cls c (code / 3)
  | _ => cle c (code / 3)

def loopDest (code : Nat) : Dest :=
  match code % 3 with
  | 0 => .lc (code / 3)
  | 1 => .ls (code / 3)
  | _ => .le (code / 3)

/-- A length as stored (R101), staged for a boundary (R117). -/
def stageL (t i v : Nat) (c : CoreSt) : CoreSt :=
  let x := if 131072 < v then 131072 else v
  if t ≤ 102398 then { c with lStage := setT none c.lStage i (some x) }
  else { c with lNext := setT none c.lNext i (some x) }

/-- What slot 2 does: the core, the state, faults, undefined opcode, saturation, and the data address it used. -/
structure MemSlot where
  c    : CoreSt
  s    : State
  addr : Bool := false
  bank : Bool := false
  opnd : Bool := false
  sat  : Bool := false
  at_  : Option Nat := none

def fly (x : Flight) (c : CoreSt) : CoreSt := { c with flight := c.flight ++ [x] }

def memSlot (n : Nat) (bg : Bool) (t w : Nat) (c : CoreSt) (s : State) : MemSlot :=
  let op := bits w 31 26
  let r := bits w 25 21
  let pn := bits w 20 18
  let a := cp c pn
  let pm (c : CoreSt) : CoreSt :=
    if bitAt w 14 then
      fly { at_ := t + 1, issue := t, slot := 2, dest := .p pn, val := postModify a (cb c pn) (cl c pn) (signed 20 (cm c (bits w 17 15))) } c
    else c
  let immI := bits w 23 21
  let imm := bits w 19 0
  if w = 0 then { c := c, s := s }
  else
    match op with
    | 0x20 =>
      let e := coreLoad n bg t a s
      { c := pm (fly { at_ := t + 3, issue := t, slot := 2, dest := .f r, val := e.val.toNat } c), s := e.s, addr := e.addr, bank := e.bank, at_ := some a }
    | 0x21 =>
      let e := coreStore n bg t a (cf c r) s
      { c := pm c, s := e.s, addr := e.addr, bank := e.bank, sat := e.sat, at_ := some a }
    | 0x22 =>
      if 9 ≤ r then { c := pm c, s := s }
      else
        let e := coreLoad n bg t a s
        { c := pm (fly { at_ := t + 3, issue := t, slot := 2, dest := loopDest r, val := e.val.toNat } c), s := e.s, addr := e.addr, bank := e.bank, at_ := some a }
    | 0x23 =>
      if 9 ≤ r then { c := pm c, s := s }
      else
        let e := coreStore n bg t a (BitVec.ofNat 32 (loopRead c r)) s
        { c := pm c, s := e.s, addr := e.addr, bank := e.bank, sat := e.sat, at_ := some a }
    | 0x24 =>
      match bits w 25 24 with
      | 0 => { c := fly { at_ := t + 1, issue := t, slot := 2, dest := .p immI, val := imm } c, s := s }
      | 1 => { c := fly { at_ := t + 1, issue := t, slot := 2, dest := .m immI, val := imm } c, s := s }
      | 2 => { c := fly { at_ := t + 1, issue := t, slot := 2, dest := .b immI, val := imm } c, s := s }
      | _ => { c := stageL t immI imm c, s := s }
    | 0x25 =>
      { c := fly { at_ := t + 1, issue := t, slot := 2, dest := .p immI, val := postModify (cp c immI) (cb c immI) (cl c immI) (signed 20 imm) } c, s := s }
    | _ => { c := c, s := s, opnd := true }

/-! ## Slot 3: control -/

def movRead (c : CoreSt) : MovReg → Nat
  | .f i => (cf c (i % 32)).toNat
  | .p i => cp c (i % 8)
  | .m i => cm c (i % 8)
  | .b i => cb c (i % 8)
  | .l i => cl c (i % 8)
  | .lc i => clc c (i % 3)
  | .ls i => cls c (i % 3)
  | .le i => cle c (i % 3)

def movWrite (t v : Nat) (c : CoreSt) (d : MovReg) : CoreSt :=
  let put (e : Dest) : CoreSt := fly { at_ := t + 1, issue := t, slot := 3, dest := e, val := v } c
  match d with
  | .f i => put (.f (i % 32))
  | .p i => put (.p (i % 8))
  | .m i => put (.m (i % 8))
  | .b i => put (.b (i % 8))
  | .l i => stageL t (i % 8) v c
  | .lc i => put (.lc (i % 3))
  | .ls i => put (.ls (i % 3))
  | .le i => put (.le (i % 3))

/-- The condition of BR (R110). -/
def condition (st code : Nat) : Bool :=
  match code with
  | 0 => true
  | 1 => st.testBit 0
  | 2 => st.testBit 1
  | 3 => !st.testBit 0
  | 4 => !st.testBit 1
  | _ => false

/-- What slot 3 does; `st` is the status read at issue. -/
structure CtlEff where
  c      : CoreSt
  opnd   : Bool := false
  branch : Option (Nat × Bool) := none
  wait   : Bool := false

/-- The control slot. LOOP in the delay slots of a branch that is not taken executes: R113 lets those slots execute normally, where R119
makes LOOP in a delay slot a NOP (DESIGN CHOICE, log entry 93). -/
def ctlSlot (bg inDelay : Bool) (t pc w : Nat) (rd c : CoreSt) : CtlEff :=
  let op := bits w 31 26
  let v := bits w 25 24
  let put (at_ : Nat) (d : Dest) (x : Nat) (c : CoreSt) : CoreSt := fly { at_ := at_, issue := t, slot := 3, bg := bg, dest := d, val := x } c
  if w = 0 then { c := c }
  else
    match op with
    | 0x30 => if !inDelay && condition rd.st (bits w 25 22) then { c := c, branch := some (bits w 21 11, false) } else { c := c }
    | 0x31 =>
      if inDelay ∨ 3 ≤ v then { c := c }
      else
        let n := if bitAt w 12 then cp rd (bits w 2 0) % 2 ^ 16 else bits w 11 0
        { c := put (t + 1) (.la v true) 0 (put (t + 1) (.lc v) (max n 1) (put (t + 1) (.le v) (bits w 23 13) (put (t + 1) (.ls v) (pc + 1) c))) }
    | 0x32 => if 3 ≤ v then { c := c } else { c := put (t + 1) (.la v false) 0 c }
    | 0x33 => { c := movWrite t (movRead rd (Config.movxReg (bits w 20 16))) c (Config.movxReg (bits w 25 21)) }
    | 0x34 => if inDelay ∨ bg then { c := c } else { c := c, branch := some (0, true) }
    | 0x35 => if bg then { c := c, wait := true } else { c := c }
    | _ => { c := c, opnd := true }

/-- The loop test after the bundle at `x` (R120): the next bundle, and the core with its counts and active bits changed. -/
def loopTest (x : Nat) (c : CoreSt) : Nat × CoreSt :=
  let step (acc : Option Nat × CoreSt) (v : Nat) : Option Nat × CoreSt :=
    match acc.1 with
    | some _ => acc
    | none =>
      let k := acc.2
      if k.st.testBit (2 + v) && cle k v == x then
        if 1 < clc k v then (some (cls k v), { k with lc := setT 0 k.lc v (clc k v - 1) })
        else (none, { k with st := setBit k.st (2 + v) false })
      else acc
  let r := [2, 1, 0].foldl step (none, c)
  (r.1.getD ((x + 1) % 2048), r.2)

/-! ## Flags and shards of a core (R107, R127, R334) -/

def flagOf (n kind : Nat) : Fld :=
  match kind with
  | 1 => fCORE_FLAGS_AOV n
  | 2 => fCORE_FLAGS_FOV n
  | 3 => fCORE_FLAGS_OPND n
  | 4 => fCORE_FLAGS_ADDR n
  | 5 => fCORE_FLAGS_BANK n
  | _ => fCORE_FLAGS_UECC n

/-- CONTEXT of a shard from a core (R334). -/
def coreCtx (s : State) (n : Nat) (isBundle : Bool) (a : Nat) : Nat :=
  (match coreTray s n with
   | some t => t.num * 2 ^ 24
   | none => 2 ^ 29) + (if isBundle then 2 ^ 20 else 0) + a % 2 ^ 20

/-- A core event: its flag, and one shard of each kind in a batch (R107). -/
def coreEvent (n kind : Nat) (isBundle : Bool) (a : Nat) (s : State) : State :=
  let c := core_ s n
  let t := setF fCORE_STAT_ANYFLAG 1 (setF (flagOf n kind) 1 (noteFresh (flagOf n kind) 1 s))
  if c.sent.testBit kind then t
  else send 5 n 1 kind (coreCtx s n isBundle a) (setCore n { c with sent := setBit c.sent kind true } t)

/-! ## Halts (R90, R99, R126) -/

/-- A tray is muted until it is recommitted: from the next boundary its exports ramp to zero (R90 steps 4 and 5). -/
def hardMute (tn cls : Nat) (s : State) : State :=
  let t := tray s tn
  setF fBAKE_STAT_MUTED 1
    (setMaskBit fBAKE_MUTEMASK_TRAYS tn true (setTray tn { t with hard := true, hardCls := t.hardCls ||| 2 ^ cls, muteDue := true } s))

/-- A core is halted for the rest of the batch, its background context abandoned. -/
def haltCore (n : Nat) (s : State) : State :=
  let c := core_ s n
  setF (fCORE_LOAD_BG n) 0
    (setMaskBit (fCORE_HALT_CORES (n / 32)) (n % 32) true
      (setF fCORE_STAT_ANYHALT 1
        (setCore n { c with ctx := .halted, bgOk := false, branch := none, bgBranch := none, last := 0, sent := setBit c.sent 8 true } s)))

/-- The deadline monitor halts a core (R89, R90). -/
def overrunCore (n : Nat) (s : State) : State :=
  match coreTray s n with
  | none => s
  | some t =>
    let c := core_ s n
    let ctx := coreCtx s n true c.pc
    hardMute t.num 2 (bump fBAKE_CNT_OVERRUN (send 5 n 2 1 ctx (haltCore n s)))

/-- Has the core's scheduled work not ended (R89)? -/
def scheduleOpen (c : CoreSt) : Bool :=
  c.ctx == .sched && (match c.branch with
    | some (_, _, true) => false
    | _ => true)

/-- OVERRUN: the core has not reached the end of its scheduled work by its deadline cycle (R89, R90). -/
def execOverrun (c : Nat) (n : Nat) (s : State) : Host.Outcome State Fault Refusal :=
  run c (ifRunning fun s =>
    match coreDef s.oven n with
    | some (_, d) => if scheduleOpen (core_ s n) ∧ d.deadline ≤ c then overrunCore n s else s
    | none => s) s

/-! ## Issue -/

/-- The bundle at an address of the core's program image; a bundle the image does not hold is all NOPs. -/
def bundleAt (s : State) (n pc : Nat) : BitVec 128 :=
  match coreDef s.oven n with
  | some (_, d) => ((d.image.find? (fun e => e.1 == pc)).map (·.2)).getD 0
  | none => 0

/-- Wait cycles of a background bundle for its CSM bank (R97). -/
def bankWait (n t w : Nat) (c : CoreSt) : Nat :=
  let op := bits w 31 26
  let a := cp c (bits w 20 18)
  if (op = 0x20 ∨ op = 0x21 ∨ op = 0x22 ∨ op = 0x23) ∧ 0x20000 ≤ a ∧ a ≤ 0x3FFFF then (a % 8 + 16 - (n % 8 + t) % 8) % 8
  else 0

/-- The chains after a cycle: kept only by MCLR, MAC and MSB (R114). -/
def dropLink (t u : Nat) (e : FpEff) (fs : List Flight) : List Flight :=
  if e.linked then fs.filter (fun x => !(x.slot == u && x.issue + 1 == (t : Int) && (match x.dest with
    | .acc k => k == u
    | _ => false)))
  else fs

/-- Leaving the scheduled context: the background context resumes where it was saved, or at the bake's entry point, unless the
Damper state parks it (R123, R125). -/
def returnToBack (s : State) (n : Nat) (c : CoreSt) : CoreSt :=
  let entry := match coreDef s.oven n with
    | some (_, d) => d.bgEntry
    | none => none
  let parked := getF s fPWR_STAT_DAMPER == 1 || s.twin.parked
  match entry with
  | none => { c with ctx := .idle }
  | some e =>
    let k := if c.bgOk then c else { c with bgPc := e, bgSt := 0, bgBranch := none, bgOk := true }
    if parked then { k with ctx := .parked }
    else { k with scSt := c.st, st := k.bgSt, pc := k.bgPc, branch := k.bgBranch, ctx := .back }

/-- Leaving the background context: its PC, with a pending branch, and its ST are saved (R122). -/
def leaveBack (c : CoreSt) : CoreSt :=
  if bgActive c then { c with bgPc := c.pc, bgSt := c.st, bgBranch := c.branch, bgOk := true, st := c.scSt, branch := none, ctx := .idle } else c

/-- CORE_LOADn.BG of a context; while the scheduled context runs it shows the background context as it was left. -/
def refreshBg (n : Nat) (s : State) : State :=
  match (core_ s n).ctx with
  | .back => setF (fCORE_LOAD_BG n) 1 s
  | .waiting => setF (fCORE_LOAD_BG n) 2 s
  | .parked => setF (fCORE_LOAD_BG n) 3 s
  | .sched => s
  | .idle => setF (fCORE_LOAD_BG n) 0 s
  | .halted => setF (fCORE_LOAD_BG n) 0 s

/-- One bundle of core `n`, read, executed and stepped past (R108 to R121). -/
def issueBundle (n : Nat) (s : State) : State :=
  let c0 := core_ s n
  let bg := c0.ctx == .back
  let word := (bundleAt s n c0.pc).toNat
  let w0 := bits word 31 0
  let w1 := bits word 63 32
  let w2 := bits word 95 64
  let w3 := bits word 127 96
  let wait := if bg then bankWait n c0.cyc w2 (settle c0.cyc c0) else 0
  if bg && decide (102400 ≤ c0.cyc + wait) then setCore n { c0 with cyc := 102400 } s
  else
    let t := c0.cyc + wait
    let rd := settle t c0
    let inDelay := rd.branch.isSome
    let e0 := fpSlot rd bg t 0 w0
    let e1 := fpSlot rd bg t 1 w1
    let c1 := { rd with flight := dropLink t 1 e1 (dropLink t 0 e0 rd.flight) ++ e0.writes ++ e1.writes, chain0 := e0.chain, chain1 := e1.chain }
    let m := memSlot n bg t w2 c1 s
    let k := ctlSlot bg inDelay t rd.pc w3 rd m.c
    -- the next bundle: a branch in its delay slots runs on, else the loop test of R120
    let nx := if inDelay then ((rd.pc + 1) % 2048, k.c) else loopTest rd.pc k.c
    let c2 := { nx.2 with pc := nx.1, cyc := t + 1 }
    let c3 := match k.branch, c2.branch with
      | some (tg, ret), _ => { c2 with branch := some (tg, 2, ret), brAt := t, last := if ret then t else c2.last }
      | none, some (tg, left, ret) =>
        if left ≤ 1 then
          (if ret then { returnToBack m.s n { c2 with branch := none } with cyc := t + 1 }
           else { c2 with branch := none, pc := tg })
        else { c2 with branch := some (tg, left - 1, ret) }
      | none, none => c2
    let c4 := if k.wait then { c3 with ctx := .waiting } else c3
    let s1 := refreshBg n (setCore n c4 m.s)
    let pc := rd.pc
    let s2 := when_ (e0.aov || e1.aov) (coreEvent n 1 true pc) s1
    let s3 := when_ (e0.fov || e1.fov) (coreEvent n 2 true pc) s2
    let s4 := when_ (e0.opnd || e1.opnd || m.opnd || k.opnd) (coreEvent n 3 true pc) s3
    let s5 := when_ m.addr (coreEvent n 4 false (m.at_.getD 0)) s4
    let s6 := when_ m.bank (coreEvent n 5 false (m.at_.getD 0)) s5
    let sats := b01 e0.sat + b01 e1.sat + b01 m.sat
    bumpN (fCORE_CNT_SAT n) sats (noteFresh (fCORE_CNT_SAT n) sats s6)

/-- An access that meets an uncorrectable error (R99): flag, halt, shard, and steps 3 to 5 of R90, the count of step 5 among them. -/
def uncorrectable (n : Nat) (s : State) : State :=
  let c := core_ s n
  let w2 := bits (bundleAt s n c.pc).toNat 95 64
  let op := bits w2 31 26
  let a := cp (settle c.cyc c) (bits w2 20 18)
  let data := decide (0x20 ≤ op) && decide (op ≤ 0x23) && decide (a < 0x40000)
  let t := haltCore n (coreEvent n 6 (!data) (if data then a else c.pc) s)
  match coreTray s n with
  | some tr => hardMute tr.num 1 (bump fBAKE_CNT_OVERRUN t)
  | none => t

/-- The core issues its next bundle, if it has one to issue in this batch. -/
def coreStep (n : Nat) (ecc : Ecc) (s : State) : State :=
  let c := core_ s n
  if clocksRun s && (c.ctx == .sched || c.ctx == .back) && decide (c.cyc < 102400) then
    let late := match coreDef s.oven n with
      | some (_, d) => scheduleOpen c && decide (d.deadline < c.cyc)
      | none => false
    if late then overrunCore n s
    else
      match ecc with
      | .clean => issueBundle n s
      | .corrected => bump (fCORE_CNT_CORR n) (noteFresh (fCORE_CNT_CORR n) 1 (issueBundle n s))
      | .uncorrectable => uncorrectable n s
  else s

/-- BUNDLE_ISSUE: everything of the batch that falls before the core's cycle comes first (R98, R108). -/
def execBundleIssue (core : Nat) (ecc : Ecc) (s : State) : Host.Outcome State Fault Refusal :=
  runMem (core_ s core).cyc (ifRunning fun s => coreStep core ecc (runFixedTo ((core_ s core).cyc) s)) s

/-! ## The batch tick and the boundary (R100, R117, R118, R122) -/

/-- The deadline monitor at the end of a batch (R89): a core whose scheduled work is open then has not reached its end by the deadline,
which is at most 94,208 (log entry 39). -/
def deadlineCheck (n : Nat) (s : State) : State := if (coreDef s.oven n).isSome ∧ scheduleOpen (core_ s n) then overrunCore n s else s

/-- Orders 3 of R19: staged lengths take effect and pointers, with the writes that reach them by now, are reduced (R118). -/
def reduceLengths (n : Nat) (s : State) : State :=
  let c := settle 102400 (core_ s n)
  let step (acc : CoreSt × Bool) (i : Nat) : CoreSt × Bool :=
    let k := acc.1
    match getT none k.lStage i with
    | none => acc
    | some v =>
      let k1 := { k with l := setT 0 k.l i v }
      let d := (cp k i + 2 ^ 20 - cb k i % 2 ^ 20) % 2 ^ 20
      if v = 0 ∨ d < v then (k1, acc.2)
      else ({ k1 with p := setT 0 k1.p i ((cb k i + d % v) % 2 ^ 20) }, true)
  let r := (List.range 8).foldl step (c, false)
  let t := setCore n { r.1 with lStage := c.lNext, lNext := [] } s
  if r.2 then setF fCORE_STAT_ANYFLAG 1 (setF (fCORE_FLAGS_LMOD n) 1 (noteFresh (fCORE_FLAGS_LMOD n) 1 t)) else t

/-- One delay slot of a background branch, unless it waits for its CSM bank: then it is abandoned and reissued on return (R122). -/
def issueSlot (n : Nat) (s : State) : State :=
  let c := core_ s n
  if c.ctx = .back ∧ c.branch.isSome ∧ bankWait n c.cyc (bits (bundleAt s n c.pc).toNat 95 64) (settle c.cyc c) = 0 then issueBundle n s else s

/-- The delay slots at cycles 0 and 1 of a branch that the background context issued at cycle 102,398 or 102,399 (R122). -/
def finishBranch (n : Nat) (s : State) : State :=
  let c := core_ s n
  match c.ctx, c.branch with
  | .back, some (_, left, _) => if 102398 ≤ c.brAt then iter (issueSlot n) left (setCore n { c with cyc := 0 } s) else s
  | _, _ => s

/-- Everything in flight has been written before the first scheduled bundle (R122). -/
def settleAll (c : CoreSt) : CoreSt :=
  let due := c.flight.foldl (fun l x => insertFlight x l) []
  due.foldl (fun k x => commitFlight x k) { c with flight := [] }

/-- Flights of the batch that ends, seen from the batch that begins. -/
def rebase (c : CoreSt) : CoreSt :=
  { c with flight := c.flight.map (fun x => { x with at_ := x.at_ - 102400, issue := x.issue - 102400 }) }

/-- The batch tick at a core (R122): the background context is saved, the scheduled context starts at cycle 8. A core that no tray owns
has no background entry point from the bake (R125) and idles (R70; log entry 94). -/
def tickCore (n : Nat) (s : State) : State :=
  let c := core_ s n
  let haltedNow := c.sent.testBit 8
  let s1 := setF (fCORE_LOAD_LAST n) c.last
    (setF (fCORE_PEAK_PEAK n) (max c.last (getF s (fCORE_PEAK_PEAK n)))
      (setMaskBit (fCORE_HALT_CORES (n / 32)) (n % 32) haltedNow s))
  let c1 := { c with sent := 0, last := 0 }
  if (coreDef s.oven n).isNone then refreshBg n (setCore n { c1 with ctx := .idle, bgOk := false } s1)
  else if c.ctx = .halted then setCore n c1 s1
  else
    let s2 := finishBranch n (setCore n (rebase c1) s1)
    let saved := leaveBack (settleAll (core_ s2 n))
    setCore n { saved with ctx := .sched, pc := 0, cyc := 8, branch := none, chain0 := none, chain1 := none } s2

/-- The tick at every core of the oven; halts shown are those of the batch just finished (R129). -/
def tickCores (s : State) : State :=
  let t := foldState tickCore (List.range 128) s
  setF fCORE_STAT_ANYHALT (b01 ((List.range 4).any (fun i => getF t (fCORE_HALT_CORES i) != 0))) t

/-- Park the background contexts (R125, R348): each running one is saved; after its branch's delay slots. -/
def parkCore (n : Nat) (s : State) : State :=
  let s1 := match (core_ s n).ctx, (core_ s n).branch with
    | .back, some (_, left, _) => iter (issueBundle n) left s
    | _, _ => s
  let c := core_ s1 n
  if bgActive c then refreshBg n (setCore n { leaveBack c with ctx := .parked } s1) else s1

/-- A core as a commit of its tray leaves it (R100, R125): register values other than loop activity, PC and ST stay. -/
def recommitCore (c : CoreSt) : CoreSt :=
  { settleAll c with st := 0, scSt := 0, pc := 0, ctx := .idle, bgPc := 0, bgSt := 0, bgBranch := none, bgOk := false, branch := none,
                     chain0 := none, chain1 := none }

/-- The same in the state; its background context is none until its first RETB (R125, R129). -/
def recommit (n : Nat) (s : State) : State := refreshBg n (setCore n (recommitCore (core_ s n)) s)

end Sys2Proof.Machine
end

