-- ==== Sys2Proof/Machine/Port.lean ====
section
/-! DEFINITION. SAI ports (R153 to R176): port states, alignment buffers, gates, sample-rate conversion, claim pairs, alignment
bundles, and the port commands. -/
namespace Sys2Proof.Machine

open Sys2Proof

/-! ## Ports of the oven -/

def portDef (b : Bake) (n : Nat) : Option PortDef := b.ports.find? (fun p => p.port == n)

def pOFF : Nat := 0
def pDETECT : Nat := 1
def pACQUIRE : Nat := 2
def pALIGN : Nat := 3
def pRUN : Nat := 4
def pLOST : Nat := 5

def portState (s : State) (n : Nat) : Nat := getF s (fPORT_STS_STATE n)

/-- A port enters a state; PORT_STAT shows LOST and RUN (R173). -/
def setPortState (n v : Nat) (s : State) : State :=
  setMaskBit fPORT_STAT_RUN n (v == pRUN) (setMaskBit fPORT_STAT_LOST n (v == pLOST) (setF (fPORT_STS_STATE n) v s))

/-- Samples of a batch at the rate of a port's slots (R418). -/
def portSamples (p : PortDef) : Nat := if !p.asrc && p.rate == 2 then 4 else 8

/-- The claim an engine sends (R304). -/
def claimSent (s : State) : Nat :=
  if getF s fTWIN_STAT_ROLE = 1 ∨ getF s fTWIN_STAT_ROLE = 2 then getF s fTWIN_CLAIM_CLAIM else 0

/-! ## Gates (R166, R167) -/

def gateOf (p : PortSt) (ch : Nat) : Gate := getT {} p.gates ch
def setGate (p : PortSt) (ch : Nat) (g : Gate) : PortSt := { p with gates := setT {} p.gates ch g }

/-- The length of a gate ramp: that of the command, or PORTn_CTL.RAMP when it gives 0. -/
def gateLen (s : State) (n ramp : Nat) : Nat := if ramp = 0 then getF s (fPORT_CTL_RAMP n) else ramp

/-- x = 0, or the sign of x differs from that of the sample before (R166). -/
def crosses (prev x : Word) : Bool := fpIsZero x || fpSign prev != fpSign x

/-- A gate sees one sample of its signal: a search that finds a crossing starts the ramp at that sample. -/
def gateSample (x : Word) (g : Gate) : Gate :=
  match g.goal with
  | some (t, l) =>
    if crosses g.prev x then { g with gain := rampTo t l g.gain, goal := none, prev := x } else { g with prev := x }
  | none => { g with prev := x }

/-- A request at its boundary: at once where no audio passes yet, else a new search (R166, R167). -/
def askGate (atOnce : Bool) (t : Word) (l : Nat) (g : Gate) : Gate :=
  if atOnce then { g with gain := steady t, goal := none }
  else { g with gain := steady (rampNow g.gain), goal := some (t, l) }

def portChans (p : PortDef) : List Nat := p.chans.map (·.ch)

/-- Act on the gates of the channels that a mask names. -/
def mapGates (p : PortDef) (mask : Nat) (f : Gate → Gate) (q : PortSt) : PortSt :=
  (portChans p).foldl (fun q c => if mask.testBit c then setGate q c (f (gateOf q c)) else q) q

/-- A start out of OFF on the gate of a channel: it rises from zero at its crossing, unless it is muted (R166). -/
def startGate (l : Nat) (g : Gate) : Gate :=
  { g with gain := steady fpZero, goal := if g.muted then none else some (fpOne, l), prev := 0 }

/-- PORT_GATE at its boundary (R166, R167): 0 start, 1 stop, 2 mute, 3 unmute; `mask` names the channels whose last request it is. -/
def applyGate (n action ramp mask : Nat) (s : State) : State :=
  match portDef s.oven n with
  | none => s
  | some p =>
    let st := portState s n
    let q := port s n
    let l := gateLen s n ramp
    let quiet := decide (st ≤ pALIGN)
    match action with
    | 0 =>
      if st ≠ pOFF then s
      else
        let q1 := mapGates p mask (startGate l) q
        let q2 := { q1 with stopping := false, frameErrs := 0, fade := if p.master then { start := fpZero, target := fpOne, len := 64, pos := 0 } else steady fpZero }
        setPortState n (if p.master then pRUN else pDETECT) (setF (fPORT_STS_RATE n) (if p.master then p.rate else 0) (setPort n q2 s))
    | 1 =>
      if st = pOFF then s
      else
        setPort n { mapGates p mask (askGate quiet fpZero l) q with stopping := true } s
    | 2 =>
      let q1 := mapGates p mask (fun g => { askGate quiet fpZero l g with muted := true }) q
      setF (fPORT_MUTE_MUTED n) (getF s (fPORT_MUTE_MUTED n) ||| mask) (setPort n q1 s)
    | _ =>
      let q1 := mapGates p mask (fun g => { askGate quiet fpOne l g with muted := false }) q
      setF (fPORT_MUTE_MUTED n) (maskAndNot (getF s (fPORT_MUTE_MUTED n)) mask) (setPort n q1 s)

/-- PORT_GATE (R166, R175, R176): the action is fixed by the row. -/
def opGate (r : Req) (port0 action ramp mask : Nat) (s : State) : State :=
  let n := clampHi 7 port0
  let p? := portDef s.oven n
  command r 0x0500 [standbyDenied r s, deniedIf p?.isNone 1, standbyNotNow s]
    (fun s =>
      let m := match p? with
        | some p => mask % 2 ^ p.chans.length
        | none => 0
      let l := clampHi 1024 ramp
      replyOK r 0x0500 ([byteOf action, 0] ++ be2 l)
        (stage r 0x0500 ([byteOf n, byteOf action] ++ be2 l ++ be4 m)
          [.gate n action l (if action ≤ 1 then 2 ^ 32 - 1 else m)] s)) s

/-- PORT_START: PORT_GATE action 0. -/
def execPortStart (r : Req) (port0 ramp : Nat) (s : State) : Host.Outcome State Fault Refusal := run r.c (opGate r port0 0 ramp 0) s
/-- PORT_STOP: PORT_GATE action 1. -/
def execPortStop (r : Req) (port0 ramp : Nat) (s : State) : Host.Outcome State Fault Refusal := run r.c (opGate r port0 1 ramp 0) s
/-- PORT_MUTE: PORT_GATE action 2. -/
def execPortMute (r : Req) (port0 ramp : Nat) (mask : Word) (s : State) : Host.Outcome State Fault Refusal :=
  run r.c (opGate r port0 2 ramp mask.toNat) s
/-- PORT_UNMUTE: PORT_GATE action 3. -/
def execPortUnmute (r : Req) (port0 ramp : Nat) (mask : Word) (s : State) : Host.Outcome State Fault Refusal :=
  run r.c (opGate r port0 3 ramp mask.toNat) s

/-! ## Status commands (R176) -/

def opPortStatus (r : Req) (port0 clear : Nat) (s : State) : State :=
  let n := clampHi 7 port0
  command r 0x0501 []
    (fun s =>
      let t := replyOK r 0x0501 (be4 (peekReg s (rPORT_STS n)) ++ be4 (peekReg s (rPORT_CNT n)) ++ be4 (peekReg s (rPORT_MUTE n)) ++
        be4 (port s n).ingress) s
      if 1 ≤ clear then
        setF (fPORT_CNT_LOSTC n) 0 (setF (fPORT_CNT_GLITCHC n) 0 (setF (fPORT_CNT_SLIP n) 0 (setF (fPORT_CNT_SAT n) 0
          (setPort n { port t n with ingress := 0 } t))))
      else t) s

/-- PORT_STATUS (R176). -/
def execPortStatus (r : Req) (port0 clear : Nat) (s : State) : Host.Outcome State Fault Refusal := run r.c (opPortStatus r port0 clear) s

def opAsrcRead (r : Req) (first count : Nat) (s : State) : State :=
  command r 0x0502 []
    (fun s =>
      let f := clampHi 63 first
      let n := min (clampN 1 64 count) (64 - f)
      replyOK r 0x0502 ((List.range n).flatMap (fun i => be4 (peekReg s (rASRC_RATIO (f + i))) ++ be4 (peekReg s (rASRC_FRAC (f + i))))) s) s

/-- ASRC_READ (R173, R176). -/
def execAsrcRead (r : Req) (first count : Nat) (s : State) : Host.Outcome State Fault Refusal := run r.c (opAsrcRead r first count) s

def alignDef (b : Bake) (i : Nat) : Option AlignDef := b.aligns.find? (fun a => a.bundle == i)

def opBundleStatus (r : Req) (bundle0 : Nat) (s : State) : State :=
  let i := clampHi 7 bundle0
  command r 0x0503 [deniedIf (alignDef s.oven i).isNone 1]
    (fun s =>
      match alignDef s.oven i with
      | none => s
      | some a =>
        replyOK r 0x0503 (be4 (align_ s i).playout ++ [byteOf a.members.length, 0, 0, 0] ++
          a.members.flatMap (fun o =>
            let x := stream s o
            let st := if x.state = 4 then 1 else if 0 < rampLeft x.fade ∧ x.fade.target = fpOne then 2 else 0
            [byteOf o, byteOf st] ++ be2 x.under ++ be4 x.stale)) s) s

/-- BUNDLE_STATUS (R168, R169, R176). -/
def execBundleStatus (r : Req) (bundle0 : Nat) (s : State) : Host.Outcome State Fault Refusal := run r.c (opBundleStatus r bundle0) s

/-! ## Conversions (R155) -/

/-- A received word as it stands in its slot, with what it counts. -/
structure PortIn where
  w       : Word
  sat     : Bool := false
  ingress : Bool := false

def portWordIn (p : PortDef) (c : PortChan) (w : Word) : PortIn :=
  if p.raw then
    let g := ingress w
    if c.fp32 then { w := g.w, ingress := g.sat }
    else { w := (fpToInt24 g.w).w, sat := (fpToInt24 g.w).sat, ingress := g.sat }
  else
    let i := if p.width = 16 then w &&& 0xFFFF0000 else w &&& 0xFFFFFF00
    { w := if c.fp32 then int24ToFp i else i }

/-- Multiply a slot word by a gain, in the slot's format (R25). -/
def scaleWord (fp : Bool) (g w : Word) : Word :=
  if g = fpOne then w else if fp then fpMul g w else (fpToInt24 (fpMul g (int24ToFp w))).w

/-- A transmitted word as the port sends it (R155): `v` is FP32, `raw` a word already int24. -/
def portWordOut (p : PortDef) (fp : Bool) (v : Word) : SatRes :=
  if p.raw then { w := if fp then v else int24ToFp v, sat := false }
  else
    let r : SatRes := if fp then fpToInt24 v else { w := v &&& 0xFFFFFF00, sat := false }
    if p.width = 16 then
      let h := (int24Val r.w + 128) / 256
      if 32767 < h then { w := 0x7FFF0000, sat := true }
      else { w := BitVec.ofNat 32 ((h % 65536).toNat * 65536), sat := r.sat }
    else r

/-! ## LOST, rate changes and detection (R162 to R165) -/

/-- The ASRC port's fade of R163: linear to zero over 48 samples at 96 kHz. -/
def fadeDown (l : Nat) (r : Ramp) : Ramp := rampTo fpZero l r

/-! ## The ratio trackers (R159 to R161) -/

/-- The ASRC channels of an owner (R159). -/
def asrcChans (s : State) (owner : Nat) : List Nat :=
  (List.range 64).filter (fun k => getF s (fASRC_FRAC_OWNER k) == owner)

/-- The ratio and the delay fraction of an owner's channels; all of one owner share a tracker. -/
def asrcRatio (s : State) (owner : Nat) : Nat :=
  match asrcChans s owner with
  | k :: _ => getF s (fASRC_RATIO_RATIO k)
  | [] => 0
def ownerFraction (s : State) (owner : Nat) : Nat :=
  match asrcChans s owner with
  | k :: _ => getF s (fASRC_FRAC_FRACTION k)
  | [] => 0

def asrcLocked (s : State) (owner : Nat) : Bool := (asrcChans s owner).any (fun k => getF s (fASRC_FRAC_LOCK k) == 1)

/-- The tracker declares LOCK. -/
def lockAsrc (owner : Nat) (ratio : Nat) (fraction : Nat) (s : State) : State :=
  foldState (fun k t => setF (fASRC_FRAC_LOCK k) 1 (setF (fASRC_FRAC_FRACTION k) (fraction % 25600) (setF (fASRC_RATIO_RATIO k) ratio t)))
    (asrcChans s owner) s

/-- The tracker has lost what it measured, or starts anew. -/
def unlockAsrc (owner : Nat) (s : State) : State := foldState (fun k => setF (fASRC_FRAC_LOCK k) 0) (asrcChans s owner) s

/-- The sampling rate of a RATE code in Hz (R173). -/
def saiHz (r : Nat) : Nat :=
  match r with
  | 1 => 44100
  | 2 => 48000
  | 3 => 88200
  | 4 => 96000
  | 5 => 176400
  | 6 => 192000
  | _ => 0

/-- The ratio of a rate `n` / `d` times its nominal (R160), rounded down. -/
def ratioOf (hz n d : Nat) : Nat := hz * 2 ^ 30 * n / (96000 * d)

/-- At a boundary a locked tracker shows the rate it measures, which lies within ±1,000 ppm of nominal (R159, R165), and the delay
fraction is updated (R160, R161); what it measures is left open (log entry 16). -/
def followAsrc (owner hz : Nat) (s : State) : State :=
  let lo := ratioOf hz 999 1000 + 1
  let w := (freeWord s).toNat
  let t := useFree s
  useFree (foldState (fun k u => setF (fASRC_FRAC_FRACTION k) ((freeWord t).toNat % 25600)
    (setF (fASRC_RATIO_RATIO k) (lo + w % (ratioOf hz 1001 1000 - lo + 1)) u)) (asrcChans s owner) t)

def obeyed (s : State) (k : Nat) : Nat := 2 * k + (if (getF s fPORT_STAT_CLAIMSEL).testBit k then 1 else 0)

/-- The hold of R172: 24 samples, then a fade over 48. -/
def startHold (q : PairSt) : PairSt := if q.hold then q else { q with hold := true, held := 0, fade := steady fpOne }
/-- A port enters LOST (R163): a converting one fades, and a synchronous one supplies zero once its alignment buffer is empty. A claim pair that obeyed it holds its last sample when the other port carries no higher claim (R172). -/
def lostPort (n : Nat) (s : State) : State :=
  match portDef s.oven n with
  | none => s
  | some p =>
    let q := port s n
    let q1 := { q with fade := if p.asrc then fadeDown 48 q.fade else q.fade }
    let t := when_ (p.claimPair && obeyed s (n / 2) == n && !claimHigher ((port s (n + 1 - 2 * (n % 2))).claim.getD 0) (q.claim.getD 0))
      (fun u => setPair (n / 2) (startHold (pair u (n / 2))) u) (setPort n q1 s)
    send 8 n 3 1 0 (bump (fPORT_CNT_LOSTC n) (setPortState n pLOST (unlockAsrc n t)))

/-- PORT_LOST: no valid FS edge for 2 frame periods at a slave port (R163). -/
def execPortLost (c : Nat) (n : Nat) (s : State) : Host.Outcome State Fault Refusal :=
  run c (ifRunning fun s =>
    match portDef s.oven n with
    | some p => if !p.master && portState s n == pRUN then lostPort n s else s
    | none => s) s

/-- A rate change (R165): fade out, PORT_RATE, DETECT. -/
def rateChanged (n : Nat) (s : State) : State :=
  match portDef s.oven n with
  | none => s
  | some p =>
    let q := port s n
    let q1 := { q with fade := if p.asrc then fadeDown 48 q.fade else q.fade, frameErrs := 0, locked := false }
    setPortState n pDETECT (send 8 n 3 2 0 (setF (fPORT_STS_RATE n) 0 (unlockAsrc n (setPort n q1 s))))

/-- RATE_CHANGE: a slave port's rate has left ±1,000 ppm for 1 ms (R165). -/
def execRateChange (c : Nat) (n : Nat) (s : State) : Host.Outcome State Fault Refusal :=
  run c (ifRunning fun s =>
    match portDef s.oven n with
    | some p => if !p.master && portState s n == pRUN then rateChanged n s else s
    | none => s) s

/-- The rate is classified (R162, R165): a synchronous port of the right rate aligns (1 or 2 batches, log entry 16), one of a wrong
rate stays and sends PORT_RATE; a port on the ASRC acquires. -/
def classified (n rate : Nat) (s : State) : State :=
  match portDef s.oven n with
  | none => s
  | some p =>
    if p.master ∨ portState s n ≠ pDETECT ∨ rate = 0 ∨ 6 < rate then s
    else
      let t := setF (fPORT_STS_RATE n) rate s
      if p.asrc then setPortState n pACQUIRE (unlockAsrc n (setPort n { port t n with locked := false } t))
      else if rate = p.rate then
        useFree (setPortState n pALIGN (setPort n { port t n with alignLeft := 1 + (freeWord t).toNat % 2 } t))
      else send 8 n 3 2 0 t

/-- RATE_CLASSIFIED (R162). -/
def execRateClassified (c : Nat) (n : Nat) (rate : Nat) (s : State) : Host.Outcome State Fault Refusal :=
  run c (ifRunning (classified n rate)) s

/-- ASRC_LOCK: an owner's ratio tracker declares LOCK (R160). A port in ACQUIRE enters RUN at the next boundary (R165); a converted AES67
stream that acquires takes its samples from now on (R273). -/
def execAsrcLock (c : Nat) (owner : Nat) (ratio : Word) (fraction : Nat) (s : State) : Host.Outcome State Fault Refusal :=
  run c (ifRunning fun s =>
    if owner < 8 then
      if portState s owner = pACQUIRE then lockAsrc owner ratio.toNat fraction (setPort owner { port s owner with locked := true } s) else s
    else if (stream s owner).state = 0 then s
    else lockAsrc owner ratio.toNat fraction s) s

/-- ACQUIRE_TIMEOUT: 40 ms in ACQUIRE return the port to DETECT (R162). -/
def execAcquireTimeout (c : Nat) (n : Nat) (s : State) : Host.Outcome State Fault Refusal :=
  run c (ifRunning fun s =>
    if portState s n = pACQUIRE ∧ !(port s n).locked then send 8 n 3 2 0 (setPortState n pDETECT (setF (fPORT_STS_RATE n) 0 s)) else s) s

/-- PORT_RATE_REPEAT: a synchronous port held in DETECT at a wrong rate sends PORT_RATE again (R165). -/
def execPortRateRepeat (c : Nat) (n : Nat) (s : State) : Host.Outcome State Fault Refusal :=
  run c (ifRunning fun s =>
    match portDef s.oven n with
    | some p =>
      if !p.master && !p.asrc && portState s n == pDETECT && getF s (fPORT_STS_RATE n) != 0 && getF s (fPORT_STS_RATE n) != p.rate
      then send 8 n 3 2 0 s else s
    | none => s) s

/-- GLITCH: a pulse shorter than PORTn_CTL.GLITCH DCLK periods is removed and counted (R164). -/
def execGlitch (c : Nat) (n : Nat) (width : Nat) (s : State) : Host.Outcome State Fault Refusal :=
  run c (ifRunning fun s => if width < getF s (fPORT_CTL_GLITCH n) then bump (fPORT_CNT_GLITCHC n) s else s) s

/-- ZCTO_TIMEOUT: no crossing within ZCTO, so the ramp starts at the next sample (R166). -/
def execZctoTimeout (c : Nat) (n ch : Nat) (s : State) : Host.Outcome State Fault Refusal :=
  run c (ifRunning fun s =>
    let q := port s n
    let g := gateOf q ch
    match g.goal with
    | some (t, l) => setPort n (setGate q ch { g with gain := rampTo t l g.gain, goal := none }) s
    | none => s) s

/-! ## Claim pairs (R170 to R172) -/

def claimCrc (w : Word) : Nat := crc8 [byteOf (w.toNat / 2 ^ 24), byteOf (w.toNat / 2 ^ 16), byteOf (w.toNat / 2 ^ 8)]

/-- The claim of a claim word, when its marker and CHK stand (R170). -/
def claimOf (w : Word) : Option Nat :=
  if bits w.toNat 15 8 = 0x5C ∧ bits w.toNat 7 0 = claimCrc w then some (bits w.toNat 31 16) else none

/-- The claim word an engine sends (R170). -/
def claimWord (claim : Nat) : Word :=
  let w := BitVec.ofNat 32 (claim % 65536 * 65536 + 0x5C00)
  BitVec.ofNat 32 (w.toNat + claimCrc w)

def endHold (q : PairSt) : PairSt :=
  if q.hold then { q with hold := false, held := 0, fade := { start := fpZero, target := fpOne, len := 16, pos := 0 } } else q
def expireHold (q : PairSt) : PairSt :=
  if q.hold ∧ q.fade.target ≠ fpZero then { q with held := 24, fade := { start := fpOne, target := fpZero, len := 48, pos := 0 } } else q

/-- CLAIM_HOLD_EXPIRY: 24 samples have been held without a valid claim (R172). -/
def execClaimHoldExpiry (c : Nat) (k : Nat) (s : State) : Host.Outcome State Fault Refusal :=
  run c (ifRunning fun s => setPair k (expireHold (pair s k)) s) s

/-- The pair sees a sample position of port `n` (R171, R172). A claim below the highest one seen is rejected, and counts as none (DESIGN
CHOICE, log entry 97). -/
def pairFrame (n : Nat) (seen : Option Nat) (s : State) : State :=
  let k := n / 2
  let p := port s n
  let q := pair s k
  let claim := seen.filter (fun c => !claimHigher q.high c)
  let s1 := setPort n { p with claim := claim, badClaims := if claim.isSome then 0 else p.badClaims + 1 } s
  let s2 := setPair k { q with high := claim.getD q.high } s1
  let ob := obeyed s2 k
  let own := (port s2 ob).claim.getD 0
  match claim with
  | some c =>
    if n ≠ ob ∧ claimHigher c own then
      setPair k (endHold (pair s2 k))
        (send 8 n 3 3 0 (setMaskBit fPORT_STAT_CLAIMSEL k (n % 2 == 1) s2))
    else if claimHigher c q.high then setPair k (endHold (pair s2 k)) s2
    else s2
  | none =>
    if n = ob ∧ 3 ≤ (port s2 n).badClaims ∧ !claimHigher ((port s2 (ob + 1 - 2 * (ob % 2))).claim.getD 0) own then
      setPair k (startHold (pair s2 k)) s2
    else s2

/-- CLRCLAIM: a write of 1 to PORTn_CTL.CLRCLAIM clears the highest-seen claim of the pair holding port n (R171, R173). -/
def clearClaim (n : Nat) (s : State) : State := setPair (n / 2) { pair s (n / 2) with high := 0 } s

def execClrclaim (c : Nat) (_m : Master) (n : Nat) (s : State) : Host.Outcome State Fault Refusal := run c (ifRunning (clearClaim n)) s

/-! ## A frame (R157, R158, R162) -/

/-- The samples a synchronous input stands in its alignment buffer: 2 at 96 kHz, 1 at 48 kHz (R28, R158). -/
def inDelay (p : PortDef) : Nat := if portSamples p = 4 then 1 else 2

/-- The gain on a port channel besides its gate: the fades of RUN, LOST, isolation and, in a pair, of the claim (R163, R166, R341). -/
def portGain (s : State) (n k : Nat) (pairIn : Bool) : Word :=
  let q := port s n
  let a := rampSample q.fade k
  let b := rampSample q.iso k
  let g := if a = fpOne then b else if b = fpOne then a else fpMul a b
  if pairIn then
    let f := rampSample (pair s (n / 2)).fade k
    if f = fpOne then g else fpMul g f
  else g

/-- A sample collected in this batch; it stands in its slot in the next (chapter 01, before R17; R28). Places from 16 on are the words of
the batch after. -/
def collectWord (slot w : Nat) (v : Word) (s : State) : State := { s with inBuf := cput s.inBuf (slot * 16 + w) v }

/-- Has the port collected sample `w` of this batch? -/
def collected (p : PortDef) (w : Nat) (s : State) : Bool :=
  p.chans.any (fun c => c.input && s.inBuf.any (fun e => e.1 == c.slot * 16 + w))

/-- One input channel at one sample: `x` is the word in the slot's format before any gain. -/
def inputSample (n : Nat) (c : PortChan) (pos : Nat) (silent pairIn : Bool) (x : Word) (s : State) : State :=
  let q := port s n
  let sig := if c.fp32 then x else int24ToFp x
  let g := gateSample sig (gateOf q c.ch)
  let gain := rampSample g.gain 0
  let gain2 := portGain s n 0 pairIn
  let y := scaleWord c.fp32 gain2 (scaleWord c.fp32 gain x)
  collectWord c.slot pos (if silent then 0 else y) (setPort n (setGate q c.ch { g with gain := rampAdvance 1 g.gain }) s)

/-- The ramps of a port and of its pair have made one sample. -/
def stepPortRamps (n : Nat) (pairIn : Bool) (s : State) : State :=
  let q := port s n
  let t := setPort n { q with fade := rampAdvance 1 q.fade, iso := rampAdvance 1 q.iso } s
  if pairIn ∧ obeyed s (n / 2) = n then
    let r := pair t (n / 2)
    let r1 := { r with fade := rampAdvance 1 r.fade, held := if r.hold then r.held + 1 else r.held }
    setPair (n / 2) (if r1.hold ∧ 24 ≤ r1.held then expireHold r1 else r1) t
  else t

/-- The alignment buffer of an input channel takes a word and delivers the one that has stood in it for the port's delay (R28, R158). -/
def shiftIn (p : PortDef) (ch : Nat) (v : Word) (m : Cells Word) : Word × Cells Word :=
  let d := inDelay p
  (getT 0 m (ch * 8 + d - 1),
   (List.range d).foldl (fun m i => setT 0 m (ch * 8 + (d - 1 - i)) (if d - 1 - i = 0 then v else getT 0 m (ch * 8 + d - 2 - i))) m)

/-- The claim of a sample position reaches the pair with its audio (R171): the buffer takes one and delivers the oldest when it is full. -/
def shiftClaim (n : Nat) (p : PortDef) (claim : Option (Option Nat)) (s : State) : State :=
  if !p.claimPair then s
  else
    let q := port s n
    let all := claim.toList ++ q.claims
    let full := claim.isNone || decide (inDelay p < all.length)
    let t := setPort n { q with claims := if full then all.dropLast else all } s
    match all.getLast? with
    | some c => if full then pairFrame n c t else t
    | none => t

/-- The input channels of a synchronous port take a frame (R155, R158, R166, R171). A slip on the slow side repeats the sample at the next
position, one on the fast side drops it. -/
def inputFrame (n : Nat) (p : PortDef) (f : SaiFrame) (s : State) : State :=
  let silent := p.claimPair && obeyed s (n / 2) != n
  let held := p.claimPair && (pair s (n / 2)).hold
  let slow := decide (f.wpos < -2)
  let fast := decide (2 < f.wpos)
  let next := if f.pos + 1 = portSamples p then 8 else f.pos + 1
  let t := foldState (fun e u =>
      let c : PortChan := e.1
      let v := portWordIn p c ((f.words[e.2]?).getD 0)
      let q := port u n
      let r := shiftIn p c.ch v.w q.lastIn
      let x := if held then getT 0 q.heldIn c.ch else r.1
      let q1 := { q with lastIn := r.2, heldIn := setT 0 q.heldIn c.ch x, ingress := q.ingress + b01 v.ingress }
      let u1 := when_ v.sat (bump (fPORT_CNT_SAT n)) (setPort n q1 u)
      if fast then u1
      else
        let u2 := inputSample n c f.pos silent p.claimPair x u1
        if slow then inputSample n c next silent p.claimPair x u2 else u2)
    (p.chans.filter (·.input)).zipIdx s
  let t1 := setPort n { port t n with avail := min (inDelay p) ((port t n).avail + 1) } t
  stepPortRamps n p.claimPair
    (if slow ∨ fast then send 8 n 3 4 0 (bump (fPORT_CNT_SLIP n) t1) else t1)

/-- The output channels of a synchronous port send a frame: the slots at their release offset, gated, 2 samples at 96 kHz before the pin
(R28, R30, R155, R170); those of a converting port send what its converter makes (R161). -/
def outputFrame (n : Nat) (p : PortDef) (f : SaiFrame) (s : State) : State :=
  let quiet := getF s fTWIN_STAT_ROLE == 2 || getF s fKILN_STAT_SAFE == 1
  foldState (fun c u =>
      let q := port u n
      let r := asrcRatio u n
      -- a frame at position `pos` of this batch follows the last Core sample by 1 + pos × 96,000 / rate samples
      let age := asrcDelay (ownerFraction u n) - 25600 - f.pos * 25600 * 2 ^ 30 / (max 1 r : Nat)
      let sig := if p.asrc then asrcOut (BitVec.ofNat 32 r) (8 + f.pos) (max 0 (age * 2 ^ 32 / 25600)) (bridgeHist u (2000 + n * 64 + c.ch))
        else playAt u (portSamples p) c.slot p.release f.pos
      let g := gateSample sig (gateOf q c.ch)
      let y := if p.asrc then sig
        else scaleWord true (rampSample u.pwr.txFade (f.pos * (8 / portSamples p)))
          (scaleWord true (portGain u n 0 false) (scaleWord true (rampSample g.gain 0) sig))
      let o := portWordOut p true y
      let claim := p.claimOut && p.claimSlot == some c.ch
      let pin := if claim then claimWord (claimSent u) else if quiet then 0 else if p.asrc then o.w else getT 0 q.lastOut (c.ch * 8 + (inDelay p - 1))
      let q1 := if p.asrc then q
        else { setGate q c.ch { g with gain := rampAdvance 1 g.gain } with
          lastOut := setT 0 (setT 0 q.lastOut (c.ch * 8 + 1) (getT 0 q.lastOut (c.ch * 8))) (c.ch * 8) o.w }
      emit (.tdm n c.ch pin) (when_ o.sat (bump (fPORT_CNT_SAT n)) (setPort n q1 u)))
    (p.chans.filter (fun c => !c.input)) s

/-- A port on the ASRC takes a frame into its converter's history (R161). -/
def asrcFrame (n : Nat) (p : PortDef) (f : SaiFrame) (s : State) : State :=
  let t := foldState (fun e u =>
      let c : PortChan := e.1
      let v := portWordIn p { c with fp32 := true } ((f.words[e.2]?).getD 0)
      let u1 := setPort n { port u n with ingress := (port u n).ingress + b01 v.ingress } u
      setBridgeHist (2000 + n * 64 + c.ch) (pushHist v.w (bridgeHist u1 (2000 + n * 64 + c.ch))) u1)
    (p.chans.filter (·.input)).zipIdx s
  setPort n { port t n with got := (port t n).got + 1 } t

/-- The claim that a frame carries in its claim slot (R170). -/
def frameClaim (p : PortDef) (f : SaiFrame) : Option Nat :=
  match p.claimSlot with
  | some i => match ((p.chans.filter (·.input)).findIdx? (fun c => c.ch == i)) with
    | some j => claimOf ((f.words[j]?).getD 0)
    | none => none
  | none => none

/-- A frame is received and sent on a port (R154 to R172). A frame whose FS edge falls at the wrong BCK count keeps the port's timing, and its
edge counts as a glitch; 3 of them in a row are a rate change (R164). -/
def saiFrame (n : Nat) (f : SaiFrame) (s : State) : State :=
  match portDef s.oven n with
  | none => s
  | some p =>
    let st := portState s n
    if st = pOFF then s
    else
      let good := f.fsGood || p.master
      let errs := if good then 0 else (port s n).frameErrs + 1
      let s0 := when_ (!good) (bump (fPORT_CNT_GLITCHC n)) (setPort n { port s n with frameErrs := errs, wpos := f.wpos } s)
      if st = pLOST then (if good then setPortState n pDETECT (setF (fPORT_STS_RATE n) 0 s0) else s0)
      else if st ≠ pRUN then s0
      else
        let s1 := if p.asrc then outputFrame n p f (asrcFrame n p f s0)
          else inputFrame n p f (outputFrame n p f (shiftClaim n p (some (frameClaim p f)) s0))
        if 3 ≤ errs then rateChanged n s1 else s1

/-- SAI_FRAME: what the batch has produced by its cycle comes first (R30). -/
def execSaiFrame (c : Nat) (n : Nat) (f : SaiFrame) (s : State) : Host.Outcome State Fault Refusal :=
  runMem c (ifRunning fun s => saiFrame n f (runFixedTo c s)) s

/-! ## Streams and alignment bundles (R168, R169) -/

/-- The bundle a stream belongs to. -/
def bundleOf (b : Bake) (owner : Nat) : Option AlignDef := b.aligns.find? (fun a => a.members.contains owner)

/-- The slots a stream plays into: those of an ASRC port input, or of an AES67 receive stream. -/
def streamSlots (b : Bake) (owner : Nat) : List Nat :=
  if owner < 8 then
    match portDef b owner with
    | some p => (p.chans.filter (·.input)).map (·.slot)
    | none => []
  else
    match b.aes.find? (fun a => a.owner == owner) with
    | some a => a.slots
    | none => []

def streamKey (pos ch : Nat) : Nat := pos * 64 + ch

/-- PORT_STAT.UNDERRUN: a stream of the bundle is underrun. -/
def refreshUnderrun (i : Nat) (s : State) : State :=
  match alignDef s.oven i with
  | none => s
  | some a => setMaskBit fPORT_STAT_UNDERRUN i (a.members.any (fun o => (stream s o).state == 4)) s

/-- A stream underruns (R169): its last sample fades to zero over 16 samples. -/
def underrun (owner : Nat) (s : State) : State :=
  let x := stream s owner
  let t := setStream owner { x with state := 4, under := min 65535 (x.under + 1), fade := { start := fpOne, target := fpZero, len := 16, pos := 0 } } s
  let u := send 8 owner 3 5 0 t
  match bundleOf s.oven owner with
  | some a => refreshUnderrun a.bundle u
  | none => u

/-- Does a position lie before another, modulo 2^32 (R168, R272)? -/
def posBelow (a b : Nat) : Bool :=
  let d := (b % 2 ^ 32 + 2 ^ 32 - a % 2 ^ 32) % 2 ^ 32
  decide (0 < d) && decide (d < 2 ^ 31)

/-- Where a stream plays now: its bundle's playout position, or its own. -/
def playPos (s : State) (owner : Nat) : Nat :=
  match bundleOf s.oven owner with
  | some a => (align_ s a.bundle).playout
  | none => (stream s owner).pos

/-- PORT_UNDERRUN: the sample due is not present (R169). -/
def execPortUnderrun (c : Nat) (owner : Nat) (s : State) : Host.Outcome State Fault Refusal :=
  run c (ifRunning fun s =>
    let x := stream s owner
    if x.state = 3 ∧ !(x.buf.any (fun e => e.1 / 64 == playPos s owner)) then underrun owner s else s) s

/-- A saturation of an ASRC input's conversion into an int24 slot counts at its port (R155). -/
def countPortSat (owner : Nat) (o : SlotOut) : State := when_ (o.sat && decide (owner < 8)) (bump (fPORT_CNT_SAT owner)) o.s

/-- A stream plays the sample at `pos` into word `w` of its slots (R169): live, or the fade of an underrun. -/
def playSample (owner pos w : Nat) (s : State) : State :=
  let slots := streamSlots s.oven owner
  let x := stream s owner
  let there := x.buf.any (fun e => e.1 / 64 == pos)
  let s1 :=
    if there ∧ (x.state = 4 ∨ x.state = 2) then
      let t := setStream owner { x with state := 3, fade := { start := fpZero, target := fpOne, len := 16, pos := 0 } } s
      match bundleOf s.oven owner with
      | some a => refreshUnderrun a.bundle t
      | none => t
    else if !there ∧ x.state = 3 then underrun owner s
    else s
  let y := stream s1 owner
  let gain := rampSample y.fade 0
  let t := foldState (fun e u =>
      let v := if there then getT 0 y.buf (streamKey pos e.2) else getT 0 y.buf (streamKey (2 ^ 40) e.2)
      countPortSat owner (writeFp e.1 w (if gain = fpOne then v else fpMul gain v) u))
    slots.zipIdx s1
  -- the last sample played is kept for an underrun; samples played and stale ones leave the buffer
  let kept := (List.range slots.length).foldl (fun m ch =>
    if there then setT 0 m (streamKey (2 ^ 40) ch) (getT 0 y.buf (streamKey pos ch)) else m) (y.buf.filter (fun e => !(e.1 / 64 == pos)))
  setStream owner { y with fade := rampAdvance 1 y.fade, buf := kept } t

/-- A converted or received sample arrives at a position; below the playout position it is stale (R169). -/
def storeSample (owner pos : Nat) (ws : List Word) (s : State) : State :=
  let x := stream s owner
  if posBelow pos (playPos s owner) then setStream owner { x with stale := x.stale + 1 } s
  else
    setStream owner { x with buf := ws.zipIdx.foldl (fun m e => cput m (streamKey pos e.2) e.1) x.buf } s

/-! ## What a boundary does to the ports -/

/-- The samples that a synchronous input port has not received: those its alignment buffer still holds, then the ones a claim pair holds, then
zero; searches and ramps run on them (R163, R167, R172). -/
def lostSamples (n : Nat) (p : PortDef) (s : State) : State :=
  foldState (fun w u0 =>
    let real := decide (0 < (port u0 n).avail)
    let u := if real then shiftClaim n p none u0 else u0
    let silent := p.claimPair && obeyed u (n / 2) != n
    let held := p.claimPair && (pair u (n / 2)).hold
    let t := foldState (fun (c : PortChan) v =>
      let q := port v n
      let r := shiftIn p c.ch 0 q.lastIn
      let x := if real then r.1 else if held then getT 0 q.heldIn c.ch else 0
      inputSample n c w silent (held && !real) x
        (setPort n { q with lastIn := r.2, heldIn := if real then setT 0 q.heldIn c.ch x else q.heldIn } v)) (p.chans.filter (·.input)) u
    stepPortRamps n (p.claimPair && !(held && real)) (setPort n { port t n with avail := (port t n).avail - 1 } t))
    ((List.range (portSamples p)).filter (fun w => !collected p w s)) s

/-- While no frames come, the searches and ramps of a port's output channels run on zero samples (R167). -/
def idleOutputs (n : Nat) (p : PortDef) (s : State) : State :=
  setPort n ((p.chans.filter (fun c => !c.input)).foldl (fun q c =>
    (List.range (portSamples p)).foldl (fun q _ =>
      let g := gateSample 0 (gateOf q c.ch)
      setGate q c.ch { g with gain := rampAdvance 1 g.gain }) q) (port s n)) s

/-- The slots of synchronous inputs take what the batch collected; a sample that no frame brought, and words 4 to 7 of a Half
channel, are zero (R24, R162, R163). A word that a slip has put beyond the batch waits for the next. -/
def deliverInputs (s : State) : State :=
  let t := foldState (fun p u => foldState (fun (c : PortChan) v =>
      foldState (fun w x => setSlotWord c.slot w (if w < portSamples p then cget (fun _ => 0) s.inBuf (c.slot * 16 + w) else 0) x) (List.range 8) v)
    (p.chans.filter (·.input)) u) (s.oven.ports.filter (fun p => !p.asrc)) s
  { t with inBuf := s.inBuf.filterMap (fun e => if 8 ≤ e.1 % 16 then some (e.1 - 8, e.2) else none) }

/-- The output channels of a converting port take the Core samples of the batch, gated at that rate, into their histories (R161, R166,
R418). -/
def asrcOutputs (n : Nat) (s : State) : State :=
  match portDef s.oven n with
  | some p =>
    if p.asrc ∧ portState s n ≠ pOFF then
      foldState (fun w u => foldState (fun c v =>
        let q := port v n
        let x := if portState v n = pRUN then playWord v c.slot p.release w else 0
        let g := gateSample x (gateOf q c.ch)
        let y := scaleWord true (rampSample v.pwr.txFade w) (scaleWord true (portGain v n w false) (scaleWord true (rampSample g.gain 0) x))
        setBridgeHist (2000 + n * 64 + c.ch) (pushHist y (bridgeHist v (2000 + n * 64 + c.ch)))
          (setPort n (setGate q c.ch { g with gain := rampAdvance 1 g.gain }) v))
        (p.chans.filter (fun c => !c.input)) u) (List.range 8) s
    else s
  | none => s

/-- Does a converting port make samples in this batch: in RUN, in LOST, and while the fade of a rate change lasts (R163, R165)? -/
def converts (s : State) (n : Nat) : Bool :=
  let st := portState s n
  st == pRUN || st == pLOST || ((st == pDETECT || st == pACQUIRE) && decide (0 < rampLeft (port s n).fade))

/-- The input samples that a batch should have brought and did not are zero once frames have stopped (R163). -/
def fillMissing (n : Nat) (p : PortDef) (s : State) : State :=
  if portState s n = pRUN then s
  else
    foldState (fun _ u => foldState (fun (c : PortChan) v =>
        setBridgeHist (2000 + n * 64 + c.ch) (pushHist 0 (bridgeHist v (2000 + n * 64 + c.ch))) v) (p.chans.filter (·.input)) u)
      (List.range (8 * asrcRatio s n / 2 ^ 30 - (port s n).got)) s

/-- The Core samples that a converting port made in the batch: live in RUN, fading after it (R161, R163, R165), each gated (R166). A member
of a bundle puts them at their positions (R168). -/
def asrcBatch (n : Nat) (p : PortDef) (s0 : State) : State :=
  let s := fillMissing n p s0
  let r := asrcRatio s n
  let ins := p.chans.filter (·.input)
  foldState (fun (w : Nat) u =>
    -- the newest input sample stands at the end of the batch, 7 − w samples after Core sample w
    let age := inputSamples r (asrcDelay (ownerFraction u n) + (7 - (w : Int)) * 25600)
    let gated (c : PortChan) (v : State) : State × Word :=
      let x := asrcOut (BitVec.ofNat 32 r) w age (bridgeHist v (2000 + n * 64 + c.ch))
      let g := gateSample x (gateOf (port v n) c.ch)
      (setPort n (setGate (port v n) c.ch { g with gain := rampAdvance 1 g.gain }) v,
       scaleWord true (portGain v n 0 false) (scaleWord true (rampSample g.gain 0) x))
    let all := ins.foldl (fun (a : State × List Word) c => let o := gated c a.1; (o.1, a.2 ++ [o.2])) (u, [])
    let u1 :=
      match bundleOf u.oven n with
      | some _ =>
        let x := stream all.1 n
        storeSample n x.pos all.2 (setStream n { x with pos := (x.pos + 1) % 2 ^ 32 } all.1)
      | none => foldState (fun e v => countPortSat n (writeFp e.1.slot w e.2 v)) (ins.zip all.2) all.1
    stepPortRamps n false u1) (List.range 8) s

/-- A converting input that makes no samples reads as zero (R162). -/
def silentAsrc (n : Nat) (p : PortDef) (s : State) : State :=
  if (bundleOf s.oven n).isSome then s
  else foldState (fun (c : PortChan) u => foldState (fun w => setSlotWord c.slot w 0) (List.range 8) u) (p.chans.filter (·.input)) s

/-- A port in RUN again after ACQUIRE: an empty converter and, in a bundle, the reference position (R162, R168). -/
def beginRun (n : Nat) (p : PortDef) (s : State) : State :=
  let t := foldState (fun (c : PortChan) => setBridgeHist (2000 + n * 64 + c.ch) []) p.chans
    (setPortState n pRUN (setPort n { port s n with fade := { start := fpZero, target := fpOne, len := 64, pos := 0 } } s))
  match bundleOf t.oven n with
  | some a => setStream n { stream t n with state := 3, pos := ((align_ t a.bundle).playout + a.offset) % 2 ^ 32, buf := [] } t
  | none => t

/-- A port goes to OFF: nothing of it is left to play (R166). -/
def portOff (n : Nat) (s : State) : State :=
  setPortState n pOFF (setF (fPORT_STS_RATE n) 0 (unlockAsrc n (setPort n
    { port s n with stopping := false, fade := steady fpOne, lastIn := [], lastOut := [], avail := 0, claims := [], locked := false } s)))

/-- A port at a boundary: what it makes of the batch, then ALIGN and ACQUIRE end, and a stop that has ramped down ends in OFF. -/
def portBoundary (n : Nat) (s : State) : State :=
  match portDef s.oven n with
  | none => s
  | some p =>
    let st0 := portState s n
    let s1 := if p.asrc then (if converts s n then asrcBatch n p s else silentAsrc n p s)
      else if st0 = pLOST ∨ st0 = pDETECT ∨ st0 = pALIGN then idleOutputs n p (lostSamples n p s)
      else s
    let s2 := setPort n { port s1 n with got := 0 } s1
    let q := port s2 n
    let st := portState s2 n
    let s3 :=
      if st = pALIGN then
        if q.alignLeft ≤ 1 then
          setPortState n pRUN (setPort n { q with alignLeft := 0, avail := 0, claims := [], lastIn := [], fade := { start := fpZero, target := fpOne, len := 64, pos := 0 } } s2)
        else setPort n { q with alignLeft := q.alignLeft - 1 } s2
      else if st = pACQUIRE ∧ q.locked then beginRun n p s2
      else s2
    let s4 := if st = pRUN ∧ p.asrc then followAsrc n (saiHz (getF s3 (fPORT_STS_RATE n))) s3 else s3
    let q4 := port s4 n
    let down := q4.stopping && (portChans p).all (fun c => (gateOf q4 c).goal.isNone && rampLeft (gateOf q4 c).gain == 0)
    if down then portOff n s4 else s4

/-- Every bundle plays 8 samples (R168). -/
def playBundles (s : State) : State :=
  foldState (fun a t =>
    let p0 := (align_ t a.bundle).playout
    let u := foldState (fun o v => foldState (fun w => playSample o ((p0 + w) % 2 ^ 32) w) (List.range 8) v) a.members t
    setAlign a.bundle { playout := (p0 + 8) % 2 ^ 32 } u) s.oven.aligns s

/-- Every port in the oven re-enters DETECT, a master RUN; gate states are kept (R341, R352). A port in OFF stays there. -/
def restartPorts (s : State) : State :=
  foldState (fun p t =>
    if portState t p.port = pOFF then t
    else
      let q := port t p.port
      let q1 := { q with fade := if p.master then { start := fpZero, target := fpOne, len := 64, pos := 0 } else steady fpZero,
                         iso := steady fpOne, isolated := false, frameErrs := 0, locked := false, lastIn := [], lastOut := [], avail := 0, claims := [] }
      setPortState p.port (if p.master then pRUN else pDETECT) (setF (fPORT_STS_RATE p.port) (if p.master then p.rate else 0) (setPort p.port q1 t)))
    s.oven.ports s

/-- Level 2 for PORT: every channel ramps to mute over PORTn_CTL.RAMP; clearing the class ramps it back (R341). -/
def isolatePort (n : Nat) (on : Bool) (s : State) : State :=
  let q := port s n
  setPort n { q with isolated := on, iso := rampTo (if on then fpZero else fpOne) (getF s (fPORT_CTL_RAMP n)) q.iso } s

/-- What the port group's opcodes spell (R176). -/
def parsePort (r : Req) (op : Nat) (p : List Byte) : Parse :=
  match op with
  | 0x0500 =>
    let n := n1 p 0
    let l := n2 p 2
    lenIs 8 p (match n1 p 1 with
      | 0 => .portStart r n l
      | 1 => .portStop r n l
      | 2 => .portMute r n l (w4 p 4)
      | _ => .portUnmute r n l (w4 p 4))
  | 0x0501 => lenIs 4 p (.portStatus r (n1 p 0) (n1 p 1))
  | 0x0502 => lenIs 4 p (.asrcRead r (n1 p 0) (n1 p 1))
  | 0x0503 => lenIs 4 p (.bundleStatus r (n1 p 0))
  | _ => .unknown

end Sys2Proof.Machine
end

