-- ==== Sys2Proof/Machine/Settings.lean ====
section
/-! DEFINITION. Writing settings registers: each field to its Range (R9, R56), and the commands that carry whole words with a
MASK that selects fields in order (R207, R228, R255). -/
namespace Sys2Proof.Machine

open Sys2Proof

/-- A field's value clamped to its Range (R56). -/
def clampField (f : FieldRow) (v : Nat) : Nat :=
  let w := f.hi + 1 - f.lo
  match f.rng with
  | .any => v % 2 ^ w
  | .u lo hi => clampN lo hi (v % 2 ^ w)
  | .s lo hi => unsigned w (clampI lo hi (signed w (v % 2 ^ w)))

def fieldsOf (addr : Nat) : List FieldRow :=
  match rowAt addr with
  | some r => r.fields
  | none => []

/-- Put `v` into bits [hi:lo] of a word. -/
def putBits (w hi lo v : Nat) : Nat := w - bits w hi lo * 2 ^ lo + v % 2 ^ (hi + 1 - lo) * 2 ^ lo

/-- The fields of one register that MASK selects, its bit `i` naming the first field; the others as in `old`. -/
def applyWord (addr i mask new old : Nat) : Nat :=
  ((fieldsOf addr).zipIdx).foldl (fun w e =>
    if mask.testBit (i + e.2) then putBits w e.1.hi e.1.lo (clampField e.1 (bits new e.1.hi e.1.lo)) else w) old

/-- The same over several registers in order. -/
def applyWords : List Nat → Nat → Nat → List Nat → List Nat → List Nat
  | a :: as, i, mask, n :: ns, o :: os => applyWord a i mask n o :: applyWords as (i + (fieldsOf a).length) mask ns os
  | _, _, _, _, _ => []

/-- Store whole words into registers' fields. -/
def storeWords : List Nat → List Nat → State → State
  | a :: as, w :: ws, s =>
    storeWords as ws ((fieldsOf a).foldl (fun t f => setF ⟨a, f.lo, f.hi + 1 - f.lo⟩ (bits w f.hi f.lo) t) s)
  | _, _, s => s

/-- The words registers hold. -/
def heldWords (s : State) (as : List Nat) : List Nat :=
  as.map (fun a => (fieldsOf a).foldl (fun w f => w + getF s ⟨a, f.lo, f.hi + 1 - f.lo⟩ * 2 ^ f.lo) 0)

end Sys2Proof.Machine
end

