-- ==== Sys2Proof/Machine/Trunk.lean ====
section
/-! DEFINITION. Trunk lanes (R229 to R255): bring-up, messages, ranging, delivery, holds, slips, claims, transit, and the link
commands. Lane numbers 8 to 11 name the twin lanes, which train and range alike (R310). -/
namespace Sys2Proof.Machine

open Sys2Proof

def lOFF : Nat := 0
def lTRAIN : Nat := 1
def lEQ : Nat := 2
def lRANGE : Nat := 3
def lCAPS : Nat := 4
def lUP : Nat := 5

/-! ## Lane states (R239, R253) -/

def laneState (s : State) (l : Nat) : Nat := if l < 8 then getF s (fTL_STS_STATE l) else (lane s l).state
def laneLocked (s : State) (l : Nat) : Bool := if l < 8 then getF s (fTL_STS_LOCK l) == 1 else (lane s l).lock
def laneDef (b : Bake) (l : Nat) : Option LaneDef := b.lanes.find? (fun d => d.lane == l)

/-- A lane enters a state; TRUNK_STAT and TWIN_STAT.TWUP show it. -/
def setLaneState (l v : Nat) (s : State) : State :=
  if l < 8 then
    setMaskBit fTRUNK_STAT_UP l (v == lUP)
      (setMaskBit fTRUNK_STAT_TRAINING l (decide (1 ≤ v) && decide (v ≤ 4)) (setF (fTL_STS_STATE l) v s))
  else
    let t := setLane l { lane s l with state := v } s
    setF fTWIN_STAT_TWUP (b01 ([8, 9, 10, 11].all (fun k => (lane t k).state == lUP))) t

def setLaneLock (l : Nat) (v : Bool) (s : State) : State :=
  if l < 8 then setF (fTL_STS_LOCK l) (b01 v) s else setLane l { lane s l with lock := v } s

/-- Operations on a lane that end with it (R238, R252). -/
def onLane (l : Nat) : OpKind → Bool
  | .range k => k == l
  | .msgSend k _ => k == l
  | _ => false

/-- A lane gives up what it was doing: messages sent and received, ranging, buffered frames (R238). -/
def quietLane (l : Nat) (s : State) : State :=
  let q := lane s l
  let q1 := { q with commas := 0, exch := [], ranging := false, answers := [], sendSeq := 1, recvSeq := 0, unacked := [], ackDue := false,
                     capsRx := [], capsTx := false, capsOut := false, offsSet := false, buffered := [], capsShard := false }
  setLane l q1 (if l < 8 then setF (fTL_STS_MAPOK l) 0 { s with msgs := s.msgs.filter (fun m => !(m.1 == l)) } else s)

/-- A lane begins bring-up anew; its sends complete FAILED (R238, R239, R252). -/
def trainLane (l : Nat) (s : State) : State :=
  setLaneState l lTRAIN (finishAll (onLane l) stFAILED [] (quietLane l s))

/-- A lane goes to OFF (EN = 0). -/
def offLane (l : Nat) (s : State) : State :=
  setLaneState l lOFF (setLaneLock l false (finishAll (onLane l) stFAILED [] (quietLane l s)))

/-- Is the lane hardware running: out of reset, the unit present? -/
def laneLive (s : State) (l : Nat) : Bool :=
  s.pwr.phase == .run && (decide (l < 8) || hasTwin s) && !s.kiln.resets.any (fun u => u.unit == (if l < 8 then 9 else 13))

/-- CDR_LOCK: the lane's CDR locks (R239). -/
def execCdrLock (c : Nat) (l : Nat) (s : State) : Host.Outcome State Fault Refusal :=
  run c (fun s => if laneLive s l && laneState s l != lOFF then setLaneLock l true s else s) s

/-- A trunk lane in UP is lost (R247). -/
def loseTrunk (l : Nat) (s : State) : State :=
  trainLane l (send 9 l 3 9 0 (bump (fTL_CNT_DOWN l) s))

/-- LOSS_OF_LOCK: a lane in EQ, RANGE or CAPS loses CDR lock or comma alignment and returns to TRAIN (R231, R239); a trunk lane in UP is
lost by it (R247), and one in TRAIN counts its frames anew. What a twin lane in UP loses by it, TWIN_LANE_LOSS brings (R330). -/
def execLossOfLock (c : Nat) (l : Nat) (s : State) : Host.Outcome State Fault Refusal :=
  run c (fun s =>
    let st := laneState s l
    if !laneLive s l then s
    else if decide (lEQ ≤ st) && decide (st ≤ lCAPS) then trainLane l (setLaneLock l false s)
    else if st = lUP then (if l < 8 then loseTrunk l (setLaneLock l false s) else s)
    else if st = lTRAIN then setLaneLock l false (setLane l { lane s l with commas := 0 } s)
    else s) s

/-! ## The CTLE search (R240) -/

/-- The longest run of settings without errors, the lowest on a tie: its start and length. -/
structure Stretch where
  start : Nat
  len   : Nat

def bestRun (errs : List Nat) : Stretch :=
  let step (acc : Stretch × Stretch) (e : Nat × Nat) : Stretch × Stretch :=
    let cur : Stretch := if e.1 = 0 then (if acc.2.len = 0 then ⟨e.2, 1⟩ else ⟨acc.2.start, acc.2.len + 1⟩) else ⟨0, 0⟩
    (if acc.1.len < cur.len then cur else acc.1, cur)
  (errs.zipIdx.foldl step (⟨0, 0⟩, ⟨0, 0⟩)).1

/-- The first setting with the fewest errors. -/
def leastErr (errs : List Nat) : Nat :=
  let m := errs.foldl min (errs.headD 0)
  errs.findIdx (· == m)

/-- CTLEF, and whether the search found a setting without errors. -/
def ctleChoice (errs : List Nat) : SatRes :=
  let b := bestRun errs
  if b.len = 0 then { w := BitVec.ofNat 32 (leastErr errs), sat := true }
  else { w := BitVec.ofNat 32 (b.start + (b.len - 1) / 2), sat := false }

def setCtlef (l v : Nat) (s : State) : State :=
  if l < 8 then setF (fTL_STS_CTLEF l) v s else setLane l { lane s l with ctlef := v } s

/-- The unit that reports a lane's shards, and the lane's number there. -/
def laneSrc (l : Nat) : Nat := if l < 8 then 9 else 13
def laneNo (l : Nat) : Nat := if l < 8 then l else l - 8

/-- The search ends: CTLEF is chosen, or taken from CTLE with CTLEAUTO = 0, and the lane enters RANGE (R239, R240). -/
def searchEnd (l : Nat) (errs : List Nat) (s : State) : State :=
  if laneLive s l && laneState s l == lEQ then
    let t :=
      if l < 8 ∧ getF s (fTL_CTL_CTLEAUTO l) = 0 then setCtlef l (getF s (fTL_CTL_CTLE l)) s
      else
        let k := ctleChoice (errs.take 15)
        when_ k.sat (send (laneSrc l) (laneNo l) 3 7 0) (setCtlef l k.w.toNat s)
    setLaneState l lRANGE (setLane l { lane t l with ranging := true, exch := [] } t)
  else s

/-- CTLE_SEARCH_END (R240). -/
def execCtleSearchEnd (c : Nat) (l : Nat) (errs : List Nat) (s : State) : Host.Outcome State Fault Refusal :=
  run c (searchEnd l errs) s

/-! ## CAPS (R244) -/

def inPair (s : State) : Bool := getF s fTWIN_STAT_ROLE == 1 || getF s fTWIN_STAT_ROLE == 2

def ownLinkmap (s : State) (l : Nat) : Nat :=
  match laneDef s.oven l with
  | some d => d.linkmap.toNat
  | none => 0

/-- The record an engine sends; FORMAT is 1 on trunks and 2 on twin lanes (R244, R310). -/
def capsRecord (s : State) (l : Nat) : List Byte :=
  let caps := capsOf s.fuses.variant
  let d := laneDef s.oven l
  [byteOf (if l < 8 then 1 else 2), byteOf (bits caps 19 16 + 16 * bits caps 23 20), byteOf (laneNo l),
   byteOf (b01 (inPair s) + 2 * b01 (getF s fTWIN_STAT_ROLE == 2))] ++
  be4 (getF s fTRUNK_NODE_NODE_ID) ++ be4 (ownLinkmap s l) ++
  be2 (match d with
    | some x => x.sent
    | none => 0) ++
  be2 (match d with
    | some x => x.expected
    | none => 0) ++ be4 s.fuses.romver ++ zeros 4

/-- A message of the message area: TYPE, FLAGS, LEN, SEQ, data, HCRC (R236). -/
def laneMsg (type seq : Nat) (data : List Byte) : List Byte :=
  let b := [byteOf type, 0] ++ be2 data.length ++ be2 seq ++ data
  b ++ be2 (crc16 b)

def sendCaps (l : Nat) (s : State) : State := setLane l { lane s l with capsTx := true } s

/-- The fade-in of a first delivery (R245). -/
def fadeIn64 : Ramp := { start := fpZero, target := fpOne, len := 64, pos := 0 }

/-- MAPOK: both LINKMAPs equal and nonzero; it starts the fade-in, and a mismatch of two nonzero values sends TRUNK_MAP (R244). -/
def judgeMap (l : Nat) (s : State) : State :=
  let q := lane s l
  let own := ownLinkmap s l
  let peer := num q.capsRx 8 4
  let ok := own != 0 && own == peer
  let was := getF s (fTL_STS_MAPOK l)
  let t := setF (fTL_STS_MAPOK l) (b01 ok) s
  let u := when_ (ok && was == 0) (fun v => setLane l { lane v l with fade := fadeIn64 } v) t
  when_ (own != 0 && peer != 0 && own != peer) (send 9 l 3 12 0) u

/-- CAPS sent and received: UP (R239). -/
def capsDone (l : Nat) (s : State) : State :=
  let q := lane s l
  if laneState s l = lCAPS ∧ q.capsOut ∧ num q.capsRx 0 1 = (if l < 8 then 1 else 2) ∧ q.capsRx ≠ [] ∧ (l < 8 ∨ q.flight ≤ 2458) then
    let t := setLaneState l lUP
      (setLane l { q with sendSeq := 1, recvSeq := 0, commas := 0, bad := 0, offsSet := false, fade := fadeIn64 } s)
    if l < 8 then judgeMap l t else t
  else s

/-- CAPS_RESEND: every 100 ms in CAPS; the shard TRUNK_CAPS goes out once (R239). A twin lane with too long a flight sends TW_LANE
(R310). -/
def execCapsResend (c : Nat) (l : Nat) (s : State) : Host.Outcome State Fault Refusal :=
  run c (fun s =>
    if laneLive s l && laneState s l == lCAPS then
      let q := lane s l
      let t := setLane l { q with capsTx := true, capsShard := true } s
      if q.capsShard then t
      else if l < 8 then send 9 l 3 11 0 t
      else if 2458 < q.flight then send 13 (l - 8) 10 7 0 t else send 13 (l - 8) 3 11 0 t
    else s) s

/-! ## Ranging (R241, R243) -/

/-- The delivery point of a frame whose symbol 0 was detected at `det` (R242). -/
def deliveryPoint (det : Int) : Int := det + 207296

/-- The first local boundary at or after the delivery point, in batches from the start of the present one, and WAIT (R243). -/
def deliveryBatch (det : Int) : Int := -((-deliveryPoint det) / 204800)
def waitOf (det : Int) : Nat := ((-deliveryPoint det) % 204800).toNat

/-- The ranging of a lane has its 8 exchanges (R241): FLIGHT and WAIT, and for TRUNK_RANGE the completion (R243). -/
def rangeDone (l wait : Nat) (s : State) : State :=
  let q := lane s l
  let sum := q.exch.foldl (fun a d => a + d) (0 : Int)
  let fl := roundHalfUp sum 16 - 2304
  let t := setLane l { q with ranging := false, exch := [] } s
  if 245760 < fl then trainLane l (send (laneSrc l) (laneNo l) 3 10 0 t)
  else
    let f := fl.toNat
    let u := if l < 8 then setF (fTL_RANGE_FLIGHT l) f (setF (fTL_WAIT_WAIT l) wait t) else setLane l { lane t l with flight := f } t
    if laneState u l = lRANGE then capsDone l (sendCaps l (setLaneState l lCAPS u))
    else finishAll (fun k => match k with
      | .range m => m == l
      | _ => false) stOK (be4 f ++ be4 wait) u

/-- One exchange: D = (T4 − T1) − TB, discarded below 4,608 (R241). A request's ID is the low half of the batch at whose start its
frame was launched (DESIGN CHOICE, log entry 99). -/
def takeExchange (l id tb : Nat) (det : Int) (s : State) : State :=
  let q := lane s l
  let wait := waitOf det
  let d : Int := det + 204800 * (((batch s).toNat + 65536 - id) % 65536 : Nat) - tb
  if !q.ranging ∨ d < 4608 then s
  else
    let e := q.exch ++ [d]
    let t := setLane l { q with exch := e } s
    if 8 ≤ e.length then rangeDone l wait t else t

/-- RANGE_TIMEOUT: no 8 exchanges within 100 ms (R239, R255). -/
def execRangeTimeout (c : Nat) (l : Nat) (s : State) : Host.Outcome State Fault Refusal :=
  run c (fun s =>
    if laneLive s l && (lane s l).ranging then
      let t := send (laneSrc l) (laneNo l) 3 10 0 (setLane l { lane s l with ranging := false, exch := [] } s)
      if laneState t l = lRANGE then trainLane l t
      else finishAll (fun k => match k with
        | .range m => m == l
        | _ => false) stFAILED [] t
    else s) s

/-! ## HOST messages (R238) -/

def seqUp (n : Nat) : Nat := if n = 0xFFFF then 1 else n + 1

/-- Bytes waiting in the engine's receive queue. -/
def queuedBytes (s : State) : Nat := s.msgs.foldl (fun a m => a + m.2.length) 0

/-- A HOST message arrives: only the next SEQ in order, and only when it fits 64 KiB. -/
def takeHost (l seq : Nat) (data : List Byte) (s : State) : State :=
  let q := lane s l
  if seq = seqUp q.recvSeq ∧ queuedBytes s + data.length ≤ 65536 then
    { setLane l { q with recvSeq := seq, ackDue := true } s with msgs := s.msgs ++ [(l, data)] }
  else setLane l { q with ackDue := q.ackDue || seq != seqUp q.recvSeq } s

/-- An ACK releases every message up to its SEQ; their sends complete OK. -/
def takeAck (l seq : Nat) (s : State) : State :=
  let q := lane s l
  match q.unacked.findIdx? (fun m => m.seq == seq) with
  | none => s
  | some i =>
    foldState (fun (m : HostMsg) => finish m.ch m.h stOK (be2 m.seq)) (q.unacked.take (i + 1))
      (setLane l { q with unacked := q.unacked.drop (i + 1) } s)

/-- HOST_MSG_RESEND: 4 batches without an acknowledgement: the oldest message is sent again with every later one; after 8 sends it
fails (R238). -/
def hostResend (l : Nat) (s : State) : State :=
  let q := lane s l
  let out := q.unacked.filter (fun m => decide (8 ≤ m.sends))
  let keep := (q.unacked.filter (fun m => decide (m.sends < 8))).map (fun m => { m with due := true })
  foldState (fun (m : HostMsg) => finish m.ch m.h stFAILED []) out (setLane l { q with unacked := keep } s)

/-- HOST_MSG_RESEND (R238). -/
def execHostMsgResend (c : Nat) (l : Nat) (s : State) : Host.Outcome State Fault Refusal :=
  run c (fun s => if laneLive s l && laneState s l == lUP then hostResend l s else s) s

/-! ## Received messages (R236, R237) -/

structure LaneMsg where
  type : Nat
  seq  : Nat
  data : List Byte

/-- The messages of an area in order; one whose HCRC fails ends it. -/
def areaMsgs : Nat → List Byte → List LaneMsg
  | 0, _ => []
  | k + 1, a =>
    let n := num a 2 2
    let b := a.take (6 + n)
    if num a 0 1 = 0 ∨ a.length < 8 + n ∨ num a (6 + n) 2 ≠ crc16 b then []
    else { type := num a 0 1, seq := num a 4 2, data := sub a 6 n } :: areaMsgs k (a.drop (8 + n))

/-- One message of a valid frame in MODE `mode`. A lane in UP answers CAPS: always one from CAPS, and one of a RUN frame where it differs
from the record held (DESIGN CHOICE, log entry 101). -/
def takeMsg (l : Nat) (det : Int) (mode : Nat) (m : LaneMsg) (s : State) : State :=
  let st := laneState s l
  let q := lane s l
  match m.type with
  | 1 =>
    if lRANGE ≤ st then setLane l { q with answers := q.answers ++ [(m.data.take 2, batch s, det)] } s else s
  | 2 => takeExchange l (num m.data 0 2) (num m.data 2 4) det s
  | 3 =>
    if st < lRANGE then s
    else if num m.data 0 1 = (if l < 8 then 1 else 2) then
      let t := setLane l { q with capsRx := m.data.take 24 } s
      if st = lUP then
        let u := if l < 8 then judgeMap l t else t
        if mode = 2 ∨ q.capsRx ≠ m.data.take 24 then sendCaps l u else u
      else capsDone l t
    else if q.capsShard then s
    else send (laneSrc l) (laneNo l) 3 11 0 (setLane l { q with capsShard := true } s)
  | 4 => if st = lUP then takeHost l m.seq m.data s else s
  | 5 => takeAck l (num m.data 0 2) s
  | _ => s

/-! ## A trunk frame (R232 to R236, R239, R247, R249) -/

/-- TRUNK_LOST (R247). -/
def execTrunkLost (c : Nat) (l : Nat) (s : State) : Host.Outcome State Fault Refusal :=
  run c (fun s => if laneLive s l && laneState s l == lUP then loseTrunk l s else s) s

/-- Is a lane of a claim pair? -/
def paired (s : State) (l : Nat) : Bool :=
  match laneDef s.oven l with
  | some d => d.pair
  | none => false

def partner (l : Nat) : Nat := l + 1 - 2 * (l % 2)

/-- The highest claim seen is kept by a lane, and by its pair as one value (R249, R250). -/
def setHigh (l v : Nat) (s : State) : State :=
  let t := setF (fTL_CLAIM_HIGH l) v s
  if paired s l then setF (fTL_CLAIM_HIGH (partner l)) v t else t

/-- OFFS of a lane, which is one value in a pair (R250). -/
def setOffs (l v : Nat) (s : State) : State :=
  let t := setF (fTL_OFFS_OFFS l) v s
  if paired s l ∧ (lane s (partner l)).offsSet then setF (fTL_OFFS_OFFS (partner l)) v t else t

/-- A slip (R248): a late frame raises OFFS by 1; for an early one the oldest that waits is dropped, and OFFS falls by 1. -/
def slip (l : Nat) (late : Bool) (s : State) : State :=
  let q := lane s l
  let offs := getF s (fTL_OFFS_OFFS l)
  let t := setOffs l (if late then (offs + 1) % 2 ^ 32 else (offs + (2 ^ 32 - 1)) % 2 ^ 32) s
  send 9 l 3 8 0 (bump (fTL_CNT_SLIP l)
    (setLane l { q with buffered := if late then q.buffered else q.buffered.dropLast, ranging := true, exch := [] } t))

/-- TRUNK_SLIP (R248). -/
def execTrunkSlip (c : Nat) (l : Nat) (late : Bool) (s : State) : Host.Outcome State Fault Refusal :=
  run c (fun s => if laneLive s l && laneState s l == lUP then slip l late s else s) s

/-- Signed distance of two batch numbers, modulo 2^32. -/
def batchDiff (a b : Word) : Int := (a - b).toInt

/-- A valid RUN frame's payload waits for its boundary (R242, R243, R248, R250), newest first. -/
def bufferFrame (l : Nat) (f : TrunkFrame) (claim : Nat) (bt : Word) (s : State) : State :=
  let q := lane s l
  let s1 :=
    if q.offsSet then s
    else
      let o := batch s + BitVec.ofInt 32 (deliveryBatch f.det) - bt
      let p := partner l
      let big := if paired s l ∧ (lane s p).offsSet ∧ batchDiff o (BitVec.ofNat 32 (getF s (fTL_OFFS_OFFS p))) < 0
        then BitVec.ofNat 32 (getF s (fTL_OFFS_OFFS p)) else o
      setF (fTL_WAIT_WAIT l) (waitOf f.det) (setOffs l big.toNat (setLane l { q with offsSet := true } s))
  let s2 := if 2 ≤ (lane s1 l).buffered.length then slip l false s1 else s1
  let q2 := lane s2 l
  setLane l { q2 with buffered := { batch := bt, claim := claim, payload := f.payload } :: q2.buffered } s2

/-- Commas of a lane in TRAIN, four in a row, lead to EQ; four missing in UP lose it (R239, R247). -/
def takeComma (l : Nat) (comma : Bool) (s : State) : State :=
  let st := laneState s l
  let q := lane s l
  if st = lTRAIN then
    let k := if comma && laneLocked s l then q.commas + 1 else 0
    let t := setLane l { q with commas := k } s
    if 4 ≤ k then setLaneState l lEQ (setLane l { q with commas := 0 } t) else t
  else if st = lUP then
    let k := if comma then 0 else q.commas + 1
    let t := setLane l { q with commas := k } s
    if 4 ≤ k ∧ l < 8 then loseTrunk l t else t
  else s

/-- TRUNK_FRAME (R234 to R249). -/
def trunkFrame (l : Nat) (f : TrunkFrame) (s0 : State) : State :=
  if !laneLive s0 l ∨ laneState s0 l = lOFF then s0
  else
    let s := when_ f.comma (bumpN (fTL_CNT_CODE l) f.fillErrs) (takeComma l f.comma s0)
    let hdr := f.comma && f.header.length == 14 && num f.header 12 2 == crc16 (f.header.take 12)
    if !hdr then s
    else
      let mode := num f.header 6 1 % 4
      let claim := num f.header 0 2
      let bt := w4 f.header 2
      let s1 := setF (fTL_PEER_NODE_ID l) (num f.header 8 4) s
      let up := laneState s1 l == lUP
      if mode ≠ 1 ∧ !f.crcOk then
        send 9 l 3 6 0 (bump (fTL_CNT_CRCE l) (setLane l { lane s1 l with bad := (lane s1 l).bad + b01 up } s1))
      else if !f.kOk ∨ !f.crcOk ∨ mode < 2 then s1
      else
        let high := getF s1 (fTL_CLAIM_HIGH l)
        if claimHigher high claim then s1
        else
          let s2 := setF (fTL_CLAIM_LAST l) claim (setHigh l claim s1)
          -- a valid LINK frame holds no payload, and is neither invalid nor missing
          let s3 := if !up then s2 else if mode = 3 then bufferFrame l f claim bt s2 else setLane l { lane s2 l with bad := (lane s2 l).bad + 1 } s2
          foldState (takeMsg l f.det mode) (areaMsgs 1024 f.msgs) s3

/-- TRUNK_FRAME (R234). -/
def execTrunkFrame (c : Nat) (l : Nat) (f : TrunkFrame) (s : State) : Host.Outcome State Fault Refusal := run c (trunkFrame l f) s

/-- CLAIM_CLEAR_TIMEOUT: 1 s without a frame on the lane or its pair (R249). -/
def execClaimClearTimeout (c : Nat) (l : Nat) (s : State) : Host.Outcome State Fault Refusal :=
  run c (fun s => if laneLive s l then setHigh l 0 s else s) s

/-! ## Delivery (R242 to R246, R250) -/

/-- The lanes whose map and transit entries a lane serves: its own, and its pair's (R250). -/
def mapLanes (s : State) (l : Nat) : List Nat := if paired s l then [l, partner l] else [l]

/-- The receive map of a lane: channel and slot. -/
def rxMap (s : State) (l : Nat) : List (Nat × Nat) :=
  (mapLanes s l).flatMap fun k => match laneDef s.oven k with
    | some d => d.rx
    | none => []

/-- The channels a lane receives: mapped ones and transit ones. -/
def rxChans (s : State) (l : Nat) : List Nat :=
  ((rxMap s l).map (·.1) ++ (s.oven.transits.filter (fun t => (mapLanes s l).contains t.rxLane)).map (·.rxChan)).eraseDups

/-- The slot of a received channel. -/
def rxSlot (s : State) (l c : Nat) : Option Nat := ((rxMap s l).find? (fun e => e.1 == c)).map (·.2)

/-- A channel's rate: its slot's; a channel in transit alone is taken as a Core one (log entry 22). -/
def rxRate (s : State) (l c : Nat) : Nat :=
  match rxSlot s l c with
  | some a => (slotDef s.oven a).rate
  | none => 1

/-- A channel's format: its slot's; a channel in transit alone is taken as FP32 (log entry 22). -/
def rxFp (s : State) (l c : Nat) : Bool :=
  match rxSlot s l c with
  | some a => (slotDef s.oven a).fp32
  | none => true

/-- The gain of a hold at Core sample `t` of a batch before which `held` have passed (R245): 24 repeats, then 48 samples of fade. -/
def holdGain (held t : Nat) : Word := if held + t < 24 then fpOne else fadeOutAt 48 (held + t - 24)

/-- A delivered word of a channel, at Core sample `t`; `last` is the channel's anchor. -/
def deliverWord (fp : Bool) (q : LaneSt) (live : Option Word) (last : Word) (t : Nat) : Word :=
  match live with
  | none => scaleWord fp (holdGain q.held t) last
  | some x =>
    let x1 := scaleWord fp (rampSample q.fade t) x
    let k := rampSample q.cross t
    if k = fpOne then x1
    else
      let a := if fp then last else int24ToFp last
      let b := if fp then x1 else int24ToFp x1
      let m := blend k a b
      if fp then m else (fpToInt24 m).w

/-- The last sample delivered of every channel: where a hold or a return begins (R245). -/
def anchorNow (s : State) (l : Nat) : Cells Word :=
  (rxChans s l).foldl (fun m c => setT 0 m c (getT 0 (lane s l).current (c * 8 + (if rxRate s l c = 0 then 3 else 7)))) []

/-- The words of a lane (or of a pair's obeyed lane) for the new batch; `q` carries the ramps and the anchors. FP32 words pass the ingress check
(R26, R235); a Half channel has four words (R232). -/
def deliverLane (l : Nat) (q : LaneSt) (frame : Option RxFrame) (s : State) : State :=
  let go (acc : Cells Word × Nat) (e : Nat × Nat) : Cells Word × Nat :=
    let c := e.1
    let fp := rxFp s l c
    let rate := rxRate s l c
    let live : Option SatRes := frame.map fun f =>
      let x := getT 0 f.payload (c * 8 + e.2)
      if fp then ingress x else { w := x, sat := false }
    let v := if rate = 0 ∧ 4 ≤ e.2 then 0 else deliverWord fp q (live.map (·.w)) (getT 0 q.anchor c) (coreSample rate e.2)
    (setT 0 acc.1 (c * 8 + e.2) v, acc.2 + (match live with
      | some g => b01 g.sat
      | none => 0))
  let r := ((rxChans s l).flatMap (fun c => (List.range 8).map (fun w => (c, w)))).foldl go ([], 0)
  let n : LaneSt := if frame.isSome then { q with current := r.1, held := 0, fade := rampAdvance 8 q.fade, cross := rampAdvance 8 q.cross, ingress := q.ingress + r.2 }
    else { q with current := r.1, held := q.held + 8 }
  let t := setLane l n s
  foldState (fun c u =>
    match rxSlot u l c with
    | some a => foldState (fun w v => setSlotWord a w (fadedWord v a w (getT 0 r.1 (c * 8 + w))) v) (List.range 8) u
    | none => u) (rxChans s l) t

/-- The frame that a lane in UP has for batch `b`. -/
def gotFrame (s : State) (l : Nat) (b : Word) : Option RxFrame :=
  if laneState s l = lUP then (lane s l).buffered.find? (fun f => f.batch + BitVec.ofNat 32 (getF s (fTL_OFFS_OFFS l)) == b) else none

/-- The frame that is delivered: none while the lane is isolated (R341), and none in Standby (R252). -/
def dueFrame (s : State) (l : Nat) (b : Word) : Option RxFrame :=
  if (lane s l).isolated ∨ inStandby s then none else gotFrame s l b

/-- A batch in UP without a frame is counted once: an invalid frame was counted when it came (R245, R253). -/
def countMissing (b : Word) (l : Nat) (s : State) : State :=
  let q := lane s l
  if laneState s l ≠ lUP ∨ !q.offsSet ∨ (gotFrame s l b).isSome then s
  else if 0 < q.bad then setLane l { q with bad := q.bad - 1 } s
  else bump (fTL_CNT_CRCE l) s

/-- Frames whose boundary has come leave the buffer. -/
def dropDue (l : Nat) (b : Word) (s : State) : State :=
  let q := lane s l
  setLane l { q with buffered := q.buffered.filter (fun f =>
    decide (0 < batchDiff (f.batch + BitVec.ofNat 32 (getF s (fTL_OFFS_OFFS l))) b)) } s

/-- No sample has been delivered since UP, or since MAPOK became 1 (R245). -/
def firstDue (q : LaneSt) : Bool := q.fade == fadeIn64

/-- A lane (or the obeyed lane of a pair) at a boundary: live, zero with MAPOK = 0, or held (R244, R245). -/
def laneDeliver (l : Nat) (frame : Option RxFrame) (s : State) : State :=
  let q := lane s l
  let was := getF s (fTL_STS_HOLD l)
  if getF s (fTL_STS_MAPOK l) = 0 ∧ laneState s l = lUP ∧ !inStandby s then
    deliverLane l { q with anchor := [], fade := steady fpZero, cross := steady fpOne } (some { batch := 0, claim := 0, payload := [] }) s
      |> fun t => setLane l { lane t l with fade := q.fade } (setF (fTL_STS_HOLD l) 0 t)
  else
    match frame with
    | some f =>
      let q1 :=
        if was = 1 ∧ !firstDue q then
          if q.held < 72 then { q with anchor := anchorNow s l, cross := { start := fpZero, target := fpOne, len := 16, pos := 0 } }
          else { q with fade := { start := fpZero, target := fpOne, len := 16, pos := 0 } }
        else q
      deliverLane l q1 (some f) (setF (fTL_STS_HOLD l) 0 s)
    | none =>
      if q.current = [] ∧ was = 0 ∧ !q.offsSet then s
      else deliverLane l (if was = 0 then { q with anchor := anchorNow s l, held := 0 } else q) none (setF (fTL_STS_HOLD l) 1 s)

/-- The pair of lanes 2k and 2k + 1 chooses by claim and delivers (R250). -/
def pairDeliver (k : Nat) (b : Word) (s : State) : State :=
  let ob := 2 * k + (if (getF s fTRUNK_STAT_CLAIMSEL).testBit k then 1 else 0)
  let ot := partner ob
  let own := getF s (fTL_CLAIM_LAST ob)
  match dueFrame s ob b, dueFrame s ot b with
  | some f, some g =>
    if claimHigher g.claim f.claim then swap k ob ot (some g) s else laneDeliver ob (some f) s
  | none, some g => if claimHigher g.claim own then swap k ob ot (some g) s else laneDeliver ob none s
  | some f, none => laneDeliver ob (some f) s
  | none, none => laneDeliver ob none s
where
  /-- The obeyed lane changes; the pair's ramps and held words go with it. -/
  swap (k ob ot : Nat) (f : Option RxFrame) (s : State) : State :=
    let q := lane s ob
    let t := setLane ot { lane s ot with current := q.current, anchor := q.anchor, held := q.held, fade := q.fade, cross := q.cross } s
    let u := setF (fTL_STS_HOLD ot) (getF s (fTL_STS_HOLD ob)) (setF (fTL_STS_HOLD ob) 0 t)
    laneDeliver ot f (send 9 ot 3 3 0 (setMaskBit fTRUNK_STAT_CLAIMSEL k (ot % 2 == 1) u))

/-- Every trunk input at the boundary that begins batch `b`. -/
def trunkDeliver (b : Word) (s : State) : State :=
  let t := foldState (fun k u =>
    if paired u (2 * k) then pairDeliver k b u
    else laneDeliver (2 * k + 1) (dueFrame u (2 * k + 1) b) (laneDeliver (2 * k) (dueFrame u (2 * k) b) u)) [0, 1, 2, 3] s
  foldState (fun l u => dropDue l b (countMissing b l u)) (List.range 8) t

/-- Payload resumes with the fade-in of R245 when Standby ends (R252). -/
def resumeTrunks (s : State) : State :=
  foldState (fun l t =>
    if laneState t l = lUP then
      setF (fTL_STS_HOLD l) 0 (setLane l { lane t l with current := [], anchor := [], held := 0, bad := 0, fade := fadeIn64, cross := steady fpOne } t)
    else t) (List.range 8) s

/-- TRUNK_HOLD_EXPIRY: 24 samples have been held, and the fade to zero begins (R245). -/
def execTrunkHoldExpiry (c : Nat) (l : Nat) (s : State) : Host.Outcome State Fault Refusal :=
  run c (fun s =>
    if laneLive s l && getF s (fTL_STS_HOLD l) == 1 && decide ((lane s l).held < 24) then setLane l { lane s l with held := 24 } s else s) s

/-! ## Sent frames (R232, R233, R237, R246) -/

/-- What a lane sends in a batch. -/
def laneMode (s : State) (l : Nat) : Nat :=
  let st := laneState s l
  if st = lTRAIN ∨ st = lEQ then 1
  else if st = lRANGE ∨ st = lCAPS then 2
  else if inStandby s ∨ getF s fKILN_STAT_SAFE = 1 then 0 else 3

/-- HOST messages that fit an area, in order, after `room` bytes are left. -/
def fitMsgs : Nat → List HostMsg → List HostMsg
  | _, [] => []
  | room, m :: t => if m.due then (if m.bytes.length + 8 ≤ room then m :: fitMsgs (room - (m.bytes.length + 8)) t else []) else fitMsgs room t

/-- The message area of a frame, and the lane after sending it. -/
def sendArea (s : State) (l : Nat) : List Byte × LaneSt :=
  let q := lane s l
  let req := if q.ranging then laneMsg 1 0 (be2 (batch s).toNat) else []
  -- TB = T3 − T2: from the detection of the request to the launch of this frame (R241)
  let rsp (e : List Byte × Word × Int) : List Byte :=
    laneMsg 2 0 (e.1 ++ beWord (BitVec.ofInt 32 (204800 * (batch s - e.2.1).toInt - e.2.2)))
  let caps := if q.capsTx then laneMsg 3 0 (capsRecord s l) else []
  let ack := if q.ackDue then laneMsg 5 0 (be2 q.recvSeq) else []
  let head := req ++ q.answers.flatMap rsp ++ caps ++ ack
  let host := if laneState s l = lUP then fitMsgs (8192 - head.length) q.unacked else []
  let sent (m : HostMsg) : Bool := host.any (fun h => h.seq == m.seq)
  (head ++ host.flatMap (fun m => laneMsg 4 m.seq m.bytes),
   { q with answers := [], capsTx := false, capsOut := q.capsOut || q.capsTx, ackDue := false,
            unacked := q.unacked.map (fun m => if sent m then { m with due := false, sends := m.sends + 1 } else m) })

/-- The payload of batch `j`: the words of batch j − 1 in the mapped slots, and transit words of batch j (R232, R246). -/
def lanePayload (s : State) (l : Nat) : Cells Word :=
  let fromSlots := match laneDef s.oven l with
    | some d => d.tx.flatMap (fun e => (List.range 8).map (fun w =>
        let fp := (slotDef s.oven e.2).fp32
        (e.1 * 8 + w, scaleWord fp (rampSample s.pwr.txFade w) (((getT [] s.outBuf e.2)[w]?).getD 0))))
    | none => []
  let fromTransit := (s.oven.transits.filter (fun t => t.txLane == l)).flatMap (fun t => (List.range 8).map (fun w =>
    (t.txChan * 8 + w, scaleWord (rxFp s t.rxLane t.rxChan) (rampSample s.pwr.txFade w) (getT 0 (lane s (obeyedLane s t.rxLane)).current (t.rxChan * 8 + w)))))
  (fromSlots ++ fromTransit).foldl (fun m e => setT 0 m e.1 e.2) []
where
  obeyedLane (s : State) (l : Nat) : Nat :=
    if paired s l then 2 * (l / 2) + (if (getF s fTRUNK_STAT_CLAIMSEL).testBit (l / 2) then 1 else 0) else l

/-- `n` bytes of the PRBS-15 x^15 + x^14 + 1, most significant bit first; bit 14 of the register leaves it (R233, log entry 100). -/
def prbsBit (r : Nat) : Nat := r * 2 % 32768 + (if r.testBit 14 != r.testBit 13 then 1 else 0)
def prbsBytes : Nat → Nat → List Byte
  | 0, _ => []
  | n + 1, r =>
    let rs := (List.range 8).map (fun i => iter prbsBit i r)
    byteOf (rs.foldl (fun a x => 2 * a + b01 (x.testBit 14)) 0) :: prbsBytes n (iter prbsBit 8 r)

/-- The K-codes of R230 and R232. -/
def k28_5 : Sym := .k 0xBC
def k28_1 : Sym := .k 0x3C
def k27_7 : Sym := .k 0xFB
def k29_7 : Sym := .k 0xFD
def k23_7 : Sym := .k 0xF7

/-- The 81,920 symbols of a frame (R230, R232, R233). K27.7 enters the CRC-32 as its byte (log entry 102). -/
def trunkSymbols (f : TxFrame) : List Sym :=
  let h := be2 f.claim ++ beWord f.batch ++ [byteOf (f.mode + 4 * f.lane), byteOf (b01 f.twin + 2 * b01 f.stby)] ++ beWord f.node
  let head := [k28_5, k28_1] ++ (h ++ be2 (crc16 h)).map Sym.d
  let body :=
    if f.mode = 1 then (prbsBytes 73749 0x7FFF).map Sym.d
    else
      let payload := (List.range 16384).flatMap (fun k => beWord (getT 0 f.payload k))
      let msgs := (f.msgs ++ zeros 8192).take 8192
      (zeros 16 ++ payload).map Sym.d ++ [k27_7] ++ msgs.map Sym.d ++ (be4 (crc32 (payload ++ 0xFB :: msgs))).map Sym.d
  head ++ body ++ k29_7 :: List.replicate 8154 k23_7

/-- A lane sends the frame of the batch that begins. -/
def sendTrunk (l : Nat) (s : State) : State :=
  if laneState s l = lOFF then s
  else
    let mode := laneMode s l
    let a := sendArea s l
    let live := mode == 2 || mode == 3
    let f : TxFrame := { lane := l, claim := claimSent s, batch := batch s, mode := mode, twin := inPair s,
                         stby := getF s fTWIN_STAT_ROLE == 2, node := BitVec.ofNat 32 (getF s fTRUNK_NODE_NODE_ID),
                         payload := if mode = 3 then lanePayload s l else [], msgs := if live then a.1 else [] }
    let t := emit (.trunk l (trunkSymbols f)) (if live then setLane l a.2 s else s)
    capsDone l t

def sendTrunks (s : State) : State := foldState sendTrunk (List.range 8) s

/-! ## Resets and maps (R244, R252) -/

/-- A Unit reset of TRUNK: every lane to OFF, then to TRAIN when EN = 1. -/
def trunkRestart (s : State) : State :=
  foldState (fun l t => if getF t (fTL_CTL_EN l) = 1 then trainLane l (offLane l t) else offLane l t) (List.range 8) s

/-- After a Control reset the lanes in TRAIN to CAPS restart at TRAIN (R252). -/
def trunkHelperRestart (s : State) : State :=
  foldState (fun l t => if 1 ≤ laneState t l ∧ laneState t l ≤ lCAPS then trainLane l t else t) (List.range 8) s

/-- A Control reset discards queued HOST messages (R252). -/
def dropHostMsgs (s : State) : State :=
  foldState (fun l t => setLane l { lane t l with unacked := [] } t) (List.range 8) s

/-- A full commit sends CAPS on the lanes in UP whose LINKMAP changes (R244), a first commit on every lane in UP (R413); TRUNK_XIT
shows the new map. -/
def trunkNewMap (old : Bake) (s : State) : State :=
  let map (b : Bake) (l : Nat) : Nat := match laneDef b l with
    | some d => d.linkmap.toNat
    | none => 0
  foldState (fun l t => if laneState t l = lUP ∧ (old.trays.isEmpty ∨ map old l ≠ map t.oven l) then sendCaps l (judgeMap l t) else t) (List.range 8)
    (setF fTRUNK_XIT_ENTRIES s.oven.transits.length s)

/-! ## Commands (R255) -/

/-- A lane follows EN (R239). -/
def followEn (l : Nat) (s : State) : State :=
  if getF s (fTL_CTL_EN l) = 1 then (if laneState s l = lOFF then setLaneState l lTRAIN s else s) else offLane l s

/-- RESTART returns an enabled lane to TRAIN (R253). -/
def restartLane (l : Nat) (s : State) : State := if getF s (fTL_CTL_EN l) = 1 then trainLane l s else s

/-- TRUNK_ENABLE (R255): the action is fixed by the row. -/
def opTrunkEnable (r : Req) (mask0 action : Nat) (s : State) : State :=
  let ls := maskList 8 mask0
  let act := if action = 2 then ls.filter (fun l => getF s (fTL_CTL_EN l) == 1) else ls
  command r 0x0700 []
    (fun s =>
      let t := foldState (fun l t =>
        if action = 0 then followEn l (setF (fTL_CTL_EN l) 1 t)
        else if action = 1 then followEn l (setF (fTL_CTL_EN l) 0 t)
        else restartLane l t) act s
      replyOK r 0x0700 [byteOf (act.foldl (fun m l => m + 2 ^ l) 0)] t) s

/-- TRUNK_ENABLE action 0 (R255). -/
def execTrunkEnable (r : Req) (mask : Nat) (s : State) : Host.Outcome State Fault Refusal := run r.c (opTrunkEnable r mask 0) s
/-- TRUNK_ENABLE action 1 (R255). -/
def execTrunkDisable (r : Req) (mask : Nat) (s : State) : Host.Outcome State Fault Refusal := run r.c (opTrunkEnable r mask 1) s
/-- TRUNK_ENABLE action 2 (R255). -/
def execTrunkRestart (r : Req) (mask : Nat) (s : State) : Host.Outcome State Fault Refusal := run r.c (opTrunkEnable r mask 2) s

/-- RESTART: a write of 1 to TLl_CTL.RESTART (R253). -/
def execRestart (c : Nat) (_m : Master) (l : Nat) (s : State) : Host.Outcome State Fault Refusal := run c (ifRunning (restartLane l)) s

/-- A write of TLl_CTL takes effect: EN, and peaking at once when CTLEAUTO = 0 (R253, R255). -/
def followCtl (l : Nat) (s : State) : State :=
  let t := if getF s (fTL_CTL_CTLEAUTO l) = 0 then setF (fTL_STS_CTLEF l) (getF s (fTL_CTL_CTLE l)) s else s
  followEn l t

/-- MASK bits 0 to 4 select CTLEAUTO, CTLE, TXAMP, DEEMPH, EN: as bits over the word's fields in order (R255). -/
def ctlMask (m : Nat) : Nat := m % 16 * 2 + m / 16 % 2

def lanesNamed (l : Nat) : List Nat := if l = 0xFF then List.range 8 else [clampHi 7 l]

def opTrunkSet (r : Req) (l mask : Nat) (word : Word) (s : State) : State :=
  let ls := lanesNamed l
  command r 0x0701 []
    (fun s =>
      let t := foldState (fun k t =>
        followCtl k (storeWords [rTL_CTL k] (applyWords [rTL_CTL k] 0 (ctlMask mask) [word.toNat] (heldWords t [rTL_CTL k])) t)) ls s
      replyOK r 0x0701 (be4 (peekReg t (rTL_CTL (ls.headD 0)))) t) s

/-- TRUNK_SET (R255). -/
def execTrunkSet (r : Req) (l mask : Nat) (word : Word) (s : State) : Host.Outcome State Fault Refusal :=
  run r.c (opTrunkSet r l mask word) s

def opTrunkStatus (r : Req) (l0 clear : Nat) (s : State) : State :=
  let l := clampHi 7 l0
  command r 0x0702 []
    (fun s =>
      let t := replyOK r 0x0702
        ([rTL_STS l, rTL_RANGE l, rTL_WAIT l, rTL_OFFS l, rTL_PEER l, rTL_CNT l, rTL_CLAIM l].flatMap (fun a => be4 (peekReg s a)) ++
          be4 (lane s l).ingress ++ ((lane s l).capsRx ++ zeros 24).take 24) s
      if 1 ≤ clear then setF (fTL_CNT_CRCE l) 0 (setF (fTL_CNT_CODE l) 0 (setF (fTL_CNT_SLIP l) 0 (setF (fTL_CNT_DOWN l) 0 t))) else t) s

/-- TRUNK_STATUS (R255). -/
def execTrunkStatus (r : Req) (l clear : Nat) (s : State) : Host.Outcome State Fault Refusal := run r.c (opTrunkStatus r l clear) s

def opTrunkRange (r : Req) (l0 : Nat) (s : State) : State :=
  let l := clampHi 7 l0
  command r 0x0703 [handleLimit r s, notNowIf (laneState s l != lUP) 9, busyIf (lane s l).ranging]
    (fun s => accept r 0x0703 (.range l) (setLane l { lane s l with ranging := true, exch := [] } s)) s

/-- TRUNK_RANGE (R243, R255). -/
def execTrunkRange (r : Req) (l : Nat) (s : State) : Host.Outcome State Fault Refusal := run r.c (opTrunkRange r l) s

def opTrunkMsgSend (r : Req) (l0 : Nat) (bytes : List Byte) (s : State) : State :=
  let l := clampHi 7 l0
  command r 0x0704 [handleLimit r s, notNowIf (laneState s l != lUP) 9, busyIf (decide (16 ≤ (lane s l).unacked.length))]
    (fun s =>
      let q := lane s l
      let m : HostMsg := { seq := q.sendSeq, bytes := bytes, sends := 0, due := true, ch := r.ch, h := nextHandle s r.ch }
      accept r 0x0704 (.msgSend l q.sendSeq) (setLane l { q with sendSeq := seqUp q.sendSeq, unacked := q.unacked ++ [m] } s)) s

/-- TRUNK_MSG_SEND (R238, R255). -/
def execTrunkMsgSend (r : Req) (l : Nat) (bytes : List Byte) (s : State) : Host.Outcome State Fault Refusal :=
  run r.c (opTrunkMsgSend r l bytes) s

def opTrunkMsgRead (r : Req) (s : State) : State :=
  command r 0x0705 []
    (fun s =>
      match s.msgs with
      | [] => replyOK r 0x0705 (zeros 4) s
      | (l, b) :: t => replyOK r 0x0705 ([byteOf l, 0] ++ be2 b.length ++ b) { s with msgs := t }) s

/-- TRUNK_MSG_READ (R238, R255). -/
def execTrunkMsgRead (r : Req) (s : State) : Host.Outcome State Fault Refusal := run r.c (opTrunkMsgRead r) s

def opTrunkClaimClr (r : Req) (mask : Nat) (s : State) : State :=
  command r 0x0706 [] (fun s => replyOK r 0x0706 [] (foldState (fun l => setHigh l 0) (maskList 8 mask) s)) s

/-- TRUNK_CLAIM_CLR (R249, R255). -/
def execTrunkClaimClr (r : Req) (mask : Nat) (s : State) : Host.Outcome State Fault Refusal := run r.c (opTrunkClaimClr r mask) s

/-- The link opcodes (R255). -/
def parseTrunk (r : Req) (op : Nat) (p : List Byte) : Parse :=
  match op with
  | 0x0700 =>
    lenIs 4 p (match n1 p 1 with
      | 0 => .trunkEnable r (n1 p 0)
      | 1 => .trunkDisable r (n1 p 0)
      | _ => .trunkRestart r (n1 p 0))
  | 0x0701 => lenIs 8 p (.trunkSet r (n1 p 0) (n2 p 2) (w4 p 4))
  | 0x0702 => lenIs 4 p (.trunkStatus r (n1 p 0) (n1 p 1))
  | 0x0703 => lenIs 4 p (.trunkRange r (n1 p 0))
  | 0x0704 => lenCount 4 1 1 4000 (n2 p 2) p (.trunkMsgSend r (n1 p 0) (p.drop 4))
  | 0x0705 => lenIs 0 p (.trunkMsgRead r)
  | 0x0706 => lenIs 4 p (.trunkClaimClr r (n1 p 0))
  | _ => .unknown

end Sys2Proof.Machine
end

