-- ==== Sys2Proof/Machine/Clock.lean ====
section
/-! DEFINITION. The Clock Unit (R278 to R303): qualification, selection, the loop's states, holdover, steering, the outputs and
alignment, and the clock commands. -/
namespace Sys2Proof.Machine

open Sys2Proof

def kFREE : Nat := 0
def kLOCKING : Nat := 1
def kLOCKED : Nat := 2
def kBANKED : Nat := 3
def kOPEN : Nat := 4

def eOFF : Nat := 0
def eNOSIG : Nat := 1
def eMEASURE : Nat := 2
def eWTR : Nat := 3
def eQUAL : Nat := 4
def eSOFT : Nat := 5
def eDEMOTED : Nat := 6
def eDISQ : Nat := 7

/-! ## Entries and sources (R278, R286) -/

def clkState (s : State) : Nat := getF s fCLK_STAT_STATE
def entState (s : State) (e : Nat) : Nat := getF s (fCLK_STS_STATE e)
def entSource (s : State) (e : Nat) : Nat := getF s (fCLK_CFG_SOURCE e)
def entType (s : State) (e : Nat) : Nat := getF s (fCLK_CFG_TYPE e)
def entFreq (s : State) (e : Nat) : Int := getFI s (fCLK_STS_FREQ e)
def entRank (s : State) (e : Nat) : Nat := getF s (fCLK_CFG_RANK e)
def dcoWord (s : State) : Int := getFI s fCLK_FREQ_FREQ
def bankWord (s : State) : Int := getFI s fCLK_BANK_BANK

/-- The pair of type 3: an even REF pin with the odd one after it. -/
def isPps (s : State) (e : Nat) : Bool := entType s e == 3 && (entSource s e == 0 || entSource s e == 2)

/-- Does an entry act: enabled, the lowest enabled one of its source, and not the odd pin of a pair in use (R278, R286)? -/
def acting (s : State) (e : Nat) : Bool :=
  getF s (fCLK_CFG_EN e) == 1 &&
  !((List.range e).any fun i => getF s (fCLK_CFG_EN i) == 1 && entSource s i == entSource s e) &&
  !((List.range 16).any fun i => getF s (fCLK_CFG_EN i) == 1 && isPps s i && entSource s e == entSource s i + 1)

/-- The entry that acts for a source. -/
def entOfSource (s : State) (src : Nat) : Option Nat := (List.range 16).find? (fun e => acting s e && entSource s e == src)

/-- A lane's recovered clock is offered from EQ on while the lane is locked (R231); other sources as the detector says. -/
def sourceUp (s : State) (src : Nat) (sig : Bool) : Bool :=
  if 4 ≤ src ∧ src ≤ 11 then sig && laneLocked s (src - 4) && decide (lEQ ≤ laneState s (src - 4))
  else if src = 12 then sig && hasTwin s && [8, 9, 10, 11].any (fun l => laneLocked s l && decide (lEQ ≤ laneState s l))
  else sig

/-- The kinds of alignment instant (R278, R298): none, a word clock of period p, a PPS or PTP second, a lane. -/
inductive AlignKind where
  | none | word (period : Nat) | second | lane (l : Nat)
  deriving DecidableEq, Repr

def alignKind (s : State) (e : Nat) : AlignKind :=
  let src := entSource s e
  if src ≤ 3 then
    match entType s e with
    | 0 => .word 51200
    | 1 => .word 25600
    | 2 => .none
    | _ => if isPps s e then .second else .none
  else if src ≤ 11 then .lane (src - 4)
  else if src = 13 then .second else .none

/-- A phase brought into the symmetric range of its period (R298). -/
def wrapPhase (p : Nat) (x : Int) : Int := (x + (p : Int) / 2) % (p : Int) - (p : Int) / 2

/-- CLK_PHASE of an entry (R298). -/
def phaseOf (s : State) (e : Nat) : Int :=
  let q := ent s e
  match alignKind s e with
  | .none => 0
  | .word p => wrapPhase p q.phase
  | .second => if q.pps then wrapPhase 204800 q.phase else 0
  | .lane l => wrapPhase 204800 ((getF s (fTL_WAIT_WAIT l) : Nat) : Int)

def selected (s : State) : Option Nat := if getF s fCLK_STAT_SELV = 1 then some (getF s fCLK_STAT_SEL) else none

/-! ## The alignment command's end (R299, R300) -/

def isAlign : OpKind → Bool
  | .align _ => true
  | _ => false

/-- A slew stops where it stands: FAILED with the phase moved (R300). -/
def failAlign (s : State) : State :=
  if getF s fCLK_STAT_ALIGNING = 0 then s
  else
    foldState (fun o t => match o.kind with
      | .align p0 => finish o.ch o.h stFAILED ([1, 0, 0, 0] ++ be4 (unsigned 32 (getFI s fCLK_PHASE_PHASE - p0))) t
      | _ => t) (s.ops.filter (fun o => isAlign o.kind)) (setF fCLK_STAT_ALIGNING 0 s)

/-! ## The DCO (R290 to R293) -/

/-- The DCO word, held within ±500 ppm; reaching a limit sends STEER_LIMIT (R293). -/
def setDco (v : Int) (s : State) : State :=
  let k := clampI (-500000000) 500000000 v
  when_ (k.natAbs == 500000000 && k != dcoWord s) (send 2 0 4 10 0) (setFI fCLK_FREQ_FREQ k s)

/-- The DCO word as it stood 2 s before. -/
def wordBefore (s : State) : Int := ((s.clk.hist[19]?).orElse (fun _ => s.clk.hist.getLast?)).getD (dcoWord s)

/-- Into BANKED (R292): BANK at n ≥ 10, else the word of 2 s before. -/
def enterBanked (s : State) : State :=
  let src := match selected s with
    | some e => entSource s e
    | none => s.clk.lastRef
  let w := if 10 ≤ s.clk.n then bankWord s else wordBefore s
  let t := failAlign s
  send 2 0 4 13 0
    { setF fCLK_STAT_SELV 0 (setF fCLK_STAT_STATE kBANKED (setFI fCLK_FREQ_FREQ w t)) with clk := { t.clk with lastRef := src } }

/-- A switch to a reference (R290): φ is absorbed, the switch counts, and the unit is LOCKED at once when the reference lies within
its SOFT limit of the output. With LOOP = 1 the host keeps the word, and a unit that OPEN_TIMEOUT banked, which alone keeps its
selection, waits for the next steer (R294). -/
def switchTo (e : Nat) (s : State) : State :=
  let t0 := failAlign s
  let q := ent t0 e
  let t := setEnt e { q with phi := q.err } t0
  let soft : Int := (getF s (fCLK_LIM_SOFT e) * 100000 : Nat)
  let near := decide (((entFreq s e) * 1000 - dcoWord s).natAbs ≤ soft.natAbs)
  let st := if getF s fCLK_CTL_LOOP = 1 then (if clkState s = kBANKED ∧ (selected s).isSome then kBANKED else kOPEN) else if near then kLOCKED else kLOCKING
  let u := setF fCLK_STAT_SELV 1 (setF fCLK_STAT_SEL e (setF fCLK_STAT_STATE st (setFI fCLK_PHERR_PHERR 0 t)))
  send 2 e 4 3 0 (bump fCLK_CNT_SWITCH { setFI fCLK_PHASE_PHASE (phaseOf u e) u with clk := { u.clk with since := 0, lastRef := entSource s e } })

/-! ## Selection (R284, R285, R296) -/

def good4 (st : Nat) : Bool := st == eQUAL || st == eSOFT
def usable (st : Nat) : Bool := good4 st || st == eDEMOTED

/-- Entries that may be selected by rank: TW never on an active. -/
def eligible (s : State) (e : Nat) : Bool := acting s e && !(getF s fTWIN_STAT_ROLE == 1 && entSource s e == 12)

def candidates (s : State) : List Nat :=
  let g := (List.range 16).filter (fun e => eligible s e && good4 (entState s e))
  if g.isEmpty then (List.range 16).filter (fun e => eligible s e && entState s e == eDEMOTED) else g

/-- The best of a list: highest rank, then closest to BANK, then lowest index (R284, R285). -/
def bestOf (s : State) (l : List Nat) : Option Nat :=
  let dist (e : Nat) : Nat := (entFreq s e * 1000 - bankWord s).natAbs
  l.foldl (fun b e => match b with
    | none => some e
    | some k => if entRank s e < entRank s k ∨ (entRank s e = entRank s k ∧ dist e < dist k) then some e else some k) none

/-- The entry that SELMODE and the role select. -/
def choose (s : State) : Option Nat :=
  let cand := candidates s
  let best := bestOf s cand
  let tw := (List.range 16).find? (fun e => acting s e && entSource s e == 12)
  if s.clk.heldByKiln then none
  else
    match getF s fTWIN_STAT_ROLE == 2, tw with
    | true, some e => if good4 (entState s e) then some e else none
    | _, _ =>
      match getF s fCLK_CTL_SELMODE with
      | 0 =>
        match selected s, best with
        | some c, some b => if cand.contains c ∧ entRank s c ≤ entRank s b then some c else some b
        | _, b => b
      | 1 =>
        match selected s with
        | some c =>
          if eligible s c ∧ good4 (entState s c) then some c
          else if eligible s c ∧ entState s c = eDEMOTED ∧ cand.all (fun k => k == c) then some c
          else best
        | none => best
      | 2 =>
        let m := getF s fCLK_CTL_MANUAL
        if eligible s m ∧ usable (entState s m) then some m else none
      | _ => none

/-- Selection is evaluated (R284, R292). -/
def reselect (s : State) : State :=
  if s.clk.frozen then s
  else
    match choose s with
    | some e => if selected s = some e then s else switchTo e s
    | none =>
      let forced := getF s fCLK_CTL_SELMODE == 3 || getF s fCLK_CTL_SELMODE == 2 || s.clk.heldByKiln
      if (selected s).isSome ∨ (forced ∧ clkState s ≠ kBANKED) then enterBanked s else s

/-! ## Qualification (R282, R283) -/

def setEntState (e v : Nat) (s : State) : State := setF (fCLK_STS_STATE e) v s

/-- A loss (R281, R283): NOSIG, REF_LOS; the selected entry's loss banks the DCO, and a standby's loss of TW sends TW_LOST (R296). -/
def loseEnt (e : Nat) (s : State) : State :=
  if entState s e = eOFF ∨ entState s e = eNOSIG then s
  else
    let sel := selected s == some e
    let t := bump fCLK_CNT_LOS (setEntState e eNOSIG (setEnt e { ent s e with good := 0 } s))
    let u := send 2 e 4 (if sel then 1 else 2) 0 t
    let v := when_ (sel && getF s fTWIN_STAT_ROLE == 2 && entSource s e == 12) (send 2 e 4 12 0) u
    when_ sel enterBanked v

/-- One update of an entry with its frequency f in 0.001 ppm (R282). -/
def qualify (e : Nat) (f : Int) (s : State) : State :=
  let a := f.natAbs
  let soft := getF s (fCLK_LIM_SOFT e) * 100
  let hard := getF s (fCLK_LIM_HARD e) * 1000
  let q := ent s e
  let st := entState s e
  let toWtr (t : State) : State :=
    if getF t (fCLK_WTR_WTR e) = 0 then setEntState e eQUAL t else setEntState e eWTR (setEnt e { ent t e with wtr := 0 } t)
  if eMEASURE ≤ st ∧ st ≠ eDISQ ∧ hard < a then
    send 2 e 4 6 0 (bump fCLK_CNT_DEMOTE (setEntState e eDISQ s))
  else if st = eNOSIG then setEntState e eMEASURE (setEnt e { q with good := 0 } s)
  else if st = eMEASURE then
    if soft < a then setEnt e { q with good := 0 } s
    else if q.good + 1 < 10 then setEnt e { q with good := q.good + 1 } s
    else if q.ever then toWtr (setEnt e { q with good := 0 } s)
    else setEntState e eQUAL (setEnt e { q with good := 0, ever := true } s)
  else if st = eWTR then
    if soft < a then setEntState e eMEASURE (setEnt e { q with good := 0 } s)
    else if q.wtr + 1 < getF s (fCLK_WTR_WTR e) * 10 then setEnt e { q with wtr := q.wtr + 1 } s
    else setEntState e eQUAL s
  else if st = eQUAL then
    if soft < a then send 2 e 4 4 0 (setEntState e eSOFT (setEnt e { q with dwell := 0 } s)) else s
  else if st = eSOFT then
    if a * 10 < soft * 9 then setEntState e eQUAL s
    else if q.dwell + 1 < getF s (fCLK_LIM_DWELL e) then setEnt e { q with dwell := q.dwell + 1 } s
    else send 2 e 4 5 0 (bump fCLK_CNT_DEMOTE (setEntState e eDEMOTED s))
  else if st = eDEMOTED then
    if a * 10 < soft * 9 then toWtr s else s
  else if st = eDISQ then
    if a * 10 < hard * 9 then setEntState e eMEASURE (setEnt e { q with good := 0 } s) else s
  else s

/-- An entry at an update: not acting reads OFF; without a signal it is lost; else it is measured and qualified (R280, R282). -/
def updateEnt (meas : List ClkMeas) (e : Nat) (s : State) : State :=
  if !acting s e then
    if entState s e = eOFF then s else setEntState e eOFF s
  else
    let s0 := if entState s e = eOFF then setEntState e eNOSIG s else s
    match meas.find? (fun m => m.source == entSource s0 e) with
    | none => s0
    | some m =>
      if !sourceUp s0 m.source m.sig then loseEnt e s0
      else
        let f := m.freq - getFI s0 fCLK_XO_XOTRIM
        let q := ent s0 e
        let q1 := { q with err := m.pherr, phase := m.phase, ppsOk := if q.pps then 0 else q.ppsOk + 1, pps := q.pps || decide (99 ≤ q.ppsOk) }
        qualify e f (setFI (fCLK_STS_FREQ e) f (setEnt e q1 s0))

/-- What a pair's count holds once the pair disagrees: more than any DWELL. -/
def apartNow : Nat := 1000

/-- How long entries i < j have differed by more than the limit (R285), in updates; `apartNow` once that is longer than DWELL, until
the difference falls below 0.9 times the limit. Only candidates of equal rank count. -/
def pairApart (s : State) (cand : List Nat) (i j : Nat) : Nat :=
  let diff := (entFreq s i - entFreq s j).natAbs
  let lim := min (getF s (fCLK_LIM_SOFT i)) (getF s (fCLK_LIM_SOFT j)) * 100
  let n := (ent s j).apart.getD i 0
  if !(cand.contains i && cand.contains j && entRank s i == entRank s j) then 0
  else if n = apartNow then (if diff * 10 < lim * 9 then 0 else n)
  else if diff ≤ lim then 0
  else if max (getF s (fCLK_LIM_DWELL i)) (getF s (fCLK_LIM_DWELL j)) < n + 1 then apartNow
  else n + 1

/-- Candidates of equal rank disagree (R285): each pair that begins to is reported and counted. -/
def disagree (s : State) : State :=
  let cand := candidates s
  let row (j : Nat) : List Nat := (List.range j).map (fun i => pairApart s cand i j)
  let fresh (j : Nat) : List Nat :=
    (List.range j).filter (fun i => pairApart s cand i j == apartNow && (ent s j).apart.getD i 0 != apartNow)
  let t := foldState (fun j t =>
    foldState (fun _ u => send 2 j 4 7 0 (bump fCLK_CNT_DISAG u)) (fresh j) (setEnt j { ent t j with apart := row j } t)) (List.range 16) s
  setF fCLK_STAT_DISAGREE (b01 ((List.range 16).any (fun j => (row j).contains apartNow))) t

/-! ## CLOCK_UPDATE (R280, R284, R291) -/

/-- BANK gains the word of 2 s before (R291); the quotient rounds half up (log entry 23). -/
def averageBank (s : State) : State :=
  if clkState s = kLOCKED ∧ 100 ≤ s.clk.since then
    let n := s.clk.n + 1
    let b := bankWord s + roundHalfUp (wordBefore s - bankWord s) (min n (getF s fCLK_CTL_HOLDTAU * 10))
    { setF fCLK_STAT_BANKOK (b01 (decide (600 ≤ n))) (setFI fCLK_BANK_BANK b s) with clk := { s.clk with n := n } }
  else s

/-! ## The loop's figures (R288, R289) -/

/-- What of R288's table an entry has: the default BW code, the ceiling, the acquisition bandwidth in mHz, LOCKTOL in ps. -/
def loopRow (s : State) (e : Nat) : Nat × Nat × Nat × Nat :=
  let src := entSource s e
  if src ≤ 3 then (if entType s e ≤ 1 then (12, 20, 100000, 20000) else (6, 20, 10000, 5000))
  else if src ≤ 11 then (14, 17, 400000, 1000)
  else if src = 12 then (17, 20, 4000000, 1000)
  else (3, 6, 100, 1000000)

/-- The bandwidth of a BW code in mHz. -/
def bwMilli (k : Nat) : Nat := 2 ^ (k % 3) * 10 ^ (k / 3)

/-- The entry's bandwidth in mHz: its BW under the ceiling, or the type's default. -/
def entBandwidth (s : State) (e : Nat) : Nat :=
  let row := loopRow s e
  bwMilli (if getF s (fCLK_CFG_DEFBW e) = 1 then row.1 else min row.2.1 (getF s (fCLK_CFG_BW e)))

/-- The loop's bandwidth in mHz: the acquisition bandwidth in LOCKING, the entry's in LOCKED (R287). -/
def loopBandwidth (s : State) : Option Nat :=
  match selected s with
  | some e => if clkState s = kLOCKING then some (loopRow s e).2.2.1 else if clkState s = kLOCKED then some (entBandwidth s e) else none
  | none => none

/-- Back to LOCKING; the selection stands (R289). -/
def unlock (s : State) : State := send 2 (getF s fCLK_STAT_SEL) 4 8 0 (setF fCLK_STAT_STATE kLOCKING s)

/-- An error above 8 × LOCKTOL unlocks (R289). -/
def checkLock (s : State) : State :=
  match selected s with
  | some e => if clkState s = kLOCKED ∧ 8 * (loopRow s e).2.2.2 < (getFI s fCLK_PHERR_PHERR).natAbs then unlock s else s
  | none => s

/-- What the loop has made of the DCO word (log entry 24): the reference's frequency when LOCKED, an open value while LOCKING; a
slew adds its ALSLEW (R299). -/
def followLoop (s : State) : State :=
  match selected s with
  | none => s
  | some e =>
    let ph := getFI s fCLK_PHASE_PHASE
    let slew : Int := if getF s fCLK_STAT_ALIGNING = 0 then 0
      else (if 0 < ph then 1 else if ph < 0 then -1 else 0) * ((getF s fCLK_CTL_ALSLEW * 1000000 : Nat) : Int)
    if clkState s = kLOCKED then setDco (entFreq s e * 1000 + slew) s
    else if clkState s = kLOCKING then useFree (setDco (clampI (-500000000) 500000000 (freeWord s).toInt) s)
    else s

/-- PHERR and PHASE of the selected entry. A slew moves the loop's target φ with the output, and leaves PHERR (log entry 24). -/
def showPhase (s : State) : State :=
  match selected s with
  | some e =>
    let t := setFI fCLK_PHASE_PHASE (phaseOf s e) s
    if getF s fCLK_STAT_ALIGNING = 1 then setEnt e { ent s e with phi := (ent s e).err - getFI s fCLK_PHERR_PHERR } t
    else setFI fCLK_PHERR_PHERR ((ent s e).err - (ent s e).phi) t
  | none => setFI fCLK_PHASE_PHASE 0 s

/-- The servo's lock, shown for PTP (log entry 25). -/
def showPtp (meas : List ClkMeas) (s : State) : State :=
  match meas.find? (fun m => m.source == 13) with
  | some m => setF fETH_STAT_PTPLOCK (b01 m.sig) s
  | none => s

def clockUpdate (meas : List ClkMeas) (s : State) : State :=
  let r := { s with clk := { s.clk with hist := (dcoWord s :: s.clk.hist).take 20 } }
  let t := foldState (updateEnt meas) (List.range 16) (showPtp meas r)
  let u := averageBank (followLoop (checkLock (showPhase (reselect (disagree t)))))
  { u with clk := { u.clk with since := min 100 (u.clk.since + 1) } }

/-- The Clock Unit runs, in Standby too. -/
def clkLive (s : State) : Bool := s.pwr.phase == .run && !s.kiln.resets.any (fun u => u.unit == 2)

/-- CLOCK_UPDATE (R280, R282, R284, R285, R291). -/
def execClockUpdate (c : Nat) (meas : List ClkMeas) (s : State) : Host.Outcome State Fault Refusal :=
  run c (fun s => if clkLive s then clockUpdate meas s else s) s

/-- REF_LOS: a source is lost; the selected entry's loss banks in hardware, and selection follows (R281, R284). -/
def execRefLos (c : Nat) (source : Nat) (s : State) : Host.Outcome State Fault Refusal :=
  run c (fun s =>
    if clkLive s then
      match entOfSource s source with
      | some e => reselect (loseEnt e (if source = 13 then setF fETH_STAT_PTPLOCK 0 s else s))
      | none => s
    else s) s

/-- PPS_BAD: the entry has no alignment instant until 10 correct edges (R281). -/
def execPpsBad (c : Nat) (e : Nat) (s : State) : Host.Outcome State Fault Refusal :=
  run c (fun s =>
    if clkLive s && acting s e && isPps s e then
      send 2 e 4 9 0 (showPhase (setEnt e { ent s e with pps := false, ppsOk := 0 } s))
    else s) s

/-- CLOCK_LOCKED (R289). -/
def execClockLocked (c : Nat) (s : State) : Host.Outcome State Fault Refusal :=
  run c (fun s => if clkLive s && clkState s == kLOCKING then setF fCLK_STAT_STATE kLOCKED s else s) s

/-- UNLOCK (R289). -/
def execUnlock (c : Nat) (s : State) : Host.Outcome State Fault Refusal :=
  run c (fun s => if clkLive s && clkState s == kLOCKED then unlock s else s) s

/-- Where the model keeps BANK's copy in the retention RAM (log entry 19). -/
def bankAddr : Nat := keepBase + 0x100

/-- BANK_COPY: every second BANK goes to the Keep domain (R291). -/
def execBankCopy (c : Nat) (s : State) : Host.Outcome State Fault Refusal :=
  runMem c (ifRunning fun s => setMemWord bankAddr (getF s fCLK_BANK_BANK) s) s

/-- OPEN_TIMEOUT: 1 s without a steer (R294). -/
def execOpenTimeout (c : Nat) (s : State) : Host.Outcome State Fault Refusal :=
  run c (fun s =>
    if clkLive s && clkState s == kOPEN then
      let sel := getF s fCLK_STAT_SELV
      setF fCLK_STAT_SELV sel (enterBanked (send 2 0 4 11 0 s))
    else s) s

/-- So many units of the PTP counter make 1/65,536 ns, and a second. -/
def ptpFrac : Nat := 3 * 10 ^ 12
def ptpSecond : Nat := 65536 * 10 ^ 9 * ptpFrac

/-- PPSCNT of this batch when the boundary at the PTP second has 0 (R299). -/
def ptpCount (s : State) : Nat := (s.ptp % ptpSecond * 24000 + ptpSecond) / (2 * ptpSecond) % 12000

/-- ALIGN_DONE (R299): the slew has brought CLK_PHASE within ±1 period. The batch of the PPS edge is open (log entry 24). -/
def alignDone (s : State) : State :=
  match selected s, getF s fCLK_STAT_ALIGNING == 1 with
  | some e, true =>
    let t := setFI fCLK_PHASE_PHASE 0 (setF fCLK_STAT_ALIGNING 0 (setEnt e { ent s e with phase := 0, phi := (ent s e).err - getFI s fCLK_PHERR_PHERR } s))
    let u := match alignKind t e with
      | .lane l => setF (fTL_WAIT_WAIT l) 0 t
      | .second =>
        if entSource t e = 13 then setF fCLK_OUT_PPSCNT (ptpCount t) t
        else useFree (setF fCLK_OUT_PPSCNT ((freeWord t).toNat % 12000) t)
      | _ => t
    let origin := batch u - BitVec.ofNat 32 (getF u fCLK_OUT_PPSCNT)
    foldState (fun o v => match o.kind with
      | .align p0 => finish o.ch o.h stOK (be4 (unsigned 32 (-p0)) ++ beWord origin) v
      | _ => v) (u.ops.filter (fun o => isAlign o.kind)) u
  | _, _ => s

/-- ALIGN_DONE (R299). -/
def execAlignDone (c : Nat) (s : State) : Host.Outcome State Fault Refusal := run c (fun s => if clkLive s then alignDone s else s) s

/-- ROOT_UNLOCK: the root PLL loses the DCO (R300). -/
def execRootUnlock (c : Nat) (s : State) : Host.Outcome State Fault Refusal :=
  run c (ifRunning fun s => if getF s fCLK_STAT_ROOTLOCK = 1 then send 2 0 4 14 0 (setF fCLK_STAT_ROOTLOCK 0 s) else s) s

/-- ROOT_LOCK: the root PLL locks to the DCO (R300, R397). -/
def execRootLock (c : Nat) (s : State) : Host.Outcome State Fault Refusal := run c (ifRunning (setF fCLK_STAT_ROOTLOCK 1)) s

/-! ## A boundary (R297) -/

/-- WC_OUT and PPS_OUT at a boundary; a standby holds both low (R327). A pulse of PPSW µs may last into the next two batches. -/
def clockBoundary (s : State) : State :=
  let n := getF s fCLK_OUT_PPSCNT
  let m := if s.clk.first then (n + 1) % 12000 else 0
  let mine := getF s fTWIN_STAT_ROLE != 2
  let pps := mine && getF s fCLK_OUT_PPSEN == 1
  { setF fCLK_OUT_PPSCNT m s with
    clk := { s.clk with first := true, wcOn := mine && getF s fCLK_OUT_WCEN == 1, ppsOn := pps,
                        ppsHigh := pps && decide (m * 250 < 3 * getF s fCLK_OUT_PPSW) } }

/-- The level of WC_OUT in the given RCLK period of the batch: a rising edge at the boundary and at sample boundaries. -/
def wcLevel (s : State) (rclk : Nat) : Bool :=
  let period := if getF s fCLK_OUT_WCRATE = 1 then 25600 else 51200
  s.clk.wcOn && decide (rclk % period < period / 2)

/-! ## Commands (R303) -/

/-- The highest TYPE of a source (R278). -/
def typeMax (src : Nat) : Nat := if src = 1 ∨ src = 3 then 2 else 3

/-- The ceiling of BW (R288). -/
def bwMax (src : Nat) : Nat := if 4 ≤ src ∧ src ≤ 11 then 17 else if src = 13 then 6 else 20

/-- TYPE, BW and HARD after the other fields (R278, R288, R301). -/
def clampCfg (cfg : Nat) : Nat :=
  let src := bits cfg 5 1
  let a := if typeMax src < bits cfg 8 6 then putBits cfg 8 6 (typeMax src) else cfg
  if bwMax src < bits a 18 14 then putBits a 18 14 (bwMax src) else a

def clampLim (lim : Nat) : Nat :=
  let least := (bits lim 11 0 + 9) / 10
  if bits lim 23 12 < least then putBits lim 23 12 least else lim

/-- An entry's configuration has changed (R282, R300): SOURCE or TYPE make it never qualified, and bank when it is selected. -/
def followCfg (e : Nat) (oldCfg : Nat) (s : State) : State :=
  let moved := bits oldCfg 8 1 != getF s (fCLK_CFG_SOURCE e) + 32 * getF s (fCLK_CFG_TYPE e)
  let off := getF s (fCLK_CFG_EN e) == 0
  let t := if moved then setEnt e { ent s e with ever := false, good := 0, pps := true } s else s
  let sel := selected s == some e
  let u := if (moved || off) && sel then enterBanked t else t
  let v := foldState (fun k w => if acting w k then (if entState w k = eOFF ∨ (k = e ∧ moved) then setEntState k eNOSIG w else w)
    else setEntState k eOFF w) (List.range 16) u
  when_ ((moved || off) && sel) reselect v

def clkAddrs (e : Nat) : List Nat := [rCLK_CFG e, rCLK_LIM e, rCLK_WTR e, rCLK_XO]

def opClkTableSet (r : Req) (e0 mask : Nat) (words : List Word) (s : State) : State :=
  let e := clampHi 15 e0
  let old := heldWords s (clkAddrs e)
  let raw := applyWords (clkAddrs e) 0 mask (words.map (·.toNat)) old
  let new := match raw with
    | cfg :: lim :: t => clampCfg cfg :: clampLim lim :: t
    | l => l
  let wants := mask.testBit 1 && bits (words.headD 0).toNat 5 1 == 12
  command r 0x0800 [absentIf (wants && !hasTwin s)]
    (fun s => replyOK r 0x0800 (new.flatMap be4) (followCfg e (old.headD 0) (storeWords (clkAddrs e) new s))) s

/-- CLK_TABLE_SET (R278, R288, R300, R303). -/
def execClkTableSet (r : Req) (e mask : Nat) (words : List Word) (s : State) : Host.Outcome State Fault Refusal :=
  run r.c (opClkTableSet r e mask words) s

/-- LOOP, SELMODE and MANUAL take effect (R284, R294). -/
def followCtlWord (oldLoop : Nat) (s : State) : State :=
  let loop := getF s fCLK_CTL_LOOP
  let t :=
    if oldLoop = 0 ∧ loop = 1 then (if getF s fCLK_CTL_SELMODE = 3 then s else setF fCLK_STAT_STATE kOPEN s)
    else if oldLoop = 1 ∧ loop = 0 then (if (selected s).isSome then setF fCLK_STAT_STATE kLOCKING s else if clkState s = kBANKED then s else enterBanked s)
    else s
  reselect t

def opClkSelect (r : Req) (selmode manual loop alslew holdtau : Nat) (s : State) : State :=
  command r 0x0801 []
    (fun s =>
      let a := clampHi 3 selmode
      let b := clampHi 15 manual
      let l := clampHi 1 loop
      let d := clampN 1 100 alslew
      let h := clampN 10 3600 holdtau
      let old := getF s fCLK_CTL_LOOP
      let t := setF fCLK_CTL_SELMODE a (setF fCLK_CTL_MANUAL b (setF fCLK_CTL_LOOP l (setF fCLK_CTL_ALSLEW d (setF fCLK_CTL_HOLDTAU h s))))
      replyOK r 0x0801 ([byteOf a, byteOf b, byteOf l, 0] ++ be2 d ++ be2 h) (followCtlWord old t)) s

/-- CLK_SELECT (R284, R294, R303). -/
def execClkSelect (r : Req) (selmode manual loop alslew holdtau : Nat) (s : State) : Host.Outcome State Fault Refusal :=
  run r.c (opClkSelect r selmode manual loop alslew holdtau) s

def clearClkCnt (s : State) : State :=
  setF fCLK_CNT_SWITCH 0 (setF fCLK_CNT_LOS 0 (setF fCLK_CNT_DEMOTE 0 (setF fCLK_CNT_DISAG 0 s)))

def opClkStatus (r : Req) (clear : Nat) (s : State) : State :=
  command r 0x0802 []
    (fun s => when_ (decide (1 ≤ clear)) clearClkCnt
      (replyOK r 0x0802 (([rCLK_STAT, rCLK_CTL, rCLK_OUT, rCLK_FREQ, rCLK_BANK, rCLK_PHASE, rCLK_PHERR, rCLK_CNT] ++
        (List.range 16).map (fun e => rCLK_STS e)).flatMap (fun a => be4 (peekReg s a))) s)) s

/-- CLK_STATUS (R303). -/
def execClkStatus (r : Req) (clear : Nat) (s : State) : Host.Outcome State Fault Refusal := run r.c (opClkStatus r clear) s

def opClkAlign (r : Req) (s : State) : State :=
  let noKind := match selected s with
    | some e => alignKind s e == .none
    | none => false
  let noPps := match selected s with
    | some e => isPps s e && !(ent s e).pps
    | none => false
  command r 0x0803
    [handleLimit r s, deniedIf (getF s fTWIN_STAT_ROLE == 2) 8, deniedIf noKind 11, notNowIf (clkState s != kLOCKED || noPps) 10,
     busyIf (getF s fCLK_STAT_ALIGNING == 1)]
    (fun s => accept r 0x0803 (.align (getFI s fCLK_PHASE_PHASE)) (setF fCLK_STAT_ALIGNING 1 s)) s

/-- CLK_ALIGN (R299, R303). -/
def execClkAlign (r : Req) (s : State) : Host.Outcome State Fault Refusal := run r.c (opClkAlign r) s

def opClkSteer (r : Req) (freq : Word) (s : State) : State :=
  command r 0x0804 [notNowIf (getF s fCLK_CTL_LOOP == 0 && getF s fCLK_CTL_SELMODE != 3) 11]
    (fun s =>
      let v := clampI (-500000000) 500000000 freq.toInt
      let t := setFI fCLK_FREQ_FREQ v s
      replyOK r 0x0804 (be4 (unsigned 32 v))
        (if getF s fCLK_CTL_SELMODE = 3 then t else setF fCLK_STAT_STATE kOPEN t)) s

/-- CLK_STEER (R292 to R294, R303). -/
def execClkSteer (r : Req) (freq : Word) (s : State) : Host.Outcome State Fault Refusal := run r.c (opClkSteer r freq) s

def opClkOutSet (r : Req) (word : Word) (s : State) : State :=
  command r 0x0805 []
    (fun s =>
      let t := storeWords [rCLK_OUT] (applyWords [rCLK_OUT] 0 0xF [word.toNat] (heldWords s [rCLK_OUT])) s
      replyOK r 0x0805 (be4 (peekReg t rCLK_OUT)) t) s

/-- CLK_OUT_SET (R297, R303). -/
def execClkOutSet (r : Req) (word : Word) (s : State) : Host.Outcome State Fault Refusal := run r.c (opClkOutSet r word) s

/-- The clock opcodes (R303). -/
def parseClock (r : Req) (op : Nat) (p : List Byte) : Parse :=
  match op with
  | 0x0800 => lenIs 20 p (.clkTableSet r (n1 p 0) (n2 p 2) (wordsAt p 4 4))
  | 0x0801 => lenIs 8 p (.clkSelect r (n1 p 0) (n1 p 1) (n1 p 2) (n2 p 4) (n2 p 6))
  | 0x0802 => lenIs 4 p (.clkStatus r (n1 p 0))
  | 0x0803 => lenIs 0 p (.clkAlign r)
  | 0x0804 => lenIs 4 p (.clkSteer r (w4 p 0))
  | 0x0805 => lenIs 4 p (.clkOutSet r (w4 p 0))
  | _ => .unknown

/-! ## Resets (R300) -/

/-- A Unit reset of CLK: banked for the reset, entries in NOSIG and never qualified. -/
def clkUnitReset (s : State) : State :=
  let t := if clkState s = kBANKED ∧ (selected s).isNone then s else enterBanked s
  foldState (fun e u => setEntState e (if acting u e then eNOSIG else eOFF)
    (setEnt e { ent u e with ever := false, good := 0, wtr := 0, dwell := 0, apart := [] } u)) (List.range 16) t

end Sys2Proof.Machine
end

