-- ==== Sys2Proof/Machine/Eth.lean ====
section
/-! DEFINITION. Ethernet, PTP and AES67 (R256 to R277): reception, flow control, the transmit queues, low-power idle, transmit
timestamps, and the streams. -/
namespace Sys2Proof.Machine

open Sys2Proof

/-! ## Links and the transmit queues (R256, R263, R264) -/

/-- Does a mode allow low-power idle (R256)? -/
def lpiMode (s : State) (n : Nat) : Bool :=
  getF s (fETH_CTL_MODE n) == 2 || (n == 0 && getF s (fETH_CTL_MODE n) == 4)

/-- Does a mode negotiate (R256)? -/
def negotiates (s : State) (n : Nat) : Bool :=
  let m := getF s (fETH_CTL_MODE n)
  m == 1 || m == 2 || (n == 0 && m == 4)

/-- The lanes E0 to E4 that are powered (R256). -/
def ethLanesOn (s : State) : List Nat :=
  let m0 := getF s (fETH_CTL_MODE 0)
  (if m0 = 0 then [] else if m0 ≤ 2 then [0] else [0, 1, 2, 3]) ++ (if getF s (fETH_CTL_MODE 1) = 0 then [] else [4])

/-- May pause be used: as negotiated where the mode negotiates (R256)? -/
def pauseAgreed (s : State) (n : Nat) : Bool := !negotiates s n || (mac s n).pauseOk

/-- A frame without a datagram of its own. -/
def sendFrame (n queue what : Nat) (data : List Byte) (s : State) : State :=
  txSend n { queue := queue, dest := none, owner := none, plain := true, bytes := plainByte what ++ data } s
def sendPlain (n queue what : Nat) (s : State) : State := sendFrame n queue what [] s

/-- The engine's LLDP frame, with its EEE TLV in the modes that allow LPI (R264, R266): transmit, receive and fallback wake times, and the
partner's echoed. It goes out as the link comes up, and in answer to an LLDP frame that brings news (DESIGN CHOICE, log entry 103). -/
def sendLldp (n : Nat) (s : State) : State :=
  sendFrame n 2 6 (if lpiMode s n then
    be2 (Config.eeeWake n 0) ++ be2 (Config.eeeWake n 1) ++ be2 (Config.eeeWake n 1) ++ be2 (mac s n).twReq ++ be2 (mac s n).twReq else []) s

/-- Transmission resumes: the highest non-empty queue sends next (R263, R264). -/
def resumeTx (n : Nat) (s : State) : State :=
  let q := (mac s n).txq
  let order := [7, 6, 5, 4, 3, 2, 1, 0].flatMap (fun k => q.filter (fun i => i.queue == k))
  foldState (putTx n) order (setMac n { mac s n with paused := false, txq := [] } s)

/-! ## Flow control (R262) -/

def rxBytes (m : MacSt) : Nat := (m.rxq.map (·.2)).sum

/-- A pause frame leaves ahead of every queue; it carries no tag and needs no pause to end (R259, R262). -/
def sendPause (n quanta : Nat) (s : State) : State :=
  bump (fETH_CNT2_PTX n) (emit (.pause n quanta) (setMaskBit fETH_STAT_LPI n false s))

/-- The rule of R262 at a buffer fill in bytes; `half`: half the pause time sent has passed. -/
def flowRule (n fill : Nat) (half : Bool) (s : State) : State :=
  let m := mac s n
  let q := getF s (fETH_WM_PQUANTA n)
  if !macUp s n then s
  else if getF s (fETH_CTL_TXPAUSE n) = 1 ∧ pauseAgreed s n ∧ !m.asserted ∧ getF s (fETH_WM_HIGH n) * 262144 ≤ fill * 100 then
    sendPause n q (setMac n { m with asserted := true } s)
  else if m.asserted ∧ fill * 100 ≤ getF s (fETH_WM_LOW n) * 262144 then
    sendPause n 0 (setMac n { m with asserted := false } s)
  else if m.asserted ∧ half then sendPause n q s
  else s

/-- FILL changes: the register, its PEAK, and the flow rule (R262, R276). FILL shows whole KiB. -/
def fillNow (n fill : Nat) (s : State) : State :=
  let k := fill / 1024
  flowRule n fill false
    (setF (fETH_FILL_PEAK n) (max k (getF s (fETH_FILL_PEAK n))) (setF (fETH_FILL_FILL n) k s))

/-- PAUSE_SEND: the check of R262 as time passes. -/
def execPauseSend (c : Nat) (n : Nat) (half : Bool) (s : State) : Host.Outcome State Fault Refusal :=
  run c (ifRunning fun s => flowRule n (rxBytes (mac s n)) half s) s

/-- A pause frame is received (R263). -/
def takePause (n quanta : Nat) (s : State) : State :=
  let t := bump (fETH_CNT2_PRX n) s
  if getF s (fETH_CTL_RXPAUSE n) = 0 ∨ !pauseAgreed s n then t
  else if quanta = 0 then resumeTx n t
  else setMac n { mac t n with paused := true } t

/-- PAUSE_RECEIVED (R263). -/
def execPauseReceived (c : Nat) (n quanta : Nat) (s : State) : Host.Outcome State Fault Refusal :=
  run c (ifRunning fun s => if macUp s n then takePause n quanta s else s) s

/-- PAUSE_EXPIRY (R263). -/
def execPauseExpiry (c : Nat) (n : Nat) (s : State) : Host.Outcome State Fault Refusal :=
  run c (ifRunning fun s => if (mac s n).paused then resumeTx n s else s) s

/-! ## The PTP counter and transmit timestamps (R267, R268, R270) -/

/-- PTP is the Clock Unit's selected reference. -/
def ptpSelected (s : State) : Bool :=
  match selected s with
  | some e => entSource s e == 13
  | none => false

/-- The counter's step for one RCLK period, in units of 1 / (3 × 65,536 × 10^12) ns: 625 / 1,536 ns, and the adder's parts per trillion
where PTP is not selected (R267). -/
def ptpStep (s : State) : Nat := 80000 * (10 ^ 12 + (if ptpSelected s then 0 else s.ptpAdj)).toNat

/-- The counter holds 48 bits of seconds. -/
def setPtp (t : Int) (s : State) : State := { s with ptp := (t % (2 ^ 48 * ptpSecond : Nat)).toNat }

/-- The counter at the present cycle; `ptp` is its value at the start of the batch. -/
def ptpNow (s : State) : Nat := s.ptp + 2 * s.cycle * ptpStep s

/-- The counter at the start of the batch in RCLK periods of PTP time. -/
def ptpRclk (s : State) : Nat := s.ptp / (80000 * 10 ^ 12)

/-- A batch passes. -/
def advancePtp (s : State) : State := setPtp ((s.ptp + 204800 * ptpStep s : Nat) : Int) s

/-- The firmware corrects the counter: in phase while PTP is selected, else it rates it within ±500 ppm in steps of 1 ppt (R267). The
amounts are open (log entry 26). -/
def correctPtp (s : State) : State :=
  if ptpSelected s then
    let a := freeWord s
    let b := freeWord (useFree s)
    let c := freeWord (useFree (useFree s))
    setPtp ((s.ptp : Int) + (a.toInt * 2 ^ 64 + b.toNat * 2 ^ 32 + c.toNat) * ptpFrac) (useFree (useFree (useFree s)))
  else useFree { s with ptpAdj := clampI (-500000000) 500000000 (freeWord s).toInt }

/-- A timestamp: the instant less ETH_PTP.ASYM (R268; the sign is that of IEEE 1588, PRESUMED, log entry 104), in the fields of R270. -/
def stampOf (seqId mtype n : Nat) (gap : Bool) (lost : Nat) (s : State) : Stamp :=
  let t : Nat := (((ptpNow s : Int) - getFI s fETH_PTP_ASYM * (65536 * ptpFrac : Nat)) % (2 ^ 48 * ptpSecond : Nat)).toNat
  { seqId := seqId, mtype := mtype, mac := n, gap := gap, lost := lost, sec := t / ptpSecond, ns := t % ptpSecond / (65536 * ptpFrac),
    frac := t / ptpFrac % 65536 }

def addStamp (seqId mtype n : Nat) (s : State) : State :=
  if 64 ≤ s.stamps.length then bump fETH_TSQ_OVF { s with stLost := s.stLost + 1 }
  else
    { s with stLost := 0,
             stamps := s.stamps ++ [stampOf seqId mtype n (decide (0 < s.stLost)) (min 255 s.stLost) s] }

/-- A Control reset or a Unit reset of ETH empties the queue; the emptied entries count in LOST of the next one (R270). -/
def emptyStamps (s : State) : State := { s with stamps := [], stLost := s.stLost + s.stamps.length }

/-! ## AES67 streams (R271 to R274) -/

def aesDef (b : Bake) (owner : Nat) : Option AesDef := b.aes.find? (fun a => a.owner == owner)
def isRx (owner : Nat) : Bool := decide (0x10 ≤ owner) && decide (owner ≤ 0x4F)
def isTx (owner : Nat) : Bool := decide (0x50 ≤ owner) && decide (owner ≤ 0x8F)

/-- RCLK periods of one sample on the network (R267, R273). -/
def aesPeriod (a : AesDef) : Nat := if a.rate96 then 25600 else 51200

/-- Samples of a packet (R271). -/
def packetSamples (a : AesDef) : Nat := (if a.rate96 then 96 else 48) * a.packetUs / 1000

/-- Samples a stream moves in a batch: a synchronous stream at 48 kHz uses Half-domain slots (R271). -/
def aesBatch (a : AesDef) : Nat := if a.asrc || a.rate96 then 8 else 4

def streamOn (s : State) (owner : Nat) : Bool := (stream s owner).set.enable == 1 && (stream s owner).stopped == 0

/-- PTP is the selected reference, or the Clock Unit is banked with PTP as its last one (R273). -/
def ptpRules (s : State) : Bool :=
  ptpSelected s || ((selected s).isNone && clkState s == kBANKED && s.clk.lastRef == 13)

/-- The histories of AES67 converters. -/
def aesHist (owner ch : Nat) : Nat := 4000 + owner * 64 + ch

/-- The nominal rate of a stream's network side, in Hz, and its tracker's ratio; nominal until LOCK. -/
def aesHz (a : AesDef) : Nat := if a.rate96 then 96000 else 48000
def aesRatio (s : State) (a : AesDef) : Nat := if asrcLocked s a.owner then asrcRatio s a.owner else ratioOf (aesHz a) 1 1

/-- Store a sample of a stream at a position. -/
def putAes (owner p : Nat) (vs : List Word) (s : State) : State :=
  let x := stream s owner
  setStream owner { x with buf := vs.zipIdx.foldl (fun m e => cput m (streamKey (p % 2 ^ 32) e.2) e.1) x.buf } s

/-- The place a sample of a stream is compared with: Core positions for a converted stream. -/
def corePos (a : AesDef) (p : Nat) : Nat := if a.asrc && !a.rate96 then 2 * p % 2 ^ 32 else p

/-- A sample is stale, early, or stored (R169, R272), by the position `p` at which it would play; 20 ms is the buffer's depth. -/
def judgeSample (a : AesDef) (p : Nat) (store : State → State) (s : State) : State :=
  let x := stream s a.owner
  let ahead := (p + 2 ^ 32 - playPos s a.owner % 2 ^ 32) % 2 ^ 32
  let depth := if a.asrc || a.rate96 then 1920 else 960
  if 2 ^ 31 ≤ ahead then setStream a.owner { x with stale := x.stale + 1 } s
  else if depth < ahead then setStream a.owner { x with early := x.early + 1 } s
  else store s

/-- Core samples for each network sample, in units of 2^−30: by the tracker's ratio; in a bundle the positions are those of the RTP timestamps,
at their nominal rate (R168, R273). -/
def corePer (s : State) (a : AesDef) : Nat :=
  if (bundleOf s.oven a.owner).isSome then (if a.rate96 then 2 ^ 30 else 2 ^ 31) else 2 ^ 60 / max 1 (aesRatio s a)

/-- A converted stream takes the network sample at position `p` (R161, R273): the Core samples that fall between the one before and it are
made, at the places that follow those made before; missing samples leave theirs out. One that does not lie ahead is stale. Before LOCK the
converter only fills. The first one after LOCK sets the stream's ASRC position, DELAY behind it. -/
def convertAes (a : AesDef) (p : Nat) (ws : List Word) (s0 : State) : State :=
  let x0 := stream s0 a.owner
  let d := (p + 2 ^ 32 - x0.inPos) % 2 ^ 32
  if x0.seqIn ∧ (d = 0 ∨ 2 ^ 31 ≤ d) then setStream a.owner { x0 with stale := x0.stale + 1 } s0
  else
    let s := foldState (fun e u => setBridgeHist (aesHist a.owner e.2) (pushHist e.1 (bridgeHist u (aesHist a.owner e.2))) u) ws.zipIdx
      (setStream a.owner { x0 with inPos := p, seqIn := true } s0)
    let x := stream s a.owner
    if !asrcLocked s a.owner then s
    else
      let bundled := (bundleOf s.oven a.owner).isSome
      let per := corePer s a
      let fresh := !x.asrcOn
      let gap := if fresh ∨ bundled then 0 else (d - 1) * per
      let from_ := if fresh then 0 else if bundled then 0 else x.outFrac + gap % 2 ^ 30
      let at0 := if bundled then corePos a p else if fresh then 0 else (x.outPos + gap / 2 ^ 30 + from_ / 2 ^ 30) % 2 ^ 32
      let f0 := from_ % 2 ^ 30
      let n := (f0 + per) / 2 ^ 30
      let y : StreamSt := { x with asrcOn := true, outPos := (at0 + n) % 2 ^ 32, outFrac := (f0 + per) % 2 ^ 30,
                                   pos := if fresh ∧ !bundled then (at0 + 2 ^ 32 - corePos a x.set.delay) % 2 ^ 32 else x.pos }
      foldState (fun (j : Nat) u =>
        -- the newest network sample stands f0 + per − (j + 1) 2^30 after this Core sample
        let age := inputSamples (aesRatio u a) (asrcDelay (ownerFraction u a.owner)) +
          ((f0 + per : Nat) - ((j : Int) + 1) * 2 ^ 30) * 2 ^ 32 / (max 1 per : Nat)
        let vs := (List.range ws.length).map (fun ch => asrcOut (BitVec.ofNat 32 (aesRatio u a)) (24 + j) (max 0 age) (bridgeHist u (aesHist a.owner ch)))
        judgeSample a ((at0 + j) % 2 ^ 32) (putAes a.owner (at0 + j) vs) u) (List.range n) (setStream a.owner y s)

/-- One sample of a packet. -/
def takeAesSample (a : AesDef) (p : Nat) (ws : List Word) (s : State) : State :=
  let fs := ws.map (fun w => int24ToFp (if a.l24 then w &&& 0xFFFFFF00 else w &&& 0xFFFF0000))
  if a.asrc then convertAes a p fs s else judgeSample a p (putAes a.owner p fs) s

/-- A stream that has waited for its first packet acquires (R273). -/
def acquireAes (owner : Nat) (s : State) : State :=
  let x := stream s owner
  if x.state = 1 then setStream owner { x with state := 2 } s else s

/-- The receive stream that a packet matches (R272). -/
def rtpStream (s : State) (n : Nat) (p : RtpPacket) : Option AesDef :=
  s.oven.aes.find? (fun a =>
    let f := (stream s a.owner).set
    isRx a.owner && a.mac == n && streamOn s a.owner && f.group == p.group && f.udpPort == p.port && f.pt == p.pt &&
      (f.ssrc == 0 || f.ssrc == p.ssrc))

/-- A packet of a stream (R272). -/
def takeRtp (a : AesDef) (p : RtpPacket) (s : State) : State :=
  let x := stream s a.owner
  let gap := x.seqOk && (x.seq + 1) % 65536 != p.seq % 65536
  let t := setStream a.owner { x with packets := (x.packets + 1) % 2 ^ 32, gaps := x.gaps + b01 gap, seq := p.seq % 65536, seqOk := true, lastTs := p.ts } s
  let p0 := (p.ts - x.set.rtpOff).toNat
  let u := acquireAes a.owner t
  foldState (fun e v => takeAesSample a ((p0 + e.2) % 2 ^ 32) e.1 v) p.samples.zipIdx u

/-- A receive stream fades to zero over 16 samples and shows NOREF (R273). -/
def noRef (owner : Nat) (s : State) : State :=
  let x := stream s owner
  if x.state = 0 ∨ x.state = 5 then s
  else setStream owner { x with state := 5, fade := rampTo fpZero 16 (if x.state = 3 then steady fpOne else x.fade) } s

/-- A receive stream's converter starts anew. -/
def stopConverter (owner : Nat) (s : State) : State :=
  if isRx owner then setStream owner { stream s owner with asrcOn := false, seqIn := false, outFrac := 0 } (unlockAsrc owner s) else s

/-- Low-power idle ends where one of its conditions has (R266). -/
def lpiFollow (n : Nat) (s : State) : State :=
  let tx := s.oven.aes.any (fun a => a.mac == n && isTx a.owner && (stream s a.owner).set.enable == 1)
  if lpiMode s n && getF s (fETH_CTL_EEE n) == 1 && getF s (fETH_EEE_AGREED n) == 1 && (inStandby s || !tx) then s
  else setMaskBit fETH_STAT_LPI n false s

/-- A stream restarts its acquisition (R275). -/
def restartStream (owner : Nat) (s0 : State) : State :=
  let s := stopConverter owner s0
  let x := stream s owner
  setStream owner { x with state := if x.set.enable = 0 then 0 else if isTx owner then 3 else 1, buf := [], seqOk := if isTx owner then x.seqOk else false,
                           fade := if isTx owner then steady fpOne else { start := fpZero, target := fpZero, len := 0, pos := 0 } } s

/-- An IGMPv3 membership report for a multicast group (R272). -/
def reportGroup (owner : Nat) (s : State) : State :=
  match aesDef s.oven owner with
  | some a => if isRx owner && streamOn s owner && isMulticast (stream s owner).set.group then sendPlain a.mac 3 3 s else s
  | none => s

/-- AES_STREAM_SET at its boundary: the stream restarts its acquisition (R275, R277). -/
def applyAes (owner : Nat) (f : AesFields) (s : State) : State :=
  if (aesDef s.oven owner).isNone then s
  else
    let t := restartStream owner (setStream owner { stream s owner with set := f } s)
    let u := lpiFollow 1 (lpiFollow 0 (reportGroup owner t))
    match bundleOf u.oven owner with
    | some a => refreshUnderrun a.bundle u
    | none => u

/-- The fade of AES67 transmission on the way into Standby (R352). -/
def aesFade (s : State) (w : Nat) : Word := if s.pwr.standby = .awake then fpOne else rampSample s.pwr.txFade w

/-- The samples a transmit stream takes in a batch, by their place in PTP time (R274): `t0` is the counter at the first of them. -/
def fillTx (a : AesDef) (t0 : Nat) (s : State) : State :=
  if !streamOn s a.owner then s
  else
    let n := aesBatch a
    let s1 := if a.asrc then
        foldState (fun w u => foldState (fun e v =>
          setBridgeHist (aesHist a.owner e.2) (pushHist (playWord v e.1 a.release w) (bridgeHist v (aesHist a.owner e.2))) v) a.slots.zipIdx u) (List.range 8) s
      else s
    let m := if a.rate96 then 8 else 4
    let word (w ch slot : Nat) : Word :=
      scaleWord true (aesFade s1 (w * (8 / m)))
        -- the newest Core sample is the last of the batch, 7 − (8 / m) w after this one
        (if a.asrc then asrcOut (BitVec.ofNat 32 (aesRatio s1 a)) (16 + w)
            ((asrcDelay (ownerFraction s1 a.owner) + (7 - (8 / m * w : Nat) : Int) * 25600) * 2 ^ 32 / 25600) (bridgeHist s1 (aesHist a.owner ch))
         else playAt s1 n slot a.release w)
    let p0 := t0 / aesPeriod a
    let x := stream s1 a.owner
    let kept := x.buf.filter (fun e => decide (p0 ≤ e.1 / 64 + 1920))
    setStream a.owner { x with buf := (List.range m).foldl (fun b w => a.slots.zipIdx.foldl (fun b2 e => cput b2 (streamKey (p0 + w) e.2) (word w e.2 e.1)) b) kept } s1

/-- A sample on the network: L24 sends the int24 word, L16 rounds half up at bit 15 and saturates (R274). -/
def aesWord (a : AesDef) (v : Word) : List Byte :=
  let i := int24Val (fpToInt24 v).w
  if a.l24 then beBytes 3 (unsigned 24 i)
  else
    let h := (i + 128) / 256
    beBytes 2 (unsigned 16 (if 32767 < h then 32767 else h))

/-- An RTP packet of a transmit stream (R274). -/
def aesPacket (a : AesDef) (t0 : Nat) (x : StreamSt) : List Byte :=
  let p0 := t0 / aesPeriod a
  let ts := (p0 + x.set.rtpOff.toNat) % 2 ^ 32
  [0x80, byteOf x.set.pt] ++ be2 x.seq ++ be4 ts ++ beWord x.set.ssrc ++
    (List.range (packetSamples a)).flatMap (fun i => (List.range a.slots.length).flatMap (fun ch => aesWord a (getT 0 x.buf (streamKey (p0 + i) ch))))

/-- May AES67 packets leave (R274, R275, R342, R352)? -/
def aesSends (s : State) : Bool :=
  !(getF s fTWIN_STAT_ROLE == 2) && getF s fKILN_STAT_SAFE == 0 &&
    (match s.pwr.standby with
     | .awake => true
     | .entering _ => !(s.pwr.txFade.target == fpZero && rampLeft s.pwr.txFade == 0)
     | _ => false)

def sendAes (owner ptpTime : Nat) (s : State) : State :=
  match aesDef s.oven owner with
  | none => s
  | some a =>
    if isTx owner && streamOn s owner && aesSends s && macUp s a.mac then
      let x := stream s owner
      let p0 := ptpTime / aesPeriod a
      let t := setStream owner { x with seq := (x.seq + 1) % 65536, packets := (x.packets + 1) % 2 ^ 32,
                                        lastTs := BitVec.ofNat 32 (p0 + x.set.rtpOff.toNat) } s
      txSend a.mac { queue := 6, dest := some ⟨x.set.group, BitVec.ofNat 16 x.set.udpPort⟩, owner := some owner, plain := false, bytes := aesPacket a ptpTime x } t
    else s

/-- AES_PACKET_SEND: a packet whose first sample has PTP time `ptpTime`, in RCLK periods (R274). -/
def execAesPacketSend (c : Nat) (owner ptpTime : Nat) (s : State) : Host.Outcome State Fault Refusal :=
  run c (ifRunning (sendAes owner ptpTime)) s

/-- AES_PACKET_LATE: the oldest packet of the stream still queued is dropped and counted (R274). -/
def lateAes (owner : Nat) (s : State) : State :=
  match aesDef s.oven owner with
  | none => s
  | some a =>
    let m := mac s a.mac
    match m.txq.findIdx? (fun i => i.owner == some owner) with
    | some k => bump (fETH_CNT2_LATE a.mac) (setMac a.mac { m with txq := m.txq.eraseIdx k } s)
    | none => s

def execAesPacketLate (c : Nat) (owner : Nat) (s : State) : Host.Outcome State Fault Refusal :=
  run c (ifRunning (lateAes owner)) s

/-- A receive stream outside the bundles plays its samples of a batch (R273): a synchronous one by PTP time, `t0` at the first. -/
def playAes (t0 : Nat) (a : AesDef) (s : State) : State :=
  let s0 := if a.asrc || ptpRules s then
      (if (stream s a.owner).state = 5 then setStream a.owner { stream s a.owner with state := 4, fade := steady fpZero } s else s)
    else noRef a.owner s
  let x := stream s0 a.owner
  if x.state = 0 ∨ x.state = 1 ∨ (a.asrc ∧ !x.asrcOn) ∨ (bundleOf s.oven a.owner).isSome then s0
  else
    let n := aesBatch a
    let p0 := if a.asrc then x.pos else (t0 / aesPeriod a + 2 ^ 32 - x.set.delay % 2 ^ 32) % 2 ^ 32
    let t := foldState (fun w u => playSample a.owner ((p0 + w) % 2 ^ 32) w u) (List.range n) (setStream a.owner { x with pos := p0 } s0)
    setStream a.owner { stream t a.owner with pos := (p0 + n) % 2 ^ 32 } t

/-- Every AES67 stream at a boundary; `t0` is the PTP counter at the first sample of the batch. -/
def aesBoundary (t0 : Nat) (s : State) : State := foldState (playAes t0) (s.oven.aes.filter (fun a => !isTx a.owner)) s

/-- The trackers of converted streams show what they measure, and their fractions are updated (R160, R161). -/
def followStreams (s : State) : State :=
  foldState (fun a t => when_ (a.asrc && asrcLocked t a.owner) (followAsrc a.owner (aesHz a)) t) s.oven.aes s

/-- Every transmit stream takes the samples of the batch that ends (R274). -/
def aesOutputs (t0 : Nat) (s : State) : State := foldState (fun a => fillTx a t0) (s.oven.aes.filter (fun a => isTx a.owner)) s

/-! ## The loss of a link (R275) -/

/-- A receive stream of a MAC that has lost its link underruns, and its tracker has nothing to measure. -/
def loseStream (owner : Nat) (s0 : State) : State :=
  let s := stopConverter owner s0
  let x := stream s owner
  if x.state = 3 then underrun owner s
  else if x.state = 2 then setStream owner { x with state := 1 } s
  else s

def macStreams (s : State) (n : Nat) (p : Nat → Bool) : List Nat := (s.oven.aes.filter (fun a => a.mac == n && p a.owner)).map (·.owner)

/-- Link loss: receive streams underrun, packets waiting are dropped uncounted, pause state clears (R275). -/
def loseMacLink (n : Nat) (s : State) : State :=
  if macUp s n then
    foldState loseStream (macStreams s n isRx)
      (fillNow n 0 (setMaskBit fETH_STAT_LPI n false (setMaskBit fETH_STAT_LINK n false
        (setMac n { mac s n with asserted := false, paused := false, txq := [], rxq := [] } s))))
  else s

/-- ETH_LINK (R275): a loss sends a LINK shard of kind ETH_LINK; a link needs its MAC enabled. Where the mode negotiates, `full` and `pause` are
what it gave: half duplex is never accepted (R256). -/
def ethLink (n : Nat) (up full pause : Bool) (s : State) : State :=
  if up then
    if getF s (fETH_CTL_EN n) = 1 ∧ getF s (fETH_CTL_MODE n) ≠ 0 ∧ (full ∨ !negotiates s n) ∧ !s.kiln.resets.any (fun u => u.unit == 10) then
      sendLldp n (setMac n { mac s n with pauseOk := pause } (setMaskBit fETH_STAT_LINK n true s))
    else s
  else if macUp s n then send 10 n 3 13 0 (loseMacLink n s)
  else s

def execEthLink (c : Nat) (n : Nat) (k : LinkChange) (s : State) : Host.Outcome State Fault Refusal :=
  run c (ifRunning (ethLink n k.up k.full k.pause)) s

/-- A write of ETHm_CTL: a MAC turned off or given another mode loses its link (R256), clearing EEE ends low-power idle (R266), and clearing
TXPAUSE while asserted sends pause (0) (R262). -/
def followEthCtl (n oldMode : Nat) (s : State) : State :=
  let t := lpiFollow n <| if getF s (fETH_CTL_EN n) = 0 ∨ getF s (fETH_CTL_MODE n) ≠ oldMode then loseMacLink n s else s
  if getF t (fETH_CTL_TXPAUSE n) = 0 ∧ (mac t n).asserted then sendPause n 0 (setMac n { mac t n with asserted := false } t) else t

/-- Unit reset of ETH: both links drop, streams are handled as for link loss, the timestamp queue empties (R275). -/
def ethUnitReset (s : State) : State := emptyStamps (loseMacLink 1 (loseMacLink 0 s))

/-- Level 2 for ETH (R341): the streams of a MAC fade out over 16 samples and stop, for class `cls`. -/
def stopStreams (n cls : Nat) (on : Bool) (s : State) : State :=
  foldState (fun o t =>
    let x := stream t o
    if on then
      setStream o { x with stopped := x.stopped ||| 2 ^ cls, state := if x.set.enable = 0 then 0 else if x.state = 3 ∧ isRx o then 4 else x.state,
                           fade := if x.state = 3 then rampTo fpZero 16 (steady fpOne) else x.fade } t
    else if x.stopped = 2 ^ cls then restartStream o (setStream o { x with stopped := 0 } t)
    else setStream o { x with stopped := maskAndNot x.stopped (2 ^ cls) } t) (macStreams s n (fun _ => true)) s

/-! ## Reception (R259 to R261) -/

def vidGood (s : State) (n : Nat) (vid : Option Nat) : Bool :=
  match vid with
  | none => true
  | some v => v == getF s (fETH_CTL_VID n)

/-- The longest accepted frame (R260). -/
def maxFrame (s : State) (n : Nat) (tagged : Bool) : Nat :=
  if getF s (fETH_CTL_JUMBO n) = 1 then 9216 else if tagged then 1522 else 1518

/-- The channel that a datagram to a port of a MAC belongs to (R39): channel 1 before channel 2. -/
def udpChan (s : State) (n port : Nat) : Option Nat :=
  if getF s fHOST_UDP1_EN = 1 ∧ getF s fHOST_UDP1_MAC = n ∧ getF s fHOST_UDP1_PORT = port then some 1
  else if getF s fHOST_UDP2_EN = 1 ∧ getF s fHOST_UDP2_MAC = n ∧ getF s fHOST_UDP2_PORT = port then some 2
  else none

/-- Is a frame one that the engine dispatches (R261)? -/
def dispatches (s : State) (n : Nat) : EthBody → Bool
  | .arp _ _ => true
  | .icmpEcho len => decide (len ≤ 1472)
  | .igmpQuery => true
  | .udpCommand p => (udpChan s n p.toNat).isSome
  | .ptp _ _ _ => true
  | .rtp p => (rtpStream s n p).isSome
  | .lldp _ _ => true
  | _ => false

/-- The PTP firmware (R267 to R269): a slave answers a Sync with Delay_Req and reads its timestamp when the Delay_Resp arrives; a
master answers Delay_Req. A measured sample corrects the counter. -/
def takePtp (n mtype seqId : Nat) (sample : Option Int) (s : State) : State :=
  if getF s fETH_PTP_EN = 0 then s
  else
    let master := getF s fETH_PTP_MASTER == 1 && getF s fTWIN_STAT_ROLE != 2 && getF s fETH_STAT_PTPLOCK == 0
    let t :=
      if mtype = 0 then addStamp seqId 1 n (sendPlain n 7 4 s)
      else if mtype = 1 then (if master then sendPlain n 5 5 s else s)
      else if mtype = 9 then { s with stamps := s.stamps.filter (fun e => !(e.mac == n && e.seqId == seqId)) }
      else s
    match sample with
    | some _ => correctPtp t
    | none => t

/-- The partner's wake time and agreement, from LLDP (R266); TWRES shows at most 1,023 µs. -/
def takeLldp (n twReq : Nat) (echoed : Bool) (s : State) : State :=
  let news := twReq != (mac s n).twReq || !echoed
  when_ news (sendLldp n) <| lpiFollow n <| setF (fETH_EEE_AGREED n) (b01 (echoed && lpiMode s n))
    (setF (fETH_EEE_TWRES n) (min 1023 twReq) (setMac n { mac s n with twReq := twReq } s))

/-- What a dispatched frame does (R261). A command datagram stays in the buffer until UDP_DATAGRAM takes it. -/
def dispatch (n len : Nat) (b : EthBody) (s : State) : State :=
  match b with
  | .arp request forUs => if request && forUs then sendPlain n 3 1 s else s
  | .icmpEcho _ => sendPlain n 3 2 s
  | .igmpQuery => foldState reportGroup (macStreams s n isRx) s
  | .udpCommand p => setMac n { mac s n with rxq := (mac s n).rxq ++ [(p.toNat, len)] } s
  | .ptp mtype seqId sample => takePtp n mtype seqId sample s
  | .rtp p => match rtpStream s n p with
    | some a => takeRtp a p s
    | none => s
  | .lldp tw echoed => takeLldp n tw echoed s
  | _ => s

/-- A received frame: length, FCS, VID, pause, buffer space, dispatch (R259 to R261). -/
def ethFrame (n : Nat) (f : EthFrame) (s : State) : State :=
  if !macUp s n then s
  else if f.len ≤ 63 then bump (fETH_CNT_RUNT n) s
  else if maxFrame s n f.vid.isSome < f.len then bump (fETH_CNT_LONG n) s
  else if !f.fcsOk then bump (fETH_CNT_FCS n) s
  else if !vidGood s n f.vid then bump (fETH_CNT2_FILT n) s
  else
    match f.body with
    | .pause q => takePause n q s
    | b =>
      let fill := rxBytes (mac s n)
      if 262144 < fill + f.len then bump (fETH_CNT_OVF n) s
      else if !dispatches s n b then bump (fETH_CNT2_FILT n) s
      else
        let t := dispatch n f.len b (fillNow n (fill + f.len) s)
        fillNow n (rxBytes (mac t n)) t

/-- ETH_FRAME (R259 to R261). -/
def execEthFrame (c : Nat) (n : Nat) (f : EthFrame) (s : State) : Host.Outcome State Fault Refusal := run c (ifRunning (ethFrame n f)) s

/-- The frames of a datagram to a port leave the buffer: the first `k` of them. -/
def takeFrames (n port k : Nat) (s : State) : State :=
  let m := mac s n
  let rest := m.rxq.foldl (fun (acc : List (Nat × Nat) × Nat) e =>
    if e.1 = port ∧ acc.2 < k then (acc.1, acc.2 + 1) else (acc.1 ++ [e], acc.2)) ([], 0)
  if rest.2 = 0 then s
  else
    let t := setMac n { m with rxq := rest.1 } s
    fillNow n (rxBytes (mac t n)) t

/-! ## Low-power idle (R266) -/

def lpiAllowed (s : State) (n : Nat) : Bool :=
  macUp s n && lpiMode s n && getF s (fETH_CTL_EEE n) == 1 && getF s (fETH_EEE_AGREED n) == 1 && (mac s n).txq.isEmpty &&
    (inStandby s || (macStreams s n isTx).all (fun o => (stream s o).set.enable == 0))

/-- LPI_ASSERT: the queues have been empty for LPIDLY (R266). -/
def execLpiAssert (c : Nat) (n : Nat) (s : State) : Host.Outcome State Fault Refusal :=
  run c (ifRunning fun s => if lpiAllowed s n then setMaskBit fETH_STAT_LPI n true s else s) s

/-! ## Commands (R277) -/

def clampAes (a : AesDef) (f : AesFields) : AesFields :=
  { f with enable := clampHi 1 f.enable, pt := clampN 96 127 f.pt, udpPort := clampN 1024 65535 f.udpPort,
           delay := clampHi (if a.rate96 then 1920 else 960) f.delay }

def aesBytes (owner : Nat) (f : AesFields) : List Byte :=
  [byteOf owner, byteOf f.enable, byteOf f.pt, 0] ++ beWord f.group ++ be2 f.udpPort ++ be2 f.delay ++ beWord f.rtpOff ++ beWord f.ssrc ++ zeros 4

def opAesStreamSet (r : Req) (owner : Nat) (f : AesFields) (s : State) : State :=
  command r 0x0710 [standbyDenied r s, deniedIf (aesDef s.oven owner).isNone 1, standbyNotNow s]
    (fun s =>
      match aesDef s.oven owner with
      | none => s
      | some a =>
        let g := clampAes a f
        replyOK r 0x0710 (aesBytes owner g) (stage r 0x0710 (aesBytes owner g) [.aes owner g] s)) s

/-- AES_STREAM_SET (R277). -/
def execAesStreamSet (r : Req) (owner : Nat) (f : AesFields) (s : State) : Host.Outcome State Fault Refusal :=
  run r.c (opAesStreamSet r owner f) s

def opAesStreamStatus (r : Req) (owner : Nat) (s : State) : State :=
  command r 0x0711 [deniedIf (aesDef s.oven owner).isNone 1]
    (fun s =>
      let x := stream s owner
      replyOK r 0x0711 ([byteOf x.state, 0, 0, 0] ++ be4 x.packets ++ be4 x.gaps ++ be4 x.stale ++ be4 x.early ++ beWord x.lastTs) s) s

/-- AES_STREAM_STATUS (R277). -/
def execAesStreamStatus (r : Req) (owner : Nat) (s : State) : Host.Outcome State Fault Refusal := run r.c (opAesStreamStatus r owner) s

def opEthStatus (r : Req) (mac0 clear : Nat) (s : State) : State :=
  let n := clampHi 1 mac0
  command r 0x0712 []
    (fun s =>
      let t := replyOK r 0x0712 (be4 (peekReg s (rETH_CTL n)) ++ be4 (peekReg s (rETH_WM n)) ++ be4 (peekReg s (rETH_EEE n)) ++
        be4 (peekReg s (rETH_FILL n)) ++ be4 (peekReg s (rETH_CNT n)) ++ be4 (peekReg s (rETH_CNT2 n)) ++ be2 (mac s n).twReq ++ [0, 0]) s
      if 1 ≤ clear then
        foldState (fun f u => setF f 0 u)
          [fETH_CNT_RUNT n, fETH_CNT_LONG n, fETH_CNT_FCS n, fETH_CNT_OVF n, fETH_CNT2_PTX n, fETH_CNT2_PRX n, fETH_CNT2_FILT n, fETH_CNT2_LATE n,
           fETH_FILL_PEAK n] t
      else t) s

/-- ETH_STATUS (R277). -/
def execEthStatus (r : Req) (n clear : Nat) (s : State) : Host.Outcome State Fault Refusal := run r.c (opEthStatus r n clear) s

/-- What the Ethernet group's opcodes spell (R277). -/
def parseEth (r : Req) (op : Nat) (p : List Byte) : Parse :=
  match op with
  | 0x0710 => lenIs 24 p (.aesStreamSet r (n1 p 0)
      { enable := n1 p 1, pt := n1 p 2, group := w4 p 4, udpPort := n2 p 8, delay := n2 p 10, rtpOff := w4 p 12, ssrc := w4 p 16 })
  | 0x0711 => lenIs 4 p (.aesStreamStatus r (n1 p 0))
  | 0x0712 => lenIs 4 p (.ethStatus r (n1 p 0) (n1 p 1))
  | _ => .unknown

end Sys2Proof.Machine
end

