-- ==== Sys2Proof/Machine/OutBase.lean ====
section
/-! DEFINITION. What the modulator and the protection share (chapters 07, 08): output states, the identification record, the entry
into SAFE, OFF and RUN, and the pilot's fade. -/
namespace Sys2Proof.Machine

open Sys2Proof

/-! ## States (R193) -/

def oOFF : Nat := 0
def oIDENT : Nat := 1
def oTEST : Nat := 2
def oPRECHARGE : Nat := 3
def oARMED : Nat := 4
def oRUN : Nat := 5
def oSAFE : Nat := 6
def oLATCHED : Nat := 7

/-- The states in which a module's switches may act. -/
def isPowered (st : Nat) : Bool := st == oPRECHARGE || st == oARMED || st == oRUN

/-- A calibration runs on the output (PROT_CAL). -/
def calibrating (s : State) (n : Nat) : Bool := (prot s n).cal.isSome

/-- The pilot should stand: SOURCE 1, or a calibration, in RUN (R213, PROT_CAL). -/
def pilotWanted (s : State) (n : Nat) : Bool :=
  outState s n == oRUN && (getF s (fPROT_CFG_SOURCE n) == 1 || calibrating s n)

/-- The pilot fades in or out over 1,024 Double samples when that changes (R213); PILOTON shows it. -/
def aimPilot (n : Nat) (s : State) : State :=
  let q := prot s n
  let t := if pilotWanted s n then fpOne else fpZero
  let r := if q.pilot.target = t then q.pilot else rampTo t 1024 q.pilot
  setF (fPROT_RUN_PILOTON n) (b01 (r.target == fpOne || decide (0 < rampLeft r))) (setProt n { q with pilot := r } s)
where
  b01 (b : Bool) : Nat := if b then 1 else 0

/-- The tracker window in progress is discarded (R212, R224). -/
def dropWindow (n : Nat) (s : State) : State :=
  setProt n { prot s n with vc := 0, vs := 0, ic := 0, is_ := 0, lpVI := 0, lpII := 0, wn := 0, tcSum := 0, tcN := 0 } s

/-- The low-passes of the tracker begin anew (R214). -/
def clearLowPass (n : Nat) (s : State) : State := setProt n { prot s n with vHist := [], iHist := [] } s

/-- The probe runs on an output, or does not (R221); its window opens where it starts. -/
def setProbe (n : Nat) (on : Bool) (s : State) : State :=
  let t := if on && !(getF s fPROT_PROBE_ACTIVE).testBit n then setProt n { prot s n with probe := {} } s else s
  setMaskBit fPROT_PROBE_ACTIVE n on t

/-- An output enters a state; STAGE_STAT shows RUN, and SAFE or LATCHED (R204). The probe runs in RUN with PROBE = 1 (R221). -/
def setOutState (n v : Nat) (s : State) : State :=
  let t := setMaskBit fSTAGE_STAT_RUN n (v == oRUN) (setMaskBit fSTAGE_STAT_SAFE n (v == oSAFE || v == oLATCHED)
    (setF (fSTAGE_STS_STATE n) v s))
  aimPilot n (setProbe n (v == oRUN && getF t (fPROT_CFG_PROBE n) == 1) t)

def softOff : Ramp := steady fpZero

/-- Into SAFE: no pulses, the soft start abandoned (R203, R222); `retry` says whether a retry follows. -/
def enterSafe (n : Nat) (retry : Bool) (s : State) : State :=
  setOutState n oSAFE
    (setProt n { prot s n with retryWait := retry, retryDue := false, retrying := false }
      (setOut n { out_ s n with soft := softOff, toward := 0, step := 0, fcBad := 0, edgePipe := [] } s))

/-- Into OFF (R193, R195). -/
def enterOff (n : Nat) (s : State) : State :=
  setOutState n oOFF
    (setProt n { prot s n with retryWait := false, retryDue := false, retrying := false }
      (setOut n { out_ s n with soft := softOff, toward := 0, step := 0, fcBad := 0, edgePipe := [] } s))

/-- Into RUN: the soft start over 1,024 Double samples, the loop at 0 (R188, R195); the tracker's window opens (R214). -/
def enterRun (n : Nat) (s : State) : State :=
  setOutState n oRUN (clearLowPass n (dropWindow n
    (setProt n { prot s n with retryWait := false, retryDue := false, retrying := false }
      (setOut n { out_ s n with soft := { start := fpZero, target := fpOne, len := 1024, pos := 0 }, toward := 0, step := 0, acc := fpZero } s))))

/-- Into ARMED. -/
def enterArmed (n : Nat) (s : State) : State :=
  setOutState n oARMED (setOut n { out_ s n with soft := softOff, toward := 0, step := 0, fcBad := 0 } s)

/-! ## The identification record (R192) -/

def laneOf (n : Nat) : Nat := n / 2
def identOf (s : State) (n : Nat) : List Byte := (gl s (laneOf n)).ident
def cellsOf (s : State) (n : Nat) : Nat := getF s (fSTAGE_STS_CELLS n)
def idField (s : State) (n off len : Nat) : Nat := num (identOf s n) off len
def vbMin (s : State) (n : Nat) : Word := fpRatio (idField s n 4 2) 10
def vbMax (s : State) (n : Nat) : Word := fpRatio (idField s n 6 2) 10
def vFs (s : State) (n : Nat) : Nat := idField s n 8 2
def iFs (s : State) (n : Nat) : Nat := idField s n 10 2
def iLim (s : State) (n : Nat) : Word := fpRatio (idField s n 12 2) 100
def minPulse (s : State) (n : Nat) : Nat := idField s n 16 2
def vbNom (s : State) (n : Nat) : Word := fpRatio (idField s n 30 2) 10

/-- VBF lies inside VBMIN … VBMAX (R194). -/
def busOk (s : State) (n : Nat) : Bool := fpLe (vbMin s n) (out_ s n).vbf && fpLe (out_ s n).vbf (vbMax s n)

/-! ## Precharge (R195) -/

/-- k × VBF / N and VBF / N. -/
def capTarget (s : State) (n k : Nat) : Word := fpDiv (fpMul (fpOfNat k) (out_ s n).vbf) (fpOfNat (cellsOf s n))
def capUnit (s : State) (n : Nat) : Word := fpDiv (out_ s n).vbf (fpOfNat (cellsOf s n))
def capVolt (q : OutSt) (k : Nat) : Word := (q.fc[k - 1]?).getD 0

/-- |Vfc[k] − tgt| ≤ band. -/
def capInBand (s : State) (n k : Nat) : Bool :=
  fpLe (fpAbs (fpSub (capVolt (out_ s n) k) (capTarget s n k))) (fpMul (fpRatio (getF s (fSTAGE_PC_PCTOL n)) 1000) (capUnit s n))

def capNums (s : State) (n : Nat) : List Nat := (List.range (cellsOf s n - 1)).map (· + 1)
def capsInBand (s : State) (n : Nat) : Bool := (capNums s n).all (capInBand s n)

/-- Into PRECHARGE; from SAFE only the check runs when every capacitor is within band. -/
def startPrecharge (n : Nat) (fromSafe : Bool) (s : State) : State :=
  let q := out_ s n
  let skip := fromSafe && capsInBand s n
  setOutState n oPRECHARGE
    (setOut n { q with step := 0, pcCap := if skip then 0 else cellsOf s n - 1, pcT := 0, toward := 0, soft := softOff, edgePipe := [],
                       pcCheck := if skip then some q.fc else none } s)

end Sys2Proof.Machine
end

