-- ==== Sys2Proof/Machine/Prot.lean ====
section
/-! DEFINITION. Loudspeaker protection (R208 to R228): power, the thermal model, the tracker, the thermal gain, the tones, sweeps,
calibration, retry, and the protection commands. -/
namespace Sys2Proof.Machine

open Sys2Proof

/-! ## Settings (R225) -/

def pRthc (s : State) (n : Nat) : Word := fpRatio (getF s (fPROT_TH1_RTHC n)) 1000
def pTauc (s : State) (n : Nat) : Word := fpRatio (getF s (fPROT_TH1_TAUC n)) 100
def pRths (s : State) (n : Nat) : Word := fpRatio (getF s (fPROT_TH2_RTHS n)) 1000
def pTaus (s : State) (n : Nat) : Word := fpRatio (getF s (fPROT_TH2_TAUS n)) 10
def pTmax (s : State) (n : Nat) : Word := fpOfNat (getF s (fPROT_LIM_TMAX n))
def pTstart (s : State) (n : Nat) : Word := fpOfNat (getF s (fPROT_LIM_TSTART n))
def pTcrit (s : State) (n : Nat) : Word := fpOfNat (getF s (fPROT_LIM_TMAX n) + getF s (fPROT_LIM_TCRIT n))
def pTamb (s : State) (n : Nat) : Word := fpOfInt (getFI s (fPROT_AMB_TAMB n))
def pR0 (s : State) (n : Nat) : Word := fpRatio (getF s (fPROT_TRK_R0 n)) 1000
def pAlpha (s : State) (n : Nat) : Word := fpRatio (300 + getF s (fPROT_COR_ALPHA n)) 100000

/-- LOADCAP = 1 or CLASS = 4: the highest legal SOURCE is 0 (R212). -/
def sourceBarred (s : State) (n : Nat) : Bool := getF s (fPROT_CFG_LOADCAP n) == 1 || getF s (fPROT_LOAD_CLASS n) == 4

/-- One batch, 83.333 µs, in seconds. -/
def dtBatch : Word := 0x38AEC33E

/-! ## Windows -/

/-- The pilot's phase step for one 768 kHz sample, in 1/2^32 turns. -/
def pilotInc (s : State) (n : Nat) : Nat := (2 * (getF s (fPROT_CFG_PILOTF n) * 2 ^ 32) + 7680000) / 15360000

/-- A frequency's phase step at 192 kHz and at 768 kHz, in 1/2^32 turns. -/
def incAt192 (hz : Nat) : Nat := (2 * (hz * 2 ^ 32) + 192000) / 384000
def incAt768 (hz : Nat) : Nat := (2 * (hz * 2 ^ 32) + 768000) / 1536000

/-- A sense pair enters a lock-in at phase `th` (R214, R219, R221). -/
def lockAdd (th v i : Word) (l : LockIn) : LockIn :=
  let co := cosUnit th
  let si := sinUnit th
  { vc := fpAdd l.vc (fpMul v co), vs := fpAdd l.vs (fpMul v si), ic := fpAdd l.ic (fpMul i co), is_ := fpAdd l.is_ (fpMul i si), n := l.n + 1 }

/-- Ic² + Is², and the amplitude of the current: 2 / n times its root. -/
def lockI2 (l : LockIn) : Word := fpAdd (fpMul l.ic l.ic) (fpMul l.is_ l.is_)
def lockAmp (l : LockIn) : Word := fpMul (fpDiv fp2 (fpOfNat l.n)) (fpSqrt (lockI2 l))
def lockV2 (l : LockIn) : Word := fpAdd (fpMul l.vc l.vc) (fpMul l.vs l.vs)

/-- R = (Vc Ic + Vs Is) / |I|² and X = (Vc Is − Vs Ic) / |I|², of sums with cosine and sine of a phase that grows (R214, R219). -/
def lockR (l : LockIn) : Word := fpDiv (fpAdd (fpMul l.vc l.ic) (fpMul l.vs l.is_)) (lockI2 l)
def lockX (l : LockIn) : Word := fpDiv (fpSub (fpMul l.vc l.is_) (fpMul l.vs l.ic)) (lockI2 l)

/-- g_th holds its value: for an update (R387), and during a Unit reset of PROT (R224). -/
def gainHeld (s : State) : Bool := s.upd.gHold || s.kiln.resets.any (fun u => u.unit == 12)

/-- The tracker listens (R212 to R214): in RUN, with a SOURCE or for a calibration. -/
def tracking (s : State) (n : Nat) : Bool :=
  outState s n == oRUN && (getF s (fPROT_CFG_SOURCE n) != 0 || calibrating s n)

/-- A sense pair in the tracker's window (R214); none while the gains hold (R224, R387). -/
def trackPair (s : State) (n k : Nat) (v i : Word) (q : ProtSt) : ProtSt :=
  if outState s n ≠ oRUN ∨ gainHeld s then q
  else if getF s (fPROT_CFG_SOURCE n) = 1 ∨ q.cal.isSome then
    let l := lockAdd (q.phase + BitVec.ofNat 32 (k * pilotInc s n)) v i { vc := q.vc, vs := q.vs, ic := q.ic, is_ := q.is_, n := q.wn }
    { q with vc := l.vc, vs := l.vs, ic := l.ic, is_ := l.is_, wn := l.n }
  else if getF s (fPROT_CFG_SOURCE n) = 2 then
    let vh := trackLowPass (getF s (fPROT_CFG_FPROG n)) v q.vHist
    let ih := trackLowPass (getF s (fPROT_CFG_FPROG n)) i q.iHist
    let fv := vh.getD 2 0
    let fi := ih.getD 2 0
    { q with vHist := vh, iHist := ih, lpVI := fpAdd q.lpVI (fpMul fv fi), lpII := fpAdd q.lpII (fpMul fi fi), wn := q.wn + 1 }
  else q

/-- The sweep's frequencies: 1,000 × 40^(k/23) Hz rounded half up. -/
def sweepFreqs : List Nat :=
  [1000, 1174, 1378, 1618, 1899, 2230, 2618, 3073, 3608, 4235, 4972, 5837] ++
  [6853, 8045, 9444, 11087, 13016, 15280, 17938, 21059, 24723, 29024, 34073, 40000]

/-- The point of Double sample `m` of a sweep: a fade of 192 samples, then 24 points of 5,760 (R219). -/
def sweepPoint (m : Nat) : Nat := min 23 ((m - 192) / 5760)
def sweepHz (m : Nat) : Nat := (sweepFreqs[sweepPoint m]?).getD 1000

/-- Is a point measured at Double sample `m`: the last 20 ms of its 30 (R219)? -/
def sweepMeasures (m : Nat) : Bool := decide (192 ≤ m) && decide (m < 138432) && decide (1920 ≤ (m - 192) % 5760)

/-- A sense pair in the lock-in of a sweep, or in the probe's window (R219, R221). -/
def tonePair (s : State) (n k : Nat) (v i : Word) (q : ProtSt) : ProtSt :=
  if q.sweeping then
    if sweepMeasures q.swStep then
      { q with swLock := lockAdd (q.swPhase + BitVec.ofNat 32 (k * incAt768 (sweepHz q.swStep))) v i q.swLock }
    else q
  else if (getF s fPROT_PROBE_ACTIVE).testBit n then
    { q with probe := lockAdd (q.probePhase + BitVec.ofNat 32 (k * incAt768 38000)) v i q.probe }
  else q

/-- A sense pair (R208): in the batch's sum, the tracker's window, and a sweep's or the probe's lock-in. `k` numbers the pairs of a Double
sample. -/
def addPair (s : State) (n k : Nat) (v i : Word) (q : ProtSt) : ProtSt :=
  tonePair s n k v i (trackPair s n k v i { q with sumVI := fpAdd q.sumVI (fpMul v i) })

def addPairs (n : Nat) (odd : Bool) (s : State) : State :=
  let o := out_ s n
  let k := if odd then 2 else 0
  setProt n (addPair s n (k + 1) o.v1 o.i1 (addPair s n k o.v0 o.i0 (prot s n))) s

/-! ## Tones (R213, R219, R221) -/

/-- The sweep tone at Double sample `m` of a sweep: fades of 192 samples, 24 points of 5,760 (R219). -/
def sweepGain (m : Nat) : Word :=
  if m < 192 then fadeInAt 192 m
  else if m < 138432 then fpOne
  else if m < 138624 then fadeOutAt 192 (m - 138432)
  else fpZero

/-- A sweep's next Double sample: the tone's phase runs on, and a point that ends is stored with the test of its current against 2 mA (R219,
R220). -/
def sweepStep (q : ProtSt) : ProtSt :=
  let m := q.swStep + 1
  let r := { q with swPhase := q.swPhase + BitVec.ofNat 32 (incAt192 (sweepHz q.swStep)), swStep := m }
  if 192 < m ∧ m ≤ 138432 ∧ (m - 192) % 5760 = 0 then
    { r with swPts := q.swPts ++ [⟨lockR q.swLock, lockX q.swLock⟩], swLow := q.swLow && fpLt (lockAmp q.swLock) 0x3B03126F, swLock := {} }
  else r

/-- The sample that enters step 1 of R180, from the output limiter's sample. -/
structure Tone where
  x : Word
  s : State

/-- PILOTON: the pilot is present (R225). -/
def showPilot (n : Nat) (s : State) : State :=
  setF (fPROT_RUN_PILOTON n) (b01 ((prot s n).pilot.target == fpOne || decide (0 < rampLeft (prot s n).pilot))) s

/-- The pilot's fade in a batch in which no Double sample of the output is made: outside ARMED and RUN (R213). -/
def restPilot (n : Nat) (s : State) : State :=
  if outState s n = oARMED ∨ outState s n = oRUN then s
  else showPilot n (setProt n { prot s n with pilot := rampAdvance 16 (prot s n).pilot } s)

def toneSample (n : Nat) (x : Word) (s : State) : Tone :=
  let q := prot s n
  if q.sweeping then
    let y := fpMul (fpMul 0x3D01871E (sweepGain q.swStep)) (sinUnit q.swPhase)
    { x := y, s := setProt n (sweepStep q) s }
  else
    let inc := 4 * pilotInc s n
    let g := rampSample q.pilot 0
    let a := if g = fpZero then x else fpAdd x (fpMul (fpMul 0x3BA43ADD g) (sinUnit q.phase))
    let probing := (getF s fPROT_PROBE_ACTIVE).testBit n
    let b := if probing then fpAdd a (fpMul 0x3B4F3E97 (sinUnit q.probePhase)) else a
    let t := setProt n { q with pilot := rampAdvance 1 q.pilot, phase := q.phase + BitVec.ofNat 32 inc,
                                probePhase := if probing then q.probePhase + BitVec.ofNat 32 (incAt192 38000) else q.probePhase } s
    { x := b, s := showPilot n t }

/-! ## The model and the gain at a boundary (R209, R210, R217, R218) -/

/-- The batch power (R208, R209, R210). -/
def batchPower (s : State) (n : Nat) : Word :=
  if outState s n = oOFF ∨ inStandby s ∨ getF s (fSTAGE_LANE_LOCK (laneOf n)) = 0 then fpZero
  else fpMaxOf fpZero (fpMul (fpRatio (getF s (fPROT_LIM_PFRAC n)) 255) (fpMul (prot s n).sumVI 0x3C800000))

/-- The two-node model for one batch (R210). -/
def thermalStep (s : State) (n : Nat) (p : Word) (q : ProtSt) : ProtSt :=
  let cc := fpDiv (pTauc s n) (pRthc s n)
  let cs := fpDiv (pTaus s n) (pRths s n)
  let flow := fpDiv (fpSub q.tc q.ts) (pRthc s n)
  { q with tc := fpAdd q.tc (fpDiv (fpMul dtBatch (fpSub p flow)) cc),
           ts := fpAdd q.ts (fpDiv (fpMul dtBatch (fpSub flow (fpDiv (fpSub q.ts (pTamb s n)) (pRths s n)))) cs) }

/-- The gain from which g_th rises: where it has been 0, an open value above 0 (R218, log entry 98). -/
def riseFrom (g : Word) : Word := if fpIsZero g then fpClamp 0x00800000 fpOne Config.critFloor else g

/-- The target gain and the gain of the next batch (R217). -/
def gainStep (s : State) (n : Nat) (p : Word) (q : ProtSt) : ProtSt :=
  let en := getF s (fPROT_CFG_EN n) == 1
  let pf := fpAdd q.pf (fpDiv (fpMul (fpSub p q.pf) dtBatch) (fpMul (pTauc s n) 0x3E800000))
  let pss := fpMaxOf fpZero (fpDiv (fpSub (pTmax s n) q.ts) (pRthc s n))
  let r := fpClamp fpZero fpOne (fpDiv (fpSub q.tc (pTstart s n)) (fpSub (pTmax s n) (pTstart s n)))
  let crit0 := if fpLe (pTcrit s n) q.tc then true else if fpLt q.tc (pTmax s n) then false else q.crit
  let crit := en && crit0
  let tgt :=
    if !en then fpOne
    else if crit then fpZero
    else if fpEq r fpZero || fpLe pf pss then fpOne
    else powUnit (fpDiv pss pf) (fpMul r fpHalf)
  let old := q.gNew
  let new :=
    if gainHeld s then old
    else if crit then fpZero
    else if fpLt tgt old then fpMaxOf tgt (fpMul old 0x3F71ADF9)
    else fpMinOf tgt (fpMul (riseFrom old) 0x3F80BD2C)
  { q with pf := pf, pss := pss, crit := crit, gOld := old, gNew := new }

/-- A temperature in 0.1 °C, 16 bits. -/
def tenths (t : Word) : Int := clampI (-32768) 32767 (fpToInt (fpMul t fpTen) 0)

/-- PROT_TEMPn, PROT_RUNn.PF, PROT_STAT and, while the dynamics engine's clocks run, DYN_OUTn show the protection (R151, R225, R352). -/
def showProt (n : Nat) (s : State) : State :=
  let q := prot s n
  when_ (clocksRun s) (refreshDynOut n)
    (setMaskBit fPROT_STAT_LIMITING n (fpLt q.gNew fpOne) (setMaskBit fPROT_STAT_HOT n (fpLt (pTmax s n) q.tc)
      (setF (fPROT_RUN_PF n) (clampI 0 65535 (fpToInt (fpMul q.pf fpTen) 0)).toNat
        (setFI (fPROT_TEMP_TC n) (tenths q.tc) (setFI (fPROT_TEMP_TS n) (tenths q.ts) s)))))

/-- COIL_HOT and COIL_CRIT: once on entry, again after a fall of 5 K below the threshold (R218). -/
def heatShards (n : Nat) (s : State) : State :=
  let q := prot s n
  let five : Word := 0x40A00000
  let hot := fpLt (pTmax s n) q.tc
  let crt := fpLe (pTcrit s n) q.tc
  let t := setProt n { q with hotSent := hot || (q.hotSent && !fpLt q.tc (fpSub (pTmax s n) five)),
                              critSent := crt || (q.critSent && !fpLt q.tc (fpSub (pTcrit s n) five)) } s
  when_ (crt && !q.critSent) (send 12 n 6 4 0) (when_ (hot && !q.hotSent) (send 12 n 6 3 0) t)

/-- SOURCE falls to 0 where R212 bars it. -/
def barSource (n : Nat) (s : State) : State :=
  if sourceBarred s n ∧ getF s (fPROT_CFG_SOURCE n) ≠ 0 then aimPilot n (dropWindow n (setF (fPROT_CFG_SOURCE n) 0 s)) else s

/-- An output's protection at a boundary: the model on the batch just finished, then the gain; Tc enters the mean of an open window
(R215). -/
def protBoundary (n : Nat) (s : State) : State :=
  let p := batchPower s n
  let q0 := prot s n
  let q1 := if getF s (fPROT_CFG_EN n) = 1 then thermalStep s n p q0 else q0
  let q2 := gainStep s n p q1
  let q3 := if tracking s n then { q2 with tcSum := fpAdd q2.tcSum q2.tc, tcN := q2.tcN + 1 } else q2
  showProt n (heatShards n (setProt n { q3 with sumVI := 0 } s))

/-! ## The tracker (R214 to R216) -/

/-- What a window measured: R after RCABLE, and whether the signal sufficed. -/
structure Meas where
  r  : Word
  ok : Bool

def measure (s : State) (n : Nat) : Meas :=
  let q := prot s n
  let cnt := fpOfNat q.wn
  let imin := fpRatio (getF s (fPROT_AMB_IMINP n)) 1000
  let need := fpMul imin imin
  let cable := fpRatio (getF s (fPROT_TRK_RCABLE n)) 100
  if getF s (fPROT_CFG_SOURCE n) = 2 ∧ q.cal.isNone then
    { r := fpSub (fpDiv q.lpVI q.lpII) cable, ok := fpLe (fpMul need cnt) q.lpII }
  else
    let l : LockIn := { vc := q.vc, vs := q.vs, ic := q.ic, is_ := q.is_, n := q.wn }
    { r := fpSub (lockR l) cable, ok := fpLe imin (lockAmp l) }

/-- The correction after a valid window (R215, R216). -/
def correct (n : Nat) (r : Word) (s : State) : State :=
  let q := prot s n
  let tm := fpAdd (fpOfInt (getFI s (fPROT_TRK_T0 n))) (fpDiv (fpSub (fpDiv r (pR0 s n)) fpOne) (pAlpha s n))
  let e := fpSub tm (fpDiv q.tcSum (fpOfNat q.tcN))
  let k := fpRatio (if fpLt fpZero e then getF s (fPROT_COR_KUP n) else getF s (fPROT_COR_KDN n)) 256
  let run := if fpLt (fpOfNat (getF s (fPROT_COR_DEVMAX n))) (fpAbs e) then min 3 (q.devRun + 1) else 0
  let share := fpDiv (pRths s n) (fpAdd (pRthc s n) (pRths s n))
  let t := setProt n { q with tc := fpAdd q.tc (fpMul k e), ts := fpAdd q.ts (fpMul (fpMul k e) share), devRun := run } s
  let u := setF (fPROT_MEAS_RMEAS n) (clampI 0 65535 (fpToInt (fpMul r 0x447A0000) 0)).toNat (setFI (fPROT_MEAS_TMEAS n) (tenths tm) t)
  when_ (run == 3) (send 12 n 6 2 0) u

/-- A window of a calibration: of at most 8 windows, 4 valid ones count (R228). -/
def calWindow (valid : Bool) (r : Word) (c : Int × List Word × Nat) : Int × List Word × Nat :=
  if calOver c then c else (c.1, if valid then c.2.1 ++ [r] else c.2.1, c.2.2 + 1)
where
  /-- A calibration has its windows. -/
  calOver (c : Int × List Word × Nat) : Bool := decide (4 ≤ c.2.1.length) || decide (8 ≤ c.2.2)

/-- A tracker window ends (R214). -/
def measWindowEnd (n : Nat) (s : State) : State :=
  let q := prot s n
  if q.wn = 0 then dropWindow n s
  else
    let m := measure s n
    let r0 := pR0 s n
    let open_ := fpLt (fpMul 0x40800000 r0) m.r
    let bad := fpLt m.r (fpMul fpHalf r0) || fpLt (fpMul 0x40200000 r0) m.r
    let valid := !open_ && !bad && m.ok
    let t1 := if open_ then send 12 n 7 13 0 s else if bad then send 12 n 6 1 0 (bump (fPROT_CNT_BADM n) s) else s
    let t2 := match q.cal with
      | some c => setProt n { prot t1 n with cal := some (calWindow valid m.r c) } t1
      | none => t1
    dropWindow n (when_ (valid && getF s (fPROT_CFG_SOURCE n) != 0) (correct n m.r) t2)

/-- MEAS_WINDOW_END (R214 to R216). -/
def execMeasWindowEnd (c : Nat) (n : Nat) (s : State) : Host.Outcome State Fault Refusal := run c (ifRunning (measWindowEnd n)) s

/-- The mean of FP32 values. -/
def fpMean (l : List Word) : Word := fpDiv (l.foldl fpAdd fpZero) (fpOfNat l.length)

/-- |Z38| of a probe window (R221). -/
def probeZ (l : LockIn) : Word := fpSqrt (fpDiv (lockV2 l) (lockI2 l))

/-- A probe window ends (R221): it is valid with a current of 1 mA or more, and the next one begins. -/
def probeWindowEnd (n : Nat) (s0 : State) : State :=
  let l := (prot s0 n).probe
  let s := setProt n { prot s0 n with probe := {} } s0
  if !(getF s fPROT_PROBE_ACTIVE).testBit n ∨ l.n = 0 ∨ fpLt (lockAmp l) 0x3A83126F then s
  else
    let q := prot s n
    let z := probeZ l
    match q.zref with
    | none =>
      let l := q.zWins ++ [z]
      setProt n { q with zWins := l, zref := if 10 ≤ l.length then some (fpMean l) else none } s
    | some z0 =>
      let high := fpLe (fpMul (fpRatio (getF s (fPROT_AMB_PROBEK n)) 10) z0) z
      let k := if high then min 3 (q.lossRun + 1) else 0
      let was := (getF s fPROT_PROBE_LOSS).testBit n
      let t := setProt n { q with lossRun := k } s
      if k = 3 ∧ !was then send 12 n 7 14 0 (setMaskBit fPROT_PROBE_LOSS n true t) else t

/-- PROBE_WINDOW_END (R221): |Z38| and the current are those of the window's lock-in. -/
def execProbeWindowEnd (c : Nat) (n : Nat) (_z38 _current : Measured) (s : State) : Host.Outcome State Fault Refusal :=
  run c (ifRunning (probeWindowEnd n)) s

/-! ## Retry (R222) and the Keep copies (R211) -/

/-- A retry whose time has come re-enters through PRECHARGE once Tc is below TMAX, and waits until then (R222) and while an update holds
the gains (R387). -/
def startRetry (n : Nat) (s : State) : State :=
  if !(prot s n).retryWait ∨ outState s n ≠ oSAFE then s
  else if fpLt (prot s n).tc (pTmax s n) ∧ ¬s.upd.gHold then
    startPrecharge n true
      (setF (fPROT_RUN_RETRY n) (getF s (fPROT_RUN_RETRY n) + 1) (setProt n { prot s n with retryWait := false, retryDue := false, retrying := true } s))
  else setProt n { prot s n with retryDue := true } s

/-- RETRY_START (R222). -/
def execRetryStart (c : Nat) (n : Nat) (s : State) : Host.Outcome State Fault Refusal := run c (ifRunning (startRetry n)) s

/-- A retry that waits for Tc to fall proceeds at a boundary (R222). -/
def retryWaits (n : Nat) (s : State) : State := when_ (prot s n).retryDue (startRetry n) s

/-- RETRY_CLEAR: 12,000 batches in RUN without a trip (R222). -/
def execRetryClear (c : Nat) (n : Nat) (s : State) : Host.Outcome State Fault Refusal :=
  run c (ifRunning fun s => if outState s n = oRUN then setF (fPROT_RUN_RETRY n) 0 s else s) s

/-- Where the model keeps the copies of an output's Tc and Ts in the retention RAM (log entry 19). -/
def thermalAddr (n : Nat) : Nat := keepBase + 8 * n

def copyThermal (n : Nat) (s : State) : State :=
  setMemWord (thermalAddr n + 4) (prot s n).ts.toNat (setMemWord (thermalAddr n) (prot s n).tc.toNat s)

/-- THERMAL_COPY: Tc and Ts of every output go to the Keep domain (R211). -/
def execThermalCopy (c : Nat) (s : State) : Host.Outcome State Fault Refusal :=
  runMem c (ifRunning fun s => if hasProt s then foldState copyThermal (List.range 16) s else s) s

/-- The model restarts from the copies; where none has been written, at TAMB (R211, log entry 19). -/
def restoreThermal (n : Nat) (s : State) : State :=
  let tc := BitVec.ofNat 32 (memWord s (thermalAddr n))
  let ts := BitVec.ofNat 32 (memWord s (thermalAddr n + 4))
  if tc = 0 ∧ ts = 0 then s else showProt n (setProt n { prot s n with tc := tc, ts := ts } s)

/-! ## Settings commands (R228) -/

def protAddrs (n : Nat) : List Nat :=
  [rPROT_CFG n, rPROT_TH1 n, rPROT_TH2 n, rPROT_LIM n, rPROT_TRK n, rPROT_COR n, rPROT_AMB n]

/-- The settings that a PROT_SET leaves (R56, R212, R225). -/
def protApply (s : State) (n mask : Nat) (new old : List Nat) : List Nat :=
  match applyWords (protAddrs n) 0 mask new old with
  | cfg :: th1 :: th2 :: lim :: rest =>
    let cfg1 := if mask.testBit 1 ∧ (cfg.testBit 3 ∨ getF s (fPROT_LOAD_CLASS n) = 4) then putBits cfg 2 1 0 else cfg
    let top := bits lim 17 9 - 5
    let lim1 := if top < bits lim 8 0 then putBits lim 8 0 top else lim
    cfg1 :: th1 :: th2 :: lim1 :: rest
  | l => l

/-- The settings last latched, staged ones included (R20). -/
def protTarget (s : State) (n : Nat) : List Nat :=
  s.staged.foldl (fun o x => match x.w with
    | .prot k m ws => if k = n then protApply s n m (ws.map (·.toNat)) o else o
    | _ => o) (heldWords s (protAddrs n))

/-- A latched PROT_SET takes effect (R221, R224). -/
def latchProt (n mask : Nat) (ws : List Word) (s : State) : State :=
  let old := heldWords s (protAddrs n)
  let new := protApply s n mask (ws.map (·.toNat)) old
  let t := storeWords (protAddrs n) new s
  let moved (f : Fld) : Bool := getF s f != getF t f
  let drop := moved (fPROT_CFG_SOURCE n) || moved (fPROT_CFG_PILOTF n) || moved (fPROT_CFG_FPROG n) || moved (fPROT_CFG_MEASWIN n) ||
    moved (fPROT_TRK_R0 n) || moved (fPROT_TRK_T0 n) || moved (fPROT_TRK_RCABLE n)
  let u := when_ (moved (fPROT_CFG_SOURCE n) || moved (fPROT_CFG_FPROG n)) (clearLowPass n) (when_ drop (dropWindow n) t)
  let v := if mask.testBit 3 ∧ getF u (fPROT_CFG_PROBE n) = 0 then
      setMaskBit fPROT_PROBE_LOSS n false (setProt n { prot u n with zref := none, zWins := [], lossRun := 0 } u)
    else u
  aimPilot n (setProbe n (outState v n == oRUN && getF v (fPROT_CFG_PROBE n) == 1) v)

/-- The outputs that an OUT operand names: all for 0xFF, else one, at most 15. -/
def outsNamed (out : Nat) : List Nat := if out = 0xFF then List.range 16 else [clampHi 15 out]

def absentProt (s : State) : Guard := absentIf (!hasProt s)

def opProtSet (r : Req) (out mask : Nat) (words : List Word) (s : State) : State :=
  let ns := outsNamed out
  command r 0x0610 [absentProt s, standbyDenied r s, standbyNotNow s]
    (fun s =>
      let ap (n : Nat) : List Word := (protApply s n mask (words.map (·.toNat)) (protTarget s n)).map (BitVec.ofNat 32)
      let first := ap (ns.headD 0)
      -- each output's values as applied go to the standby (R227, R314)
      replyOK r 0x0610 (beWords first)
        (foldState (fun n t => stage r 0x0610 ([byteOf n, 0, 0, 0] ++ be4 mask ++ beWords (ap n)) [.prot n mask (ap n)] t) ns s)) s

/-- PROT_SET (R56, R212, R227, R228). -/
def execProtSet (r : Req) (out mask : Nat) (words : List Word) (s : State) : Host.Outcome State Fault Refusal :=
  run r.c (opProtSet r out mask words) s

def clearProtCnt (n : Nat) (s : State) : State :=
  setF (fPROT_CNT_TRIPS n) 0 (setF (fPROT_CNT_BADM n) 0 (setF (fPROT_CNT_LATCHES n) 0 s))

def opProtStatus (r : Req) (out clear : Nat) (s : State) : State :=
  let n := clampHi 15 out
  command r 0x0611 [absentProt s]
    (fun s =>
      when_ (decide (1 ≤ clear)) (clearProtCnt n)
        (replyOK r 0x0611 ([rPROT_TEMP n, rPROT_MEAS n, rPROT_LOAD n, rPROT_CNT n, rPROT_RUN n].flatMap (fun a => be4 (peekReg s a)) ++
          beWords [thermGain s n s.pipeAt, (prot s n).pf, (prot s n).pss]) s)) s

/-- PROT_STATUS (R228). -/
def execProtStatus (r : Req) (out clear : Nat) (s : State) : Host.Outcome State Fault Refusal := run r.c (opProtStatus r out clear) s

/-! ## Sweep and calibration (R219, R220, R228) -/

/-- Is an operation the sweep, or the calibration, of an output? -/
def isSweepOf (n : Nat) : OpKind → Bool
  | .sweep k => k == n
  | _ => false
def isCalOf (n : Nat) : OpKind → Bool
  | .cal k => k == n
  | _ => false

/-- The sweep of an output begins (R219). -/
def beginSweep (n : Nat) (s : State) : State :=
  setProt n { prot s n with sweeping := true, sweepTrip := false, swPhase := 0, swStep := 0, swLock := {}, swPts := [], swLow := true } s

/-- Does a sweep run on an output, or wait for its target boundary (R228, R314)? -/
def sweepsOn (n : Nat) (s : State) : Bool := (prot s n).sweeping || s.ops.any (fun o => isSweepOf n o.kind)

/-- A sweep begins at its target boundary; ABORTED where the output has left ARMED (R224, R314). -/
def applySweep (n : Nat) (s : State) : State :=
  if !s.ops.any (fun o => isSweepOf n o.kind) then s
  else if outState s n == oARMED then beginSweep n s else finishAll (isSweepOf n) stABORTED [] s

def opProtSweep (r : Req) (out : Nat) (s : State) : State :=
  let n := clampHi 15 out
  command r 0x0612
    [absentProt s, handleLimit r s, standbyDenied r s, notNowIf (outState s n != oARMED) 8, busyIf (sweepsOn n s)]
    (fun s => accept r 0x0612 (.sweep n) (startOrStage r 0x0612 [byteOf n, 0, 0, 0] (.sweep n) (beginSweep n) s)) s

/-- PROT_SWEEP (R219, R228). -/
def execProtSweep (r : Req) (out : Nat) (s : State) : Host.Outcome State Fault Refusal := run r.c (opProtSweep r out) s

/-- A sweep or calibration of an output stops; its handle completes ABORTED (R224). -/
def stopSweep (n : Nat) (s : State) : State :=
  if (prot s n).sweeping then finishAll (isSweepOf n) stABORTED [] (setProt n { prot s n with sweeping := false } s) else s
def stopCal (n : Nat) (s : State) : State :=
  if (prot s n).cal.isSome then aimPilot n (finishAll (isCalOf n) stABORTED [] (setProt n { prot s n with cal := none } s)) else s

/-- R² + X², exactly. -/
def zSq (z : ZPoint) : Dy := ((fpVal z.r).mul (fpVal z.r)).add ((fpVal z.x).mul (fpVal z.x))
def dyLe (a b : Dy) : Bool := !b.lt a
def dyN (n : Nat) : Dy := ⟨(n : Int), 0⟩

/-- C in µF from X_0 at 1,000 Hz (R220). -/
def capOf (z : ZPoint) : Word := fpDiv 0x49742400 (fpMul 0x45C4597C (fpNeg z.x))

/-- The first rule of R220 that holds; rule 1 and rule 4 speak of every point, and so need all 24. -/
def classify (ps : List ZPoint) (low trip : Bool) : Nat :=
  let z0 := ps.headD ⟨0, 0⟩
  let z23 := (ps[23]?).getD z0
  let r0 := fpVal z0.r
  let x0 := fpVal z0.x
  let c := capOf z0
  let whole := ps.length == 24
  if whole && (ps.all (fun z => (dyN 1000000).lt (zSq z)) || low) then 1
  else if (zSq z0).lt (dyN 1) || trip then 2
  else if x0.lt (dyN 0) && dyLe x0 r0.neg && dyLe ((dyN 4).mul (zSq z23)) (zSq z0) && fpLe fpOne c && fpLe c 0x43480000 then 4
  else if whole && ps.all (fun z => dyLe ⟨9, -2⟩ (zSq z) && dyLe (zSq z) (dyN 10000)) &&
      (dyLe (dyN 0) x0 || ((dyN 0).lt r0 && ((dyN 3).mul (x0.mul x0)).lt (r0.mul r0))) then 3
  else 5

/-- R_k and X_k of a sweep's points; those that a trip has left unmeasured are open (log entry 16). -/
def sweepWords (ps : List ZPoint) (free : Nat) : List Byte :=
  (List.range 24).flatMap fun k => match ps[k]? with
    | some z => beWord z.r ++ beWord z.x
    | none => beWord (Config.freeWord (free + 2 * k)) ++ beWord (Config.freeWord (free + 2 * k + 1))

/-- The sweep ends (R220) when every point is measured, or by a trip: the class is stored and the command completes; C and R_23 stand for
class 4, and the result's fields are open for any other class (log entry 16). -/
def sweepDone (n : Nat) (s : State) : State :=
  let ps := (prot s n).swPts
  if !(prot s n).sweeping ∨ (ps.length < 24 ∧ (prot s n).sweepTrip = false) then s
  else
    let cls := classify ps (prot s n).swLow (prot s n).sweepTrip
    let z23 := (ps[23]?).getD ⟨0, 0⟩
    let c := capOf (ps.headD ⟨0, 0⟩)
    let t0 := setF (fPROT_LOAD_CLASS n) cls (setProt n { prot s n with sweeping := false } s)
    let pts := sweepWords ps t0.free
    let t := { t0 with free := t0.free + 48 }
    if cls = 4 then
      finishAll (isSweepOf n) stOK ([byteOf cls, 0, 0, 0] ++ beWord c ++ beWord z23.r ++ pts)
        (setF (fPROT_LOAD_CAP n) (clampI 0 2000 (fpToInt (fpMul c fpTen) 0)).toNat
          (setF (fPROT_LOAD_RHF n) (clampI 0 65535 (fpToInt (fpMul z23.r 0x447A0000) 0)).toNat t))
    else
      finishAll (isSweepOf n) stOK ([byteOf cls, 0, 0, 0] ++ beWord (freeWord t) ++ beWord (freeWord (useFree t)) ++ pts) (useFree (useFree t))

/-- PROT_SWEEP_DONE (R220): the points and the test of the pilot current are those of the sweep's lock-ins. -/
def execProtSweepDone (c : Nat) (n : Nat) (_points _pilotLow : Measured) (s : State) : Host.Outcome State Fault Refusal :=
  run c (ifRunning (sweepDone n)) s

/-- The calibration of an output begins (R228). -/
def beginCal (n : Nat) (tcal : Int) (s : State) : State :=
  aimPilot n (dropWindow n (setProt n { prot s n with cal := some (tcal, [], 0) } s))

/-- Does a calibration run on an output, or wait for its target boundary (R314)? -/
def calsOn (n : Nat) (s : State) : Bool := (prot s n).cal.isSome || s.ops.any (fun o => isCalOf n o.kind)

/-- A calibration begins at its target boundary; ABORTED where the output has left RUN (R224, R314). -/
def applyCal (n : Nat) (tcal : Int) (s : State) : State :=
  if !s.ops.any (fun o => isCalOf n o.kind) then s
  else if outState s n == oRUN then beginCal n tcal s else finishAll (isCalOf n) stABORTED [] s

def opProtCal (r : Req) (out tcal : Nat) (s : State) : State :=
  let n := clampHi 15 out
  command r 0x0613
    [absentProt s, handleLimit r s, standbyDenied r s, deniedIf (sourceBarred s n) 10, notNowIf (outState s n != oRUN) 8,
     busyIf (calsOn n s)]
    (fun s =>
      let t := clampI (-40) 60 (signed 8 (tcal % 256))
      accept r 0x0613 (.cal n)
        (startOrStage r 0x0613 [byteOf n, byteOf (BitVec.ofInt 8 t).toNat, 0, 0] (.cal n t) (beginCal n t) s)) s

/-- PROT_CAL (R228). -/
def execProtCal (r : Req) (out tcal : Nat) (s : State) : Host.Outcome State Fault Refusal := run r.c (opProtCal r out tcal) s

/-- Calibration ends once it has 4 valid windows, or 8 in all: with 4 valid ones R0, T0 and the model are set; else nothing changes and it
FAILED (R228). -/
def calDone (n : Nat) (s : State) : State :=
  match (prot s n).cal with
  | none => s
  | some (t, l, k) =>
    if !calWindow.calOver (t, l, k) then s else
    let u := setProt n { prot s n with cal := none } s
    if 4 ≤ l.length then
      let r0 := clampI 500 65535 (fpToInt (fpMul (fpMean (l.take 4)) 0x447A0000) 0)
      let v := setF (fPROT_TRK_R0 n) r0.toNat (setFI (fPROT_TRK_T0 n) t
        (setProt n { prot u n with tc := fpOfInt t, ts := fpOfInt t } u))
      finishAll (isCalOf n) stOK (be4 r0.toNat) (showProt n (aimPilot n (dropWindow n v)))
    else finishAll (isCalOf n) stFAILED [] (aimPilot n u)

/-- PROT_CAL_DONE (R228). -/
def execProtCalDone (c : Nat) (n : Nat) (s : State) : Host.Outcome State Fault Refusal := run c (ifRunning (calDone n)) s

/-- The protection opcodes (R228). -/
def parseProt (r : Req) (op : Nat) (p : List Byte) : Parse :=
  match op with
  | 0x0610 => lenIs 36 p (.protSet r (n1 p 0) (n4 p 4) (wordsAt p 8 7))
  | 0x0611 => lenIs 4 p (.protStatus r (n1 p 0) (n1 p 1))
  | 0x0612 => lenIs 4 p (.protSweep r (n1 p 0))
  | 0x0613 => lenIs 4 p (.protCal r (n1 p 0) (n1 p 1))
  | _ => .unknown

end Sys2Proof.Machine
end

