-- ==== Sys2Proof/Machine/Stage.lean ====
section
/-! DEFINITION. The multi-level modulator and the Gate Link (R177 to R207): edges, balancing, the voltage loop, frames, training,
precharge, trips, and the stage commands. -/
namespace Sys2Proof.Machine

open Sys2Proof

/-- The Gate Link runs: out of reset, in this variant, not gated, STAGE not under reset (R1, R203). -/
def glLive (s : State) : Bool :=
  s.pwr.phase == .run && hasMod s && !(s.pwr.standby == .gated) && !s.kiln.resets.any (fun u => u.unit == 11)

/-- The channels of a lane. -/
def laneOuts (l : Nat) : List Nat := [2 * l, 2 * l + 1]

/-! ## From sample to edge (R180 to R183) -/

def fpInt (n : Nat) : Word := fpOfNat n

/-- The two carrier half-widths' shaping of one cell (R182): what a half-width becomes. -/
structure HalfEdge where
  y   : Int
  e1  : Word
  e2  : Word
  sat : Nat

def shape (w e1 e2 : Word) : HalfEdge :=
  let v := fpAdd (fpSub w (fpMul fp2 e1)) e2
  let y := fpToInt v 0
  let d := fpSub (fpOfInt y) v
  let e := fpClamp 0xC4800000 0x44800000 d
  { y := y, e1 := e, e2 := e1, sat := if fpEq e d then 0 else 1 }

/-- A cell's coded edges, its shaper state and what it counts. -/
structure CellOut where
  on   : Nat
  off  : Nat
  e1   : Word
  e2   : Word
  sat  : Nat
  clip : Nat

/-- slot × 51,200 / N rounded half up (R181). -/
def carrier (n slot : Nat) : Nat := (2 * slot * 51200 + n) / (2 * n)

/-- d_j = (1 + u)/2 + Δd_j, clamped to 0 … 1 (R181). -/
def duty (u trim : Word) : SatRes :=
  let d := fpAdd (fpMul (fpAdd fpOne u) fpHalf) trim
  let k := fpClamp fpZero fpOne d
  { w := k, sat := !fpEq k d }

/-- One cell's edges for a period (R181 to R183). -/
def cellEdges (cells minp j r : Nat) (ua ub trim e1 e2 : Word) : CellOut :=
  let da := duty ua trim
  let db := duty ub trim
  let a := shape (fpMul da.w 0x46C80000) e1 e2
  let b := shape (fpMul db.w 0x46C80000) a.e1 a.e2
  let w := a.y + b.y
  let clip := b01 da.sat + b01 db.sat
  let c : Int := (carrier cells ((j + r) % cells) : Nat)
  if w < (minp : Int) then
    { on := 0xFFFF, off := 0, e1 := fpSub b.e1 (fpOfInt w), e2 := b.e2, sat := a.sat + b.sat, clip := clip }
  else if 51200 - w < (minp : Int) then
    { on := 0xFFFE, off := 0, e1 := fpAdd b.e1 (fpOfInt (51200 - w)), e2 := b.e2, sat := a.sat + b.sat, clip := clip }
  else
    { on := ((c - a.y) % 51200).toNat, off := ((c + b.y) % 51200).toNat, e1 := b.e1, e2 := b.e2, sat := a.sat + b.sat, clip := clip }

/-! ## Balancing (R184 to R187) -/

/-- sign(i_avg), 0 below IMIN (R185). -/
def curSign (s : State) (n : Nat) : Int :=
  let q := out_ s n
  let i := fpMul (fpAdd q.i0 q.i1) fpHalf
  if fpLt (fpAbs i) (fpRatio (getF s (fSTAGE_BAL_IMIN n)) 1000) then 0
  else if fpLt i fpZero then -1 else if fpEq i fpZero then 0 else 1

/-- c[k] of R185, 0 at k = 0 and k = N. -/
def balC (s : State) (n k : Nat) : Word :=
  if k = 0 ∨ cellsOf s n ≤ k then fpZero
  else
    let eps := fpDiv (fpSub (capVolt (out_ s n) k) (capTarget s n k)) (out_ s n).vbf
    let lim := fpRatio (getF s (fSTAGE_BAL_TRIMMAX n)) 1000
    fpClamp (fpNeg lim) lim (fpMul (fpMul (fpNeg (fpRatio (getF s (fSTAGE_BAL_KB n)) 64)) (fpOfInt (curSign s n))) eps)

/-- Δd[j] = c[j + 1] − c[j]. -/
def trimOf (s : State) (n j : Nat) : Word := fpSub (balC s n (j + 1)) (balC s n j)

/-- Some δ_k > 0.15 (R187). -/
def imbalanced (s : State) (n : Nat) : Bool :=
  (capNums s n).any fun k =>
    fpLt 0x3E19999A (fpDiv (fpAbs (fpSub (capVolt (out_ s n) k) (capTarget s n k))) (capUnit s n))

/-! ## The modulation value (R180, R188) -/

/-- A clamped modulation value. -/
def clampU (u : Word) : SatRes :=
  let k := fpClamp 0xBF7D70A4 0x3F7D70A4 u
  { w := k, sat := !fpEq k u }

/-- The voltage loop of one step (R188): `vout` is the sense sample that u[n − 18] made. -/
structure Loop where
  u   : Word
  acc : Word

def voltLoop (s : State) (n : Nat) (acc u vout : Word) (mods : List Word) : Loop :=
  let half := fpMul (out_ s n).vbf fpHalf
  let err := fpSub (fpMul ((mods[17]?).getD 0) half) vout
  let lim := fpMul 0x3DCCCCCD half
  let a := fpClamp (fpNeg lim) lim (fpAdd acc (fpMul (fpRatio (getF s (fSTAGE_LOOP_KI n)) 4096) err))
  { u := fpAdd u (fpDiv (fpAdd (fpMul (fpRatio (getF s (fSTAGE_LOOP_KP n)) 256) err) a) half), acc := a }

/-- Does the bake hold a limiter for this output; without one its samples are 0. -/
def fedSample (s : State) (n : Nat) : Word :=
  if (dynDef s.oven (0x800 + n)).isSome then ((out_ s n).uHist[0]?).getD 0 else fpZero

/-- Step 1 of R180 for a new Double sample: tone, MSCALE, soft start, and the interpolator's input. A ramp that ends leads to
ARMED or OFF (R195). -/
def feedSample (n : Nat) (s : State) : State :=
  let t := toneSample n (fedSample s n) s
  let q := out_ t.s n
  let soft := if (prot s n).sweeping then fpOne else rampSample q.soft 0
  let x := fpMul (fpMul t.x (fpMul (rampSample q.mscale 0) 0x3B800000)) soft
  let q1 := { q with xHist := pushHist x q.xHist, soft := rampAdvance 1 q.soft, mscale := rampAdvance 1 q.mscale }
  let u := setOut n q1 t.s
  if q.toward ≠ 0 ∧ rampLeft q1.soft = 0 then
    if q.toward = 4 then enterArmed n u else enterOff n u
  else u

/-- The modulation values of a period (R180): two steps. -/
def modValues (n : Nat) (odd : Bool) (s : State) : State :=
  let q := out_ s n
  if outState s n = oARMED ∧ !(prot s n).sweeping then setOut n { q with mods := (fpZero :: fpZero :: q.mods).take 40 } s
  else
    let i := if odd then 2 else 0
    let v := (modOut i q.xHist, modOut (i + 1) q.xHist)
    let ff (u : Word) : Word := if getF s (fSTAGE_LOOP_BUSFF n) = 1 then fpMul u (fpDiv (vbNom s n) q.vbf) else u
    let loop (acc u vout : Word) (m : List Word) : Loop :=
      if getF s (fSTAGE_LOOP_VLOOP n) = 1 then voltLoop s n acc u vout m else { u := u, acc := acc }
    let l0 := loop q.acc (ff v.1) q.v0 q.mods
    let u0 := clampU l0.u
    let m0 := u0.w :: q.mods
    let l1 := loop l0.acc (ff v.2) q.v1 m0
    let u1 := clampU l1.u
    let clips := b01 u0.sat + b01 u1.sat
    let t := bumpN (fSTAGE_CNT_CLIP n) clips (setOut n { q with mods := (u1.w :: m0).take 40, acc := l1.acc, clipSent := q.clipSent || clips != 0 } s)
    when_ (clips != 0 && !q.clipSent) (send 11 n 7 3 0) t

def emptyEdges : List (Nat × Nat) := List.replicate 6 (0xFFFF, 0)

/-- The edge sets of a period in ARMED or RUN (R181, R182, R186); those of the period three before are sent (R179). -/
def runEdges (n : Nat) (s : State) : State :=
  let cells := cellsOf s n
  let q := out_ s n
  let r := getF s (fSTAGE_STS_ROT n)
  let ub := (q.mods[0]?).getD 0
  let ua := (q.mods[1]?).getD 0
  let os := (List.range cells).map fun j =>
    cellEdges cells (minPulse s n) j r ua ub (trimOf s n j) ((q.e1[j]?).getD 0) ((q.e2[j]?).getD 0)
  let pad := List.replicate (6 - cells) (0xFFFF, 0)
  let q1 := { q with edges := (q.edgePipe[2]?).getD emptyEdges, edgePipe := ((os.map (fun o => (o.on, o.off)) ++ pad) :: q.edgePipe).take 3,
                     e1 := os.map (·.e1) ++ q.e1.drop cells, e2 := os.map (·.e2) ++ q.e2.drop cells }
  let t := bumpN (fSTAGE_CNT_CLIP n) (os.foldl (fun a o => a + o.clip) 0)
    (bumpN (fSTAGE_CNT_NSSAT n) (os.foldl (fun a o => a + o.sat) 0) (setOut n q1 s))
  if curSign s n = 0 ∧ getF s (fSTAGE_BAL_ROTEN n) = 1 ∧ 0 < cells then setF (fSTAGE_STS_ROT n) ((r + 1) % cells) t else t

/-! ## Training results (R194, R207) -/

def isTrain : OpKind → Bool
  | .train _ => true
  | _ => false

def trainMask (s : State) : Nat := s.ops.foldl (fun m o => match o.kind with
  | .train k => m ||| k
  | _ => m) 0

/-- A failure during training returns the output to OFF (R193), with its code and its shard, whose CONTEXT names a capacitor (R195, R334). -/
def trainFailAt (n code cap : Nat) (s : State) : State :=
  send 11 n 7 (if code ≤ 4 then 4 else 5) cap (setOut n { out_ (enterOff n s) n with code := some code } (enterOff n s))
def trainFail (n code : Nat) (s : State) : State := trainFailAt n code 0 s

/-- Precharge fails with a code and the capacitor of code 6: in training the output's result; a retry ends in OFF as well (log entry
20). -/
def prechargeFail (n code cap : Nat) (s : State) : State := trainFailAt n code cap s

/-- The states of a training under way (R193). -/
def inTraining (s : State) (n : Nat) : Bool :=
  let st := outState s n
  st == oIDENT || st == oTEST || (st == oPRECHARGE && !(prot s n).retrying)

/-- An output goes to OFF; one in training has no result that the manual names: its code is open, one of the failures (log entry 16). -/
def turnOff (n : Nat) (s : State) : State :=
  if inTraining s n then useFree (setOut n { out_ (enterOff n s) n with code := some (1 + (freeWord s).toNat % 8) } (enterOff n s))
  else enterOff n s

/-- The check has passed: ARMED, or for a retry RUN at the next boundary (R195, R222). -/
def checkPassed (n : Nat) (s : State) : State :=
  if (prot s n).retrying then setOut n { out_ s n with step := 8 } s
  else setOut n { out_ (enterArmed n s) n with code := some 0 } (enterArmed n s)

/-! ## Precharge (R195) -/

/-- The first capacitor from k down that is not within its band; 0 when all are. -/
def nextCap (s : State) (n : Nat) : Nat → Nat
  | 0 => 0
  | k + 1 => if capInBand s n (k + 1) then nextCap s n k else k + 1

/-- The pulse of precharge, centred at step 25,600, on the cells of a mask. -/
def prechargeEdges (s : State) (n mask : Nat) : List (Nat × Nat) :=
  let len := (2 * (getF s (fSTAGE_PC_PCDUTY n) * 51200) + 1000) / 2000
  (List.range 6).map fun j => if mask.testBit j then (25600 - len / 2, 25600 - len / 2 + len) else (0xFFFF, 0)

/-- One period of precharge, or of its check. -/
def prechargePeriod (n : Nat) (s : State) : State :=
  let q := out_ s n
  if q.pcCap = 0 then setOut n { q with edges := emptyEdges } s
  else
    let k := nextCap s n q.pcCap
    if k = 0 then setOut n { q with edges := emptyEdges, pcCap := 0, pcT := 0, pcCheck := some q.fc } s
    else
      let lim := fpMul (iLim s n) 0x3E800000
      let t := if k = q.pcCap then q.pcT else 0
      if fpLt lim (fpAbs q.i0) ∨ fpLt lim (fpAbs q.i1) then prechargeFail n 8 0 s
      else if getF s (fSTAGE_PC_PCTIME n) * 384 ≤ t then prechargeFail n 6 k s
      else
        let m := idField s n ((if fpLt (capVolt q k) (capTarget s n k) then 18 else 19) + 2 * (k - 1)) 1
        setOut n { q with edges := prechargeEdges s n m, pcCap := k, pcT := t + 1 } s

/-- A sense sample during the check: every k within band, and moved by at most 1 % of VBF/N (R195). -/
def checkWatch (n : Nat) (s : State) : State :=
  let q := out_ s n
  match q.pcCheck with
  | some f0 =>
    if outState s n = oPRECHARGE ∧ q.pcCap = 0 ∧ q.step ≠ 8 then
      let bad := (capNums s n).any fun k =>
        !capInBand s n k || fpLt (fpMul 0x3C23D70A (capUnit s n)) (fpAbs (fpSub (capVolt q k) ((f0[k - 1]?).getD 0)))
      if bad then setOut n { q with step := 9 } s else s
    else s
  | none => s

/-! ## Faults (R187, R202, R222, R223) -/

/-- An output leaves the powered states on a fault of its lane: SAFE, or in training its failure (R193, R202). -/
def faultOut (n code : Nat) (s : State) : State :=
  let st := outState s n
  if st = oARMED ∨ st = oRUN ∨ (st = oPRECHARGE ∧ (prot s n).retrying) then enterSafe n false s
  else if st = oIDENT ∨ st = oTEST ∨ st = oPRECHARGE then trainFail n code s
  else if st = oSAFE then setProt n { prot s n with retryWait := false } s
  else s

/-- The lowest output of a lane that is not OFF, else its first (log entry 21). -/
def laneInst (s : State) (l : Nat) : Nat := if outState s (2 * l) = oOFF ∧ outState s (2 * l + 1) ≠ oOFF then 2 * l + 1 else 2 * l

/-- A lane is lost (R202). -/
def glLose (l : Nat) (s : State) : State :=
  if getF s (fSTAGE_LANE_LOCK l) = 0 then s
  else
    let t := send 11 (laneInst s l) 7 10 0 s
    let u := foldState (fun n => faultOut n 1) (laneOuts l) t
    setGl l { gl u l with miss := 0, ask := false } (setF (fSTAGE_LANE_LOCK l) 0 u)

/-- GL_LOST: eight periods without a valid return frame, or a loss of lock (R202). -/
def execGlLost (c : Nat) (l : Nat) (s : State) : Host.Outcome State Fault Refusal :=
  run c (fun s => if glLive s then glLose l s else s) s

/-- FC_DRIFT: some δ_k > 0.05 for 1 ms (R187). -/
def execFcDrift (c : Nat) (n : Nat) (s : State) : Host.Outcome State Fault Refusal :=
  run c (fun s => if glLive s && (outState s n == oARMED || outState s n == oRUN) then send 11 n 7 7 0 s else s) s

/-- BUS: Vbus outside VBMIN … VBMAX for 1 ms: both channels go to SAFE (R187). -/
def execBus (c : Nat) (l : Nat) (s : State) : Host.Outcome State Fault Refusal :=
  run c (fun s =>
    if glLive s && (laneOuts l).any (fun n => isPowered (outState s n)) then
      foldState (fun n => if isPowered (outState s n) then faultOut n 5 else id) (laneOuts l) (send 11 (laneInst s l) 7 9 0 s)
    else s) s

/-- A return frame reports TRIP for a channel in RUN or ARMED (R220, R222, R223). -/
def tripOut (n : Nat) (s : State) : State :=
  let st := outState s n
  let retry := getF s (fPROT_RUN_RETRY n)
  let t := bump (fPROT_CNT_TRIPS n) s
  if (prot s n).sweeping then
    enterSafe n false (send 12 n 7 11 0 (setProt n { prot t n with sweepTrip := true } t))
  else if retry = 3 then
    send 12 n 7 12 0 (bump (fPROT_CNT_LATCHES n) (setOutState n oLATCHED (enterSafe n false t)))
  else
    enterSafe n (st == oRUN) (when_ (retry == 0) (send 12 n 7 11 0) t)

/-! ## The downstream frame (R189, R190) -/

/-- MODE for an output's state (R193). -/
def modeOf (st : Nat) : Nat :=
  if st = oIDENT ∨ st = oTEST then 1 else if st = oPRECHARGE then 2 else if st = oARMED ∨ st = oRUN then 3 else 0

def be2s (e : Nat × Nat) : List Byte := be2 e.1 ++ be2 e.2

/-- Symbols 0 to 67 of a frame; the rest is fill. The period it governs lies 5 ahead (R179, R189). -/
def downFrame (l p : Nat) (s : State) : List Byte :=
  let g := gl s l
  let pg := (p + 5) % 32
  let b := (batch s).toNat + (p + 5) / 32
  let mode := max (modeOf (outState s (2 * l))) (modeOf (outState s (2 * l + 1)))
  let edges (n : Nat) : List Byte :=
    ((if isPowered (outState s n) then (out_ s n).edges ++ emptyEdges else emptyEdges).take 6).flatMap be2s
  let msg : List Byte := if g.ask then 1 :: zeros 7 else zeros 8
  let body := be2 (claimSent s) ++ [byteOf (pg + 32 * mode), byteOf b, 0, 0] ++ edges (2 * l) ++ edges (2 * l + 1) ++ msg
  [0xBC, if pg = 0 then 0x3C else 0x5C] ++ body ++ be4 (crc32 body)

/-- One channel's work in a period. -/
def channelPeriod (n p : Nat) (s : State) : State :=
  let s1 := if p % 2 = 0 ∧ (outState s n = oARMED ∨ outState s n = oRUN) then feedSample n s else s
  let st := outState s1 n
  if st = oPRECHARGE then prechargePeriod n s1
  else if st = oARMED ∨ st = oRUN then
    let bad := imbalanced s1 n
    let q := out_ s1 n
    if bad ∧ 1 ≤ q.fcBad then enterSafe n false (send 11 n 7 8 0 s1)
    else runEdges n (modValues n (p % 2 == 1) (setOut n { q with fcBad := if bad then 1 else 0 } s1))
  else s1

/-- A period that ended without a valid return frame (R202, R208). -/
def closePeriod (l : Nat) (s : State) : State :=
  let g := gl s l
  if !g.open_ ∨ g.valid then s
  else
    let t := setGl l { g with miss := g.miss + 1 } s
    let u := if getF s (fSTAGE_LANE_LOCK l) = 1 then foldState (fun n => addPairs n (g.period % 2 == 0)) (laneOuts l) t else t
    if 8 ≤ g.miss + 1 then glLose l u else u

/-- MODULATION_PERIOD of a lane (R178 to R190). -/
def modPeriod (l : Nat) (s : State) : State :=
  if !glLive s then s
  else
    let t := closePeriod l s
    let p := (gl t l).period % 32
    let u := runPipes (p / 2 + 1) t
    let v := foldState (fun n => channelPeriod n p) (laneOuts l) u
    let w := emit (.gateLink l (downFrame l p v)) v
    setGl l { gl w l with period := p + 1, open_ := true, valid := false } w

/-- MODULATION_PERIOD (R178 to R190). -/
def execModulationPeriod (c : Nat) (l : Nat) (s : State) : Host.Outcome State Fault Refusal := runMem c (ifRunning fun s => modPeriod l (runFixedTo c s)) s

/-- A lane at a batch boundary: its last period closes, and its periods count anew. -/
def laneBoundary (l : Nat) (s : State) : State :=
  let t := closePeriod l s
  foldState (fun n u => setOut n { out_ u n with clipSent := false, limSent := false } u) (laneOuts l)
    (setGl l { gl t l with period := 0, open_ := false } t)

/-! ## The return frame (R191, R192) -/

def sgn16 (n : Nat) : Int := signed 16 n

/-- Its CRC and K-codes stand (R191). -/
def returnOk (f : ReturnFrame) : Bool := f.kOk && f.syms.length == 60 && num f.syms 56 4 == crc32 (f.syms.take 56)

/-- The sense data of one channel from a valid frame. -/
def takeSense (n : Nat) (f : ReturnFrame) (s : State) : State :=
  let ch := n % 2
  let q := out_ s n
  let cur (k : Nat) : Word := fpRatio (sgn16 (num f.syms (6 + 8 * ch + 2 * k) 2) * (iFs s n : Int)) 3276800
  let vol (k : Nat) : Word := fpRatio (sgn16 (num f.syms (6 + 8 * ch + 2 * k) 2) * (vFs s n : Int)) 327680
  let uns (k : Nat) : Word := fpRatio ((num f.syms (22 + 12 * ch + 2 * k) 2 * vFs s n : Nat) : Int) 655360
  setOut n { q with i0 := cur 0, i1 := cur 1, v0 := vol 2, v1 := vol 3, vbus := uns 0, vbf := busLowPass q.vbf (uns 0),
                    fc := (List.range 5).map (fun k => uns (k + 1)), temp := fpOfInt (signed 8 (num f.syms (46 + ch) 1)) } s

/-- g_hr from the lower h of a Double sample's two frames (R201). -/
def headroom (s : State) (n h : Nat) : Word :=
  let thr := getF s (fSTAGE_MOD_HRTHR n)
  if thr ≤ h then fpOne else powUnit fpTen (fpMul 0xBE99999A (fpRatio ((thr : Int) - h) thr))

/-- A headroom reading; while the gains hold, g_hr keeps its value (R387). -/
def takeHead (n h period : Nat) (s : State) : State :=
  let q := out_ s n
  let t := setF (fSTAGE_STS_HEAD n) h s
  if period % 2 = 0 then setOut n { q with headPair := [h] } t
  else
    let low := q.headPair.foldl min h
    if s.upd.gHold then setOut n { q with headPair := [] } t
    else setOut n { q with headPair := [], gHr := headroom s n low } t

/-- LIMIT of a channel (R201). -/
def takeLimit (n : Nat) (lim : Bool) (s : State) : State :=
  if lim then
    let q := out_ s n
    let t := bump (fSTAGE_CNT_LIMIT n) (setOut n { q with limSent := true } s)
    when_ (!q.limSent) (send 11 n 7 2 0) t
  else s

/-- TRIP of a channel. -/
def takeTrip (n : Nat) (trip : Bool) (s : State) : State :=
  let st := outState s n
  let t := setOut n { out_ s n with trip := trip } s
  if trip ∧ (st = oARMED ∨ st = oRUN) then tripOut n t else t

/-- A message unit (R192): six parts of the identification record, then its judgement (R194). -/
def recordOk (l named : Nat) (rec : List Byte) : Bool :=
  let cells := num rec 2 1
  let chans := num rec 3 1
  let minp := num rec 16 2
  decide (2 ≤ cells) && decide (cells ≤ 6) && decide (1 ≤ chans) && decide (chans ≤ 2) && (chans == 2 || !named.testBit (2 * l + 1)) &&
    decide (100 ≤ minp) && decide (minp ≤ 2000)

def toTest (n : Nat) (s : State) : State :=
  setOutState n oTEST (setGl (laneOf n) { gl s (laneOf n) with errs := 0 } (setOut n { out_ s n with step := 0 } s))

def takeMessage (l : Nat) (f : ReturnFrame) (s : State) : State :=
  let g := gl s l
  if num f.syms 48 1 ≠ 0x81 ∨ getF s (fSTAGE_LANE_IDOK l) = 1 then s
  else
    let i := num f.syms 49 1
    let rec0 := if i = 0 then sub f.syms 50 6 else if g.ident.length = 6 * i then g.ident ++ sub f.syms 50 6 else g.ident
    let t := setGl l { g with ident := rec0, ask := false } s
    if rec0.length ≠ 36 then t
    else
      let waiting := (laneOuts l).filter (fun n => outState t n == oIDENT && (out_ t n).step == 2)
      let named := waiting.foldl (fun m n => m + 2 ^ n) 0
      if recordOk l named rec0 then
        let u := setF (fSTAGE_LANE_IDOK l) 1 (setF (fSTAGE_LANE_TYPE l) (num rec0 0 2) t)
        let v := foldState (fun n => setF (fSTAGE_STS_CELLS n) (num rec0 2 1))
          ((laneOuts l).filter (fun n => n % 2 == 0 || num rec0 3 1 == 2)) u
        foldState toTest waiting v
      else foldState (fun n => trainFail n 2) waiting t

/-- The lane locks, with a flight within 200 ns (R189, R194). A record that stands is held against each output that waits. -/
def takeLock (l : Nat) (flight : Nat) (s : State) : State :=
  if 3932 < flight then
    foldState (fun n u => if outState u n = oIDENT ∧ (out_ u n).step = 1 then setOut n { out_ u n with step := 3 } u else u) (laneOuts l) s
  else
    let t := setF (fSTAGE_LANE_FLIGHT l) flight (setF (fSTAGE_LANE_LOCK l) 1 s)
    let known := getF s (fSTAGE_LANE_IDOK l) == 1
    let due := (laneOuts l).filter (fun n => outState t n == oIDENT && ((out_ t n).step == 1 || (out_ t n).step == 3))
    let u := foldState (fun n u =>
      if known then (if recordOk l (2 ^ n) (gl u l).ident then toTest n u else trainFail n 2 u) else setOut n { out_ u n with step := 2 } u) due t
    when_ (!due.isEmpty && !known) (fun v => setGl l { gl v l with ask := true } v) u

/-- One channel's part of a valid frame. -/
def takeChannel (n : Nat) (f : ReturnFrame) (odd : Bool) (s : State) : State :=
  let ch := n % 2
  let flags := num f.syms 3 1
  let t := setF (fSTAGE_STS_HOLD n) (bits flags 4 4) (takeSense n f s)
  let u := addPairs n odd (takeHead n (num f.syms (4 + ch) 1) (num f.syms 2 1 % 32) t)
  takeTrip n (flags.testBit (2 + ch)) (takeLimit n (flags.testBit ch) (checkWatch n u))

/-- RETURN_FRAME (R191, R192, R194, R201, R202, R208). -/
def returnFrame (l : Nat) (f : ReturnFrame) (s : State) : State :=
  if !glLive s then s
  else
    let g := gl s l
    if returnOk f then
      let ovt := (num f.syms 3 1).testBit 6
      let t := setGl l { g with valid := true, miss := 0, ovt := ovt } s
      let u := when_ (ovt && !g.ovt) (send 11 (laneInst s l) 7 6 0) t
      let v := foldState (fun n => takeChannel n f (g.period % 2 == 0)) (laneOuts l) u
      takeMessage l f (takeLock l f.flight v)
    else
      foldState (fun n => bump (fSTAGE_CNT_CRCE n)) (laneOuts l)
        (send 11 (laneInst s l) 7 1 0 (setGl l { g with errs := g.errs + 1 } s))

/-- RETURN_FRAME (R191). -/
def execReturnFrame (c : Nat) (l : Nat) (f : ReturnFrame) (s : State) : Host.Outcome State Fault Refusal := run c (returnFrame l f) s

/-! ## Training events (R194, R195) -/

/-- TRAIN_TIMEOUT: no lock within 2 ms (the flight when that is what failed), or no record within 1 ms (R194); the lanes of a gated engine
do not lock (R203). -/
def execTrainTimeout (c : Nat) (n : Nat) (s : State) : Host.Outcome State Fault Refusal :=
  run c (fun s =>
    if s.pwr.phase == .run && hasMod s && outState s n == oIDENT then
      trainFail n (if (out_ s n).step = 2 then 2 else if (out_ s n).step = 3 then 4 else 1) s
    else s) s

/-- LINK_TEST_END: 3,200 periods, then the bus check, then precharge (R194). -/
def execLinkTestEnd (c : Nat) (n : Nat) (clean : Bool) (s : State) : Host.Outcome State Fault Refusal :=
  run c (fun s =>
    if glLive s && outState s n == oTEST then
      if !clean ∨ (gl s (laneOf n)).errs ≠ 0 then trainFail n 3 s
      else if !busOk s n then trainFail n 5 s
      else startPrecharge n ((out_ s n).code == some 255) s
    else s) s

/-- PRECHARGE_TIMEOUT: a capacitor is not within its band after PCTIME (R195). -/
def execPrechargeTimeout (c : Nat) (n : Nat) (s : State) : Host.Outcome State Fault Refusal :=
  run c (fun s => if glLive s && outState s n == oPRECHARGE && (out_ s n).pcCap != 0 then prechargeFail n 6 (out_ s n).pcCap s else s) s

/-- PRECHARGE_CHECK_END: the 10 ms check ends (R195). -/
def execPrechargeCheckEnd (c : Nat) (n : Nat) (s : State) : Host.Outcome State Fault Refusal :=
  run c (fun s =>
    if glLive s && outState s n == oPRECHARGE && (out_ s n).pcCap == 0 && (out_ s n).step != 8 then
      if (out_ s n).step = 9 ∨ !capsInBand s n then prechargeFail n 7 0 s else checkPassed n s
    else s) s

/-- SOFT_START_END: the ramp's last batch ends: RUN at full gain, or the state a ramp down leads to (R195). -/
def execSoftStartEnd (c : Nat) (n : Nat) (s : State) : Host.Outcome State Fault Refusal :=
  run c (fun s =>
    let q := out_ s n
    if glLive s && outState s n == oRUN && decide (rampLeft q.soft ≤ 16) then
      let t := setOut n { q with soft := steady q.soft.target } s
      if q.toward = 4 then enterArmed n t else if q.toward ≠ 0 then enterOff n t else t
    else s) s

/-! ## Commands (R206, R207) -/

def absentMod (s : State) : Guard := absentIf (!hasMod s)

/-- The lanes that a running STAGE_TRAIN trains, as a mask of outputs. -/
def trainingLanes (s : State) : Nat :=
  let m := trainMask s
  maskWhere 16 (fun n => m.testBit (2 * (n / 2)) || m.testBit (2 * (n / 2) + 1))

/-- A named output begins training (R194); from SAFE its precharge is a re-entry (R195), marked by code 255 until it ends. -/
def beginTrain (mask : Nat) (n : Nat) (s : State) : State :=
  let st := outState s n
  if st = oARMED ∨ st = oRUN then setF (fPROT_RUN_RETRY n) 0 (setOut n { out_ s n with code := some 10 } s)
  else
    let other := 2 * (n / 2) + (1 - n % 2)
    let keep := isPowered (outState s other) && !mask.testBit other
    let t := if keep then s
      else setF (fSTAGE_LANE_IDOK (laneOf n)) 0 (setGl (laneOf n) { gl s (laneOf n) with ident := [], errs := 0 } s)
    let u := setProt n { prot t n with retryWait := false, retryDue := false, retrying := false } (setF (fPROT_RUN_RETRY n) 0 t)
    setOutState n oIDENT
      (setOut n { out_ u n with code := if st = oSAFE then some 255 else none, step := 1, toward := 0, soft := softOff } u)

/-- Is an operation the training of a mask? -/
def isTrainOf (mask : Nat) : OpKind → Bool
  | .train m => m == mask
  | _ => false

/-- Training begins at its target boundary (R314). An output that has become LATCHED since has no result that the manual names: its
code is open, one of the failures (log entry 16). -/
def applyTrain (mask : Nat) (s : State) : State :=
  if s.ops.any (fun o => isTrainOf mask o.kind) then
    foldState (fun n t =>
      if outState t n = oLATCHED then useFree (setOut n { out_ t n with code := some (1 + (freeWord t).toNat % 8) } t)
      else beginTrain mask n t) (maskList 16 mask) s
  else s

def opStageTrain (r : Req) (mask0 : Nat) (s : State) : State :=
  let mask := mask0 % 65536
  command r 0x0600
    [absentMod s, handleLimit r s, standbyDenied r s, deniedIf (mask == 0) 2,
     notNowIf ((maskList 16 mask).any (fun n => outState s n == oLATCHED)) 7,
     busyIf (mask &&& trainingLanes s != 0)]
    (fun s => accept r 0x0600 (.train mask)
      (startOrStage r 0x0600 (be2 mask ++ [0, 0]) (.train mask) (foldState (beginTrain mask) (maskList 16 mask)) s)) s

/-- STAGE_TRAIN (R194, R207). -/
def execStageTrain (r : Req) (mask : Nat) (s : State) : Host.Outcome State Fault Refusal := run r.c (opStageTrain r mask) s

/-- Has an output a result? -/
def trained (s : State) (n : Nat) : Bool :=
  match (out_ s n).code with
  | some c => c != 255
  | none => false

/-- A training whose named outputs all have their results completes (R207). -/
def trainDone (o : Op) (s : State) : State :=
  match o.kind with
  | .train mask =>
    if (maskList 16 mask).all (trained s) then
      let code (n : Nat) : Nat := if mask.testBit n then ((out_ s n).code).getD 9 else 9
      let ok := (maskList 16 mask).all (fun n => code n == 0 || code n == 10)
      finish o.ch o.h (if ok then stOK else stFAILED) ((List.range 16).map (fun n => byteOf (code n)))
        (foldState (fun n t => setOut n { out_ t n with code := none } t) (maskList 16 mask) s)
    else s
  | _ => s

/-- STAGE_TRAIN_DONE (R207). -/
def execStageTrainDone (c : Nat) (s : State) : Host.Outcome State Fault Refusal :=
  run c (ifRunning fun s => foldState trainDone (s.ops.filter (fun o => isTrain o.kind)) s) s

/-- Does an action act on an output (R207)? -/
def actsOn (s : State) (action n : Nat) : Bool :=
  let st := outState s n
  match action with
  | 0 => st == oARMED
  | 1 => st == oRUN
  | 2 => st != oLATCHED
  | _ => st == oLATCHED

/-- A STAGE_RUN action at its boundary (R195, R222, R224). -/
def applyRun (n action : Nat) (s0 : State) : State :=
  if !actsOn s0 action n then s0
  else
    let s := if action = 0 ∨ action = 2 then stopSweep n s0 else s0
    let q := out_ s n
    match action with
    | 0 => enterRun n s
    | 1 => setOut n { q with toward := 4, soft := rampTo fpZero 1024 q.soft } s
    | 2 =>
      let t := setF (fPROT_RUN_RETRY n) 0 s
      let st := outState s n
      if st = oRUN then setOut n { q with toward := 1, soft := rampTo fpZero 1024 q.soft } t
      else turnOff n t
    | _ => enterOff n (setF (fPROT_RUN_RETRY n) 0 s)

/-- STAGE_RUN (R206, R207, R414): the action is fixed by the row. -/
def opStageRun (r : Req) (mask0 action : Nat) (s : State) : State :=
  let mask := mask0 % 65536
  let act := (maskList 16 mask).filter (actsOn s action)
  let m := act.foldl (fun a n => a + 2 ^ n) 0
  command r 0x0601
    [absentMod s, standbyDenied r s, notNowIf (action == 0 && s.oven == Bake.empty) 6, standbyNotNow s]
    (fun s => replyOK r 0x0601 (be2 m)
      (stage r 0x0601 (be2 m ++ [byteOf action, 0]) (act.map (fun n => .run n action)) s)) s

/-- STAGE_RUN action 0 (R207, R414). -/
def execStageRunRun (r : Req) (mask : Nat) (s : State) : Host.Outcome State Fault Refusal := run r.c (opStageRun r mask 0) s
/-- STAGE_RUN action 1 (R207). -/
def execStageRunArm (r : Req) (mask : Nat) (s : State) : Host.Outcome State Fault Refusal := run r.c (opStageRun r mask 1) s
/-- STAGE_RUN action 2 (R207). -/
def execStageRunOff (r : Req) (mask : Nat) (s : State) : Host.Outcome State Fault Refusal := run r.c (opStageRun r mask 2) s
/-- STAGE_RUN action 3 (R207, R223). -/
def execStageRunClearLatch (r : Req) (mask : Nat) (s : State) : Host.Outcome State Fault Refusal := run r.c (opStageRun r mask 3) s

def stageAddrs (n : Nat) : List Nat := [rSTAGE_BAL n, rSTAGE_LOOP n, rSTAGE_MOD n, rSTAGE_PC n]

/-- The settings last latched, staged ones included (R20). -/
def stageTarget (s : State) (n : Nat) : List Nat :=
  s.staged.foldl (fun o x => match x.w with
    | .stage k m ws => if k = n then applyWords (stageAddrs n) 0 m (ws.map (·.toNat)) o else o
    | _ => o) (heldWords s (stageAddrs n))

/-- A latched STAGE_SET takes effect (R188, R203, R207): MSCALE ramps over one batch, VLOOP from 0 to 1 zeroes the loop. -/
def latchStage (n mask : Nat) (ws : List Word) (s : State) : State :=
  let t := storeWords (stageAddrs n) (applyWords (stageAddrs n) 0 mask (ws.map (·.toNat)) (heldWords s (stageAddrs n))) s
  let q := out_ t n
  let q1 := if mask.testBit 8 then { q with mscale := rampTo (fpOfNat (getF t (fSTAGE_MOD_MSCALE n))) 16 q.mscale } else q
  let q2 := if getF s (fSTAGE_LOOP_VLOOP n) = 0 ∧ getF t (fSTAGE_LOOP_VLOOP n) = 1 then { q1 with acc := fpZero } else q1
  setOut n q2 t

def opStageSet (r : Req) (out mask : Nat) (words : List Word) (s : State) : State :=
  let ns := outsNamed out
  command r 0x0602 [absentMod s, standbyDenied r s, standbyNotNow s]
    (fun s =>
      let ap (n : Nat) : List Word := (applyWords (stageAddrs n) 0 mask (words.map (·.toNat)) (stageTarget s n)).map (BitVec.ofNat 32)
      let first := ap (ns.headD 0)
      replyOK r 0x0602 (beWords first)
        (stage r 0x0602 ([byteOf out, 0] ++ be2 mask ++ beWords first) (ns.map (fun n => .stage n mask (ap n))) s)) s

/-- STAGE_SET (R206, R207). -/
def execStageSet (r : Req) (out mask : Nat) (words : List Word) (s : State) : Host.Outcome State Fault Refusal :=
  run r.c (opStageSet r out mask words) s

def clearStageCnt (n : Nat) (s : State) : State :=
  setF (fSTAGE_CNT_CRCE n) 0 (setF (fSTAGE_CNT_LIMIT n) 0 (setF (fSTAGE_CNT_CLIP n) 0 (setF (fSTAGE_CNT_NSSAT n) 0 s)))

def opStageStatus (r : Req) (out clear : Nat) (s : State) : State :=
  let n := clampHi 15 out
  let l := laneOf n
  command r 0x0603 [absentMod s]
    (fun s =>
      let rec0 := if getF s (fSTAGE_LANE_IDOK l) = 1 then ((gl s l).ident ++ zeros 32).take 32 else zeros 32
      when_ (decide (1 ≤ clear)) (clearStageCnt n)
        (replyOK r 0x0603 ([rSTAGE_STS n, rSTAGE_CNT n, rSTAGE_LANE l].flatMap (fun a => be4 (peekReg s a)) ++ rec0) s)) s

/-- STAGE_STATUS (R207). -/
def execStageStatus (r : Req) (out clear : Nat) (s : State) : Host.Outcome State Fault Refusal := run r.c (opStageStatus r out clear) s

def opStageSense (r : Req) (out : Nat) (s : State) : State :=
  let n := clampHi 15 out
  command r 0x0604 [absentMod s]
    (fun s =>
      let q := out_ s n
      let fc := (List.range 5).map (fun k => if k + 1 < cellsOf s n then (q.fc[k]?).getD 0 else 0)
      replyOK r 0x0604 (beWords ([q.vbus, q.vbf] ++ fc ++ [q.i1, q.v1, q.temp, headGain s n]) ++
        [byteOf (getF s (fSTAGE_STS_ROT n)), 0, 0, 0]) s) s

/-- STAGE_SENSE (R207). -/
def execStageSense (r : Req) (out : Nat) (s : State) : Host.Outcome State Fault Refusal := run r.c (opStageSense r out) s

/-- The stage opcodes (R207). -/
def parseStage (r : Req) (op : Nat) (p : List Byte) : Parse :=
  match op with
  | 0x0600 => lenIs 4 p (.stageTrain r (n2 p 0))
  | 0x0601 =>
    let m := n2 p 0
    lenIs 4 p (match n1 p 2 with
      | 0 => .stageRunRun r m
      | 1 => .stageRunArm r m
      | 2 => .stageRunOff r m
      | _ => .stageRunClearLatch r m)
  | 0x0602 => lenIs 20 p (.stageSet r (n1 p 0) (n2 p 2) (wordsAt p 4 4))
  | 0x0603 => lenIs 4 p (.stageStatus r (n1 p 0) (n1 p 1))
  | 0x0604 => lenIs 4 p (.stageSense r (n1 p 0))
  | _ => .unknown

end Sys2Proof.Machine
end

