-- ==== Sys2Proof/Machine/Twin.lean ====
section
/-! DEFINITION. Twins (R304 to R333): roles and claims, twin lanes, the mirror, joining, the referee port and the referee, and the
twin commands. The TAG codes of CONTROL items and the layouts of CLOSE and BULK data are the model's (log entry 27). -/
namespace Sys2Proof.Machine

open Sys2Proof

def tSOLO : Nat := 0
def tACTIVE : Nat := 1
def tSTANDBY : Nat := 2
def tREFEREE : Nat := 3

def role (s : State) : Nat := getF s fTWIN_STAT_ROLE
def sync (s : State) : Nat := getF s fTWIN_STAT_SYNC
def setSync (v : Nat) (s : State) : State := setF fTWIN_STAT_SYNC v s

def isJoin : OpKind → Bool
  | .join => true
  | _ => false

def isSwitch : OpKind → Bool
  | .switch => true
  | _ => false

/-! ## The words of declared blocks (R88, R315, R318) -/

/-- A count, and a ramp, as words. -/
def natWord (n : Nat) : Word := BitVec.ofNat 32 n
def rampWords (r : Ramp) : List Word := [r.start, r.target, natWord r.len, natWord r.pos]
def rampAtWord (ws : List Word) (k : Nat) : Ramp :=
  { start := ws.getD k 0, target := ws.getD (k + 1) 0, len := (ws.getD (k + 2) 0).toNat, pos := (ws.getD (k + 3) 0).toNat }
def fillTo (n : Nat) (ws : List Word) : List Word := (ws ++ List.replicate n 0).take n

/-- The 23 state words of an output: shaper states, loop accumulator, rotation, STATE, the steps of training and precharge, the soft
start (R182, R186, R188, R203, R318). -/
def outWords (s : State) (n : Nat) : List Word :=
  let q := out_ s n
  fillTo 6 q.e1 ++ fillTo 6 q.e2 ++ [q.acc, natWord (getF s (fSTAGE_STS_ROT n)), natWord (getF s (fSTAGE_STS_STATE n)), natWord q.step,
    natWord q.pcCap, natWord q.pcT, natWord q.toward] ++ rampWords q.soft

/-- The 39 state words of an output's protection: temperatures, powers, gain and RETRY; the sums, phases and filters of the tracker, the
pilot and the probe; the retry that waits (R208, R214, R224, R318). -/
def protWords (s : State) (n : Nat) : List Word :=
  let q := prot s n
  let p := q.probe
  [q.tc, q.ts, q.pf, q.pss, q.gOld, q.gNew, natWord (getF s (fPROT_RUN_RETRY n)),
   q.vc, q.vs, q.ic, q.is_, q.lpVI, q.lpII, natWord q.wn, q.tcSum, natWord q.tcN, q.phase, q.probePhase] ++ rampWords q.pilot ++
  [p.vc, p.vs, p.ic, p.is_, natWord p.n,
   natWord (b01 q.crit + 2 * b01 q.retryWait + 4 * b01 q.retryDue + 8 * b01 q.retrying), natWord q.devRun, natWord q.lossRun, q.sumVI] ++
  fillTo 4 q.vHist ++ fillTo 4 q.iHist

/-- The state words of a stream: its sequence number, its SSRC, and where its packets stand (R274, R318). -/
def streamWords (s : State) (o : Nat) : List Word :=
  let x := stream s o
  [natWord x.seq, x.set.ssrc, x.lastTs]

/-- The words of a dynamics instance: its envelope, its look-ahead buffers, and the gain in use (R315). -/
def dynWords (x : DynSt) : List Word := x.g :: x.buf ++ x.keyBuf ++ x.req ++ [x.app]

/-- What a declared word holds. -/
def readDeclared (s : State) (space addr : Nat) : Word :=
  if space < 144 then dspWord s space addr
  else if space = 144 then
    match delayDef s.oven (addr / 2 ^ 20) with
    | some (_, d) => unpackWord d.packing (memBytes s (delayAddr d (addr % 2 ^ 20)) d.packing)
    | none => 0
  else if space = 145 then
    match dyn s (addr / 65536) with
    | some x => (dynWords x).getD (addr % 65536) 0
    | none => 0
  else if space = 146 then ((bridgeHist s (addr / 64))[addr % 64]?).getD 0
  else if space = 147 then ((outWords s (addr / 64))[addr % 64]?).getD 0
  else if space = 148 then ((protWords s (addr / 64))[addr % 64]?).getD 0
  else if space = 149 then (streamWords s (addr / 64)).getD (addr % 64) 0
  else BitVec.ofNat 32 (portState s addr)

/-- An output's state words are written by place: the list of them, with one changed, is taken back. -/
def writeOutWord (n k : Nat) (w : Word) (s : State) : State :=
  let ws := (outWords s n).set k w
  let at_ (i : Nat) : Nat := (ws.getD i 0).toNat
  let t := setF (fSTAGE_STS_ROT n) (at_ 13)
    (setOut n { out_ s n with e1 := ws.take 6, e2 := (ws.drop 6).take 6, acc := ws.getD 12 0, step := at_ 15, pcCap := at_ 16, pcT := at_ 17,
                              toward := at_ 18, soft := rampAtWord ws 19 } s)
  if k = 14 then setOutState n (w.toNat % 8) t else t

def writeProtWord (n k : Nat) (w : Word) (s : State) : State :=
  let ws := (protWords s n).set k w
  let g (i : Nat) : Word := ws.getD i 0
  let flags := (g 27).toNat
  setF (fPROT_RUN_RETRY n) (g 6).toNat
    (setProt n { prot s n with
      tc := g 0, ts := g 1, pf := g 2, pss := g 3, gOld := g 4, gNew := g 5, vc := g 7, vs := g 8, ic := g 9, is_ := g 10, lpVI := g 11,
      lpII := g 12, wn := (g 13).toNat, tcSum := g 14, tcN := (g 15).toNat, phase := g 16, probePhase := g 17, pilot := rampAtWord ws 18,
      probe := { vc := g 22, vs := g 23, ic := g 24, is_ := g 25, n := (g 26).toNat }, crit := flags.testBit 0,
      retryWait := flags.testBit 1, retryDue := flags.testBit 2, retrying := flags.testBit 3, devRun := (g 28).toNat,
      lossRun := (g 29).toNat, sumVI := g 30, vHist := (ws.drop 31).take 4, iHist := (ws.drop 35).take 4 } s)

def writeStreamWord (o k : Nat) (w : Word) (s : State) : State :=
  let ws := (streamWords s o).set k w
  let x := stream s o
  setStream o { x with seq := (ws.getD 0 0).toNat % 65536, set := { x.set with ssrc := ws.getD 1 0 }, lastTs := ws.getD 2 0 } s

def writeDynWord (k : Nat) (w : Word) (x : DynSt) : DynSt :=
  let ws := (dynWords x).set k w
  let a := 1 + x.buf.length
  let b := a + x.keyBuf.length
  let c := b + x.req.length
  { x with g := ws.getD 0 0, buf := (ws.drop 1).take x.buf.length, keyBuf := (ws.drop a).take x.keyBuf.length,
           req := (ws.drop b).take x.req.length, app := ws.getD c 0 }

/-- Write a declared word. -/
def writeDeclared (space addr : Nat) (w : Word) (s : State) : State :=
  if space < 144 then setDspWord space addr w s
  else if space = 144 then
    match delayDef s.oven (addr / 2 ^ 20) with
    | some (_, d) => setMemBytes (delayAddr d (addr % 2 ^ 20)) (packWord d.packing w) s
    | none => s
  else if space = 145 then
    match dyn s (addr / 65536) with
    | some x => setDyn (addr / 65536) (some (writeDynWord (addr % 65536) w x)) s
    | none => s
  else if space = 146 then setBridgeHist (addr / 64) ((bridgeHist s (addr / 64)).set (addr % 64) w) s
  else if space = 147 then writeOutWord (addr / 64) (addr % 64) w s
  else if space = 148 then writeProtWord (addr / 64) (addr % 64) w s
  else if space = 149 then writeStreamWord (addr / 64) (addr % 64) w s
  else setPortState addr (w.toNat % 8) s

/-- The places of a block's words. -/
def blockWords (b : Bake) (k : StateBlock) : List (Nat × Nat) :=
  match k.obj with
  | .mem sp l => (List.range k.len).map (fun i => (sp, l + i))
  | .delay l _ _ => match delayDef b l with
    | some (_, d) => (List.range (delayCap d)).map (fun i => (144, l * 2 ^ 20 + i))
    | none => []
  | .dyn i => (List.range k.len).map (fun j => (145, i * 65536 + j))
  | .bridge i => (List.range (min 64 k.len)).map (fun j => (146, i * 64 + j))
  | .out n => (List.range 23).map (fun j => (147, n * 64 + j))
  | .prot n => (List.range 39).map (fun j => (148, n * 64 + j))
  | .aes o => (List.range 3).map (fun j => (149, o * 64 + j))
  | .port n => [(150, n)]

/-- Every declared word of the oven in the order of its mirror maps (R88, R320). -/
def declaredWords (b : Bake) : List (Nat × Nat) :=
  b.trays.flatMap fun t => (t.blocks.filter (fun k => t.mirror.contains k.tag)).flatMap (blockWords b)

/-- At a boundary the active records the states that fixed units update once per batch (R318). -/
def recordUnits (s : State) : State :=
  if joined s then
    foldState (fun e t => if 147 ≤ e.1 then record e.1 e.2 (readDeclared t e.1 e.2) t else t) (declaredWords s.oven) s
  else s

/-! ## Roles (R305, R306, R325) -/

/-- The highest claim seen (R306, R331). -/
def seeClaim (c : Nat) (s : State) : State :=
  if claimHigher c (getF s fTWIN_CLAIM_HIGH) then setF fTWIN_CLAIM_HIGH c s else s

/-- A join in progress fails with a result code (R333). -/
def failJoin (code : Nat) (s : State) : State :=
  finishAll isJoin stFAILED (byteOf code :: zeros 7) { s with twin := { s.twin with join := 0 } }

/-- Write-through to this engine stops. -/
def forgetSync (s : State) : State :=
  { setSync 0 s with twin := { s.twin with join := 0, rxCells := [], prevCells := [], close := none, lostCell := false, mixed := s.twin.mixed } }

/-- A standby's SYNC goes to NONE; with `shard`, SYNC_LOST is sent (R317, R330). AUTOJOIN may join again. -/
def loseSync (code : Nat) (shard : Bool) (s : State) : State :=
  if role s ≠ tSTANDBY ∨ (sync s = 0 ∧ s.twin.join = 0) then s
  else
    let t := when_ (decide (2 ≤ sync s)) (bump fTWIN_CNT_SYNCLOSS) s
    let u := when_ shard (send 13 0 10 5 0) (forgetSync (failJoin code t))
    { u with twin := { u.twin with rejoin := true } }

/-- At a switch-over the sweep or calibration of an output stops, and it returns to ARMED (R224). -/
def stopTests (s : State) : State :=
  foldState (fun n t =>
    let c := calibrating t n
    when_ c (applyRun n 1) (stopCal n (stopSweep n t))) (List.range 16) s

/-- An active becomes STANDBY, SYNC NONE (R305). -/
def demote (s : State) : State :=
  if role s = tACTIVE then
    let t := send 13 0 10 2 0 (forgetSync (setF fTWIN_STAT_ROLE tSTANDBY (stopTests s)))
    { t with twin := { t.twin with peerSync := 0, rejoin := true, txRecs := [], closeOut := [] } }
  else s

/-- A standby becomes ACTIVE with the claim granted (R325). -/
def promote (claim : Nat) (s : State) : State :=
  let t := send 13 0 10 1 0 (bump fTWIN_CNT_GRANT (forgetSync (failJoin 1 (setF fTWIN_CLAIM_CLAIM claim (setF fTWIN_STAT_ROLE tACTIVE (stopTests s))))))
  { t with twin := { t.twin with peerSync := 0, rejoin := false, txRecs := [], closeOut := [], copied := 0 } }

/-- Twin lanes start training, or return to idle, with the configured role (R309). -/
def startTwinLanes (s : State) : State :=
  foldState (fun l t => if laneState t l = lOFF then setLaneState l lTRAIN t else t) [8, 9, 10, 11] s
def stopTwinLanes (s : State) : State := foldState offLane [8, 9, 10, 11] s

/-- Does R305 refuse this configured role? -/
def roleRefused (s : State) (v : Nat) : Bool :=
  (v == 0 && role s == tACTIVE) || (v == 2 && (role s == tACTIVE || role s == tSTANDBY)) || (v == 1 && role s == tREFEREE)

/-- The role follows TWIN_CFG.ROLE where R305 allows it. -/
def followRole (v : Nat) (s : State) : State :=
  match v with
  | 0 =>
    if role s = tSTANDBY then
      let t := stopTwinLanes (forgetSync (failJoin 4 s))
      setF fTWIN_STAT_ROLE tSOLO { t with twin := { t.twin with rejoin := false } }
    else if role s = tREFEREE then setF fTWIN_STAT_ROLE tSOLO s
    else s
  | 1 => if role s = tSOLO then startTwinLanes (setSync 0 (setF fTWIN_STAT_ROLE tSTANDBY s)) else s
  | _ =>
    if role s = tSOLO then
      setF fTWIN_STAT_ROLE tREFEREE
        { s with twin := { s.twin with owner := none, grant := 0, miss := 0, last0 := [], last1 := [], absent := 0, noStandby := false } }
    else s

/-- A write of TWIN_CFG by other means than TWIN_CONFIG: a role that R305 refuses keeps its old value. -/
def followTwinCfg (old : Nat) (s : State) : State :=
  let v := getF s fTWIN_CFG_ROLE
  if v = old then s
  else if roleRefused s v then setF fTWIN_CFG_ROLE old s
  else followRole v s

/-! ## Frames and cells that the engine sends (R311, R312, R315, R318) -/

def mirrorBytesOf (m : MirrorRec) : List Byte :=
  [byteOf m.space, byteOf m.words.length, 0, 0] ++ beWord m.addr ++ beWords m.words

/-- Pack chunks of at most 64 bytes into cells' data; none spans two cells. -/
def packChunks (l : List (List Byte)) : List (List Byte) :=
  let r := l.foldl (fun (acc : List (List Byte) × List Byte) c =>
    if acc.2.length + c.length ≤ 64 then (acc.1, acc.2 ++ c) else (acc.1 ++ [acc.2], c)) ([], [])
  if r.2.isEmpty then r.1 else r.1 ++ [r.2]

def controlItem (tag : Nat) (data : List Byte) : List Byte := [byteOf tag, byteOf data.length] ++ data

/-- The lane that the bake's twin map pairs with the active's lane `l` (R251). -/
def pairedLane (s : State) (l : Nat) : Nat :=
  ((List.range 8).find? (fun k => ((laneDef s.oven k).bind (·.twin)) == some l)).getD l

/-- OFFS of the trunk lanes. -/
def offsNow (s : State) : List Nat := (List.range 8).map (fun l => getF s (fTL_OFFS_OFFS l))

/-- The CONTROL items of a batch (R318): TAG 1 an ASRC channel's ratio and fraction, 2 a lane's OFFS on change, 3 the trunk lanes
without a valid frame and the ports in LOST, 4 the BAKE_IDs of oven and proof and PPSCNT, 5 the LIB, PRT and GLT versions, 6 the
AES67 streams underrun, 7 the Damper state (R348). -/
def controlItems (s : State) : List (List Byte) :=
  let act := role s == tACTIVE
  let asrc := if act then ((List.range 64).filter (fun k => getF s (fASRC_FRAC_OWNER k) != 0xFF && getF s (fASRC_FRAC_LOCK k) == 1)).map (fun k =>
      controlItem 1 ([byteOf k] ++ be4 (getF s (fASRC_RATIO_RATIO k)) ++ be2 (getF s (fASRC_FRAC_FRACTION k)))) else []
  let offs := if act then ((List.range 8).filter (fun l => s.twin.sentOffs[l]? != (offsNow s)[l]?)).map (fun l =>
      controlItem 2 ([byteOf l] ++ be4 ((offsNow s).getD l 0))) else []
  let valid := if act then [controlItem 3 [byteOf (maskWhere 8 (fun l => getF s (fTL_STS_HOLD l) == 1)), byteOf (maskWhere 8 (fun n => portState s n == pLOST))]] else []
  let proofId := if proofState s = proofVALID then beWord s.proof.id else zeros 4
  let under := (s.oven.aes.filter (fun a => isRx a.owner && (stream s a.owner).state == 4)).map (fun a => controlItem 6 [byteOf a.owner])
  asrc ++ offs ++ valid ++ [controlItem 4 (beWord s.oven.id ++ proofId ++ be2 (getF s fCLK_OUT_PPSCNT)),
    controlItem 5 (beWord s.upd.libVer ++ beWord s.upd.prtVer ++ beWord s.upd.gltVer)] ++ (if act then under else []) ++
  (if joined s || sync s != 0 then [controlItem 7 [byteOf (getF s fPWR_STAT_DAMPER)]] else [])

def makeCell (type i : Nat) (data : List Byte) : List Byte :=
  let b := [byteOf type] ++ be2 i ++ (data ++ zeros 64).take 64
  b ++ be2 (crc16 b)

/-- Cells of a type from index `i` on. -/
def numberCells (type i : Nat) (l : List (List Byte)) : List (Nat × List Byte) := l.zipIdx.map (fun e => (i + e.2, makeCell type (i + e.2) e.1))

/-- A packet of channel 3 in segments of 64 bytes (R312), and the packets at the head of a queue whose segments fit `room` cells. -/
def segments (b : List Byte) : List (List Byte) := (List.range ((b.length + 63) / 64)).map (fun k => (b.drop (64 * k)).take 64)
def fitCh3 : Nat → List OutItem → List OutItem
  | _, [] => []
  | room, it :: t => if (segments it.bytes).length ≤ room then it :: fitCh3 (room - (segments it.bytes).length) t else []

/-- Packets of channel 3 have left; a completion among them closes its handle (R52). -/
def sentCh3 (its : List OutItem) (s : State) : State :=
  foldState (fun (it : OutItem) t => match it.handle with
    | some h => delivered 3 h (num it.bytes 26 2) t
    | none => t) its (setChan 3 { chan s 3 with out := (chan s 3).out.drop its.length } s)

/-- BULK data: 16 declared words a cell, from byte `from` of the bulk pass. -/
def bulkData (s : State) (from_ room : Nat) : List (List Byte) :=
  let ws := ((declaredWords s.oven).drop (from_ / 4)).take (room * 16)
  let cells := (ws.length + 15) / 16
  (List.range cells).map (fun k => ((ws.drop (16 * k)).take 16).flatMap (fun e => beWord (readDeclared s e.1 e.2)))

def bulkTotal (s : State) : Nat := 4 * (declaredWords s.oven).length

/-- TWIN_COPY.REMAIN in KiB. -/
def showRemain (s : State) : State := setF fTWIN_COPY_REMAIN (min 65536 ((bulkTotal s - s.twin.copied + 1023) / 1024)) s

/-- The header of a twin-lane frame, symbols 2 to 13 (R311). -/
def twinHeader (s : State) (l : Nat) : List Byte :=
  let b := be2 (getF s fTWIN_CLAIM_CLAIM) ++ be4 (getF s fSYS_BATCH_INDEX) ++ [byteOf (l + 4 * role s + 16 * sync s), 0] ++ be2 (getF s fTWIN_CFG_PAIRID)
  b ++ be2 (crc16 b)

/-- The 81,920 symbols of a frame on lane `l` (R311, R312): cells at their positions, IDLE cells in the rest. -/
def twinSymbols (l : Nat) (header : List Byte) (cells : List (Nat × List Byte)) : List Sym :=
  let cell (p : Nat) : List Byte := match cells.find? (fun e => e.1 == 4 * p + l) with
    | some e => e.2
    | none => makeCell 0 (4 * p + l) []
  [k28_5, k28_1] ++ (header ++ zeros 2).map Sym.d ++ (List.range 1170).flatMap (fun p => k27_7 :: (cell p).map Sym.d) ++
    k29_7 :: List.replicate 3 k23_7

/-- The frames of the batch that ends, on all four lanes (R311, R312); the active closes the batch with the CLOSE that the next
frame carries (R315). -/
def sendTwins (s : State) : State :=
  if !hasTwin s ∨ !inPair s then s
  else
    let recs := s.twin.txRecs.map mirrorBytesOf
    let bytes := (recs.map (·.length)).sum
    let mir := numberCells 1 0 (packChunks recs)
    let cls := numberCells 2 mir.length (if s.twin.closeOut.isEmpty then [] else [s.twin.closeOut])
    let n2 := mir.length + cls.length
    let ctl := numberCells 3 n2 (packChunks (controlItems s))
    let n3 := n2 + ctl.length
    let pkts := if getF s fTWIN_STAT_TWUP = 1 then fitCh3 (4680 - n3) (chan s 3).out else []
    let ch3 := numberCells 4 n3 (pkts.flatMap (fun it => segments it.bytes))
    let n4 := n3 + ch3.length
    let blk := if role s = tACTIVE ∧ s.twin.peerSync = 1 then bulkData s s.twin.copied (4680 - n4) else []
    let cells := mir ++ cls ++ ctl ++ ch3 ++ numberCells 5 n4 blk
    let t := foldState (fun l u =>
      if laneState u (8 + l) = lOFF then u
      else
        let a := sendArea u (8 + l)
        let up := laneState u (8 + l) == lUP
        let live := decide (lRANGE ≤ laneState u (8 + l))
        capsDone (8 + l) (emit (.twin l (twinSymbols l (twinHeader u l) (if up then cells.filter (fun e => e.1 % 4 == l) else [])) (if live then a.1 else []))
          (if live then setLane (8 + l) a.2 u else u))) [0, 1, 2, 3] (sentCh3 pkts s)
    let last := min 262144 bytes
    let u := setF fTWIN_MIR_LAST last (setF fTWIN_MIRPK_PEAK (max last (getF t fTWIN_MIRPK_PEAK)) t)
    showRemain { u with twin := { u.twin with
      txRecs := [], sentOffs := offsNow u, copied := u.twin.copied + 64 * blk.length,
      closeOut := if role u = tACTIVE ∧ joined u then be4 recs.length ++ be4 (crc32 recs.flatten) else [] } }

/-! ## Frames that arrive (R305, R310 to R312, R317, R318) -/

/-- The CONTROL items of a cell, TAG 0 ends them. -/
def readItems : Nat → List Byte → List (Nat × List Byte)
  | 0, _ => []
  | k + 1, b =>
    let n := num b 1 1
    if num b 0 1 = 0 ∨ b.length < 2 + n then [] else (num b 0 1, sub b 2 n) :: readItems k (b.drop (2 + n))

/-- An active's measurements and input validity reach the standby (R318); versions and bakes reach both. -/
def takeItem (i : Nat × List Byte) (s : State) : State :=
  let d := i.2
  let follower := role s == tSTANDBY && sync s != 0
  match i.1 with
  | 1 =>
    if follower && decide (num d 0 1 < 64) then
      setF (fASRC_RATIO_RATIO (num d 0 1)) (num d 1 4) (setF (fASRC_FRAC_FRACTION (num d 0 1)) (num d 5 2) s)
    else s
  | 2 =>
    let l := pairedLane s (num d 0 1)
    if follower && decide (num d 0 1 < 8) then setOffs l (num d 1 4) (setLane l { lane s l with offsSet := true } s) else s
  | 3 =>
    if follower then
      foldState (fun n t => if portState t n = pRUN then lostPort n t else t) (maskList 8 (num d 1 1))
        (foldState (fun l t => dropDue (pairedLane t l) (batch t + 1) t) (maskList 8 (num d 0 1)) s)
    else s
  | 4 => { s with twin := { s.twin with peerOven := some (w4 d 0), peerProof := if num d 4 4 = 0 then none else some (w4 d 4), peerPps := num d 8 2 } }
  | 5 => { s with twin := { s.twin with mixed := !(w4 d 0 == s.upd.libVer && w4 d 4 == s.upd.prtVer && w4 d 8 == s.upd.gltVer) } }
  | 6 => if follower then loseStream (num d 0 1) s else s
  | 7 =>
    let on := num d 0 1 == 1
    let t := { s with twin := { s.twin with parked := on } }
    if on && !s.twin.parked then foldState parkCore (List.range 128) t else t
  | _ => s

/-- A standby writes the active's word and counts a difference once per batch, not under MIXED (R317). -/
def applyWordDecl (space addr : Nat) (w : Word) (s : State) : State :=
  let differs := readDeclared s space addr != w
  let t := if differs && sync s != 3 && !s.twin.diverged then
      send 13 0 10 4 0 (bump fTWIN_CNT_DIVERGE { s with twin := { s.twin with diverged := true } })
    else s
  writeDeclared space addr w t

/-- A BULK cell: 16 words of the bulk pass (R320). -/
def takeBulk (data : List Byte) (s : State) : State :=
  let ws := ((declaredWords s.oven).drop (s.twin.copied / 4)).take 16
  let t := foldState (fun e u => writeDeclared e.1.1 e.1.2 (w4 data (4 * e.2)) u) ws.zipIdx s
  showRemain { t with twin := { t.twin with copied := t.twin.copied + 64 } }

/-- A cell (R312). One whose HCRC fails is lost; losing MIRROR, CLOSE or CONTROL ends READY (R317). -/
def takeCell (b : List Byte) (s : State) : State :=
  let type := num b 0 1
  let data := sub b 3 64
  if b.length ≠ 69 ∨ num b 67 2 ≠ crc16 (b.take 67) then
    if 1 ≤ type ∧ type ≤ 3 then { s with twin := { s.twin with lostCell := true } } else s
  else
    match type with
    | 1 => if sync s ≠ 0 then { s with twin := { s.twin with rxCells := s.twin.rxCells ++ [(num b 1 2, data)] } } else s
    | 2 => if sync s ≠ 0 then { s with twin := { s.twin with close := some (num data 0 4, num data 4 4) } } else s
    | 3 => foldState takeItem (readItems 32 data) s
    | 5 => if role s = tSTANDBY ∧ sync s = 1 then takeBulk data s else s
    | _ => s

def takeTwinHeader (h : List Byte) (s : State) : State :=
  let claim := num h 0 2
  let flags := num h 6 1
  let t := seeClaim claim
    { s with twin := { s.twin with peerClaim := claim, peerBatch := w4 h 2, peerRole := bits flags 3 2,
                                   peerSync := if bits flags 3 2 = tSTANDBY then bits flags 5 4 else 0 } }
  let u := if role s = tACTIVE ∧ s.twin.peerSync = 0 ∧ t.twin.peerSync = 1 then { t with twin := { t.twin with copied := 0, sentOffs := [] } } else t
  if role u = tACTIVE ∧ claimHigher claim (getF u fTWIN_CLAIM_CLAIM) then demote u else u

/-- TWIN_FRAME on lane `l`, 0 to 3 (R310 to R312): a frame whose header fails, or of another pair, only carries its comma. -/
def twinFrame (l : Nat) (f : TwinFrame) (s0 : State) : State :=
  if !laneLive s0 (8 + l) ∨ laneState s0 (8 + l) = lOFF then s0
  else
    let s := takeComma (8 + l) f.comma s0
    let good := f.comma && f.header.length == 12 && num f.header 10 2 == crc16 (f.header.take 10) &&
      num f.header 8 2 == getF s fTWIN_CFG_PAIRID && num f.header 6 1 % 4 == l
    if !good then s
    else
      let s1 := takeTwinHeader f.header s
      let s2 := foldState (takeMsg (8 + l) f.det 2) (areaMsgs 1024 f.msgs) s1
      if laneState s2 (8 + l) = lUP then foldState takeCell f.cells s2 else s2

/-- TWIN_FRAME (R311). -/
def execTwinFrame (c : Nat) (l : Nat) (f : TwinFrame) (s : State) : Host.Outcome State Fault Refusal := runMem c (twinFrame l f) s

/-- MIRROR_APPLY: a record is written 4,096 cycles after its store (R315, R317). -/
def mirrorApply (m : MirrorRec) (s : State) : State :=
  if hasTwin s ∧ role s = tSTANDBY ∧ sync s ≠ 0 then
    foldState (fun e t => applyWordDecl m.space (m.addr.toNat + e.2) e.1 t) m.words.zipIdx s
  else s

def execMirrorApply (c : Nat) (m : MirrorRec) (s : State) : Host.Outcome State Fault Refusal := runMem c (ifRunning (mirrorApply m)) s

/-- The twin lanes stop serving the pair: a lane in UP is lost (R330). -/
def twinLaneLoss (l : Nat) (s : State) : State :=
  if laneLive s (8 + l) ∧ laneState s (8 + l) = lUP then
    loseSync 1 false (send 13 l 10 7 0 (trainLane (8 + l) (setLaneLock (8 + l) false s)))
  else s

/-- TWIN_LANE_LOSS (R330, R333). The active forgets its standby, which has gone to SYNC NONE. -/
def execTwinLaneLoss (c : Nat) (l : Nat) (s : State) : Host.Outcome State Fault Refusal :=
  run c (fun s =>
    let t := twinLaneLoss l s
    if role t = tACTIVE ∧ getF t fTWIN_STAT_TWUP = 0 then { t with twin := { t.twin with peerSync := 0 } } else t) s

/-! ## Joining (R319, R320) -/

/-- May a standby join (R319)? -/
def joinOk (s : State) : Bool :=
  role s == tSTANDBY && sync s == 0 && getF s fTWIN_STAT_TWUP == 1 && clkState s == kLOCKED &&
    (match selected s with
     | some e => entSource s e == 12
     | none => false) &&
    proofState s == proofVALID && s.twin.peerOven == some s.proof.id

/-- The records of cells in order: each of 8 bytes and its words; a COUNT of 0 ends a cell. -/
def readRecs : Nat → List Byte → List (List Byte)
  | 0, _ => []
  | k + 1, b =>
    let n := num b 1 1
    if n = 0 ∨ b.length < 8 + 4 * n then [] else b.take (8 + 4 * n) :: readRecs k (b.drop (8 + 4 * n))

/-- Does a CLOSE fit the records of its batch (R315)? -/
def closeFits (s : State) : Bool :=
  let sorted := (List.range 4680).filterMap (fun i => (s.twin.prevCells.find? (fun e => e.1 == i)).map (·.2))
  let recs := sorted.flatMap (readRecs 8)
  match s.twin.close with
  | some (n, k) => n == recs.length && k == crc32 recs.flatten
  | none => false

/-- What a standby makes of the cells of a batch at the boundary (R317, R320): `true` when the batch is checked and good. -/
def batchChecked (s : State) : Bool := !s.twin.lostCell && closeFits s

/-- The boundary's work of a standby: a failed batch ends READY; a whole checked batch after the bulk pass gives READY or MIXED. -/
def twinBoundary (s : State) : State :=
  let turn (t : State) : State := { t with twin := { t.twin with prevCells := t.twin.rxCells, rxCells := [], close := none, lostCell := false, diverged := false } }
  if role s ≠ tSTANDBY then turn s
  else if sync s = 0 then
    if s.twin.rejoin ∧ s.twin.join = 0 ∧ getF s fTWIN_CFG_AUTOJOIN = 1 ∧ joinOk s then
      turn { s with twin := { s.twin with join := 1, rejoin := false } }
    else turn s
  else if s.twin.join = 3 then
    -- the first frame after the commit still belongs to the batch before it
    if s.twin.lostCell ∨ (s.twin.close.isSome ∧ !closeFits s) then turn (loseSync 2 true s)
    else if bulkTotal s ≤ s.twin.copied then turn { s with twin := { s.twin with join := 4 } }
    else turn s
  else if !batchChecked s then turn (loseSync 2 true s)
  else if s.twin.join = 4 then
    let v := if s.twin.mixed then 3 else 2
    turn (finishAll isJoin stOK ([byteOf v, 0, 0, 0] ++ be4 s.twin.copied) (setSync v { s with twin := { s.twin with join := 0 } }))
  else turn s

/-- Step 1 of a join at its first boundary: the batch index and PPSCNT of the active (R17, R320), and a request to it. -/
def takePhase (s : State) : State :=
  if s.twin.join = 1 then
    sendCh3 0 0x0901 []
      (setF fCLK_OUT_PPSCNT ((s.twin.peerPps + 1) % 12000) (setF fSYS_BATCH_INDEX (s.twin.peerBatch + 1).toNat
        { s with twin := { s.twin with join := 2 } }))
  else s

/-- A commit names the join's target boundary (R320). -/
def joinTarget (t : Word) (s : State) : State := { s with twin := { s.twin with joinAt := t, join := 3 } }

/-- Is this boundary the join's commit? -/
def joinCommits (s : State) : Bool := role s == tSTANDBY && s.twin.join == 3 && sync s == 0 && s.twin.joinAt == batch s

/-- Write-through starts with the commit (R320). -/
def startCopying (s : State) : State :=
  showRemain { setSync 1 s with twin := { s.twin with copied := 0, rxCells := [], prevCells := [], close := none, lostCell := false } }

/-! ## The referee port (R321 to R325) -/

/-- FAULT in a twin's words (R322, R330, R352). -/
def wordFault (s : State) : Bool :=
  getF s fKILN_STAT_SAFE == 1 || getF s fKILN_STAT_FAILREQ == 1 || (match s.pwr.standby with
    | .awake => false
    | .entering n => decide (n < 100)
    | _ => true) || s.kiln.resets.any (fun u => u.unit == 13)

/-- Symbols 2 to 11, with their CRC-32. -/
def sealWord (b : List Byte) : List Byte := b ++ be4 (crc32 b)

def refComma (quarter : Nat) : List Byte := [0xBC, if quarter = 0 then 0x3C else 0x5C]

/-- A twin's word (R322). -/
def twinWord (s : State) (quarter : Nat) : List Byte :=
  refComma quarter ++ sealWord (be2 (getF s fTWIN_CLAIM_CLAIM) ++ be4 (getF s fSYS_BATCH_INDEX) ++
    [byteOf (quarter % 4 + 4 * role s + 16 * sync s + 64 * b01 (wordFault s) + 128 * getF s fTWIN_CFG_SIDE),
     byteOf (b01 (decide (0 < s.twin.swreq)) + 2 * b01 (decide (0 < s.twin.swreq) && s.twin.force) + 4 * b01 (clkState s == kLOCKED) +
       8 * getF s fTWIN_STAT_TWUP + 16 * b01 (!ovenEmpty s))] ++ be2 (getF s fTWIN_CFG_PAIRID))

/-- The referee's word (R323). -/
def refereeWordOf (s : State) (quarter : Nat) : List Byte :=
  refComma quarter ++ sealWord (be2 (getF s fTWIN_CLAIM_CLAIM) ++
    [byteOf (s.twin.owner.getD 0 + 2 * b01 s.twin.owner.isSome + 4 * b01 (decide (0 < s.twin.grant))), 0, 0, 0] ++
    be2 s.twin.seq ++ be2 (getF s fTWIN_CFG_PAIRID))

/-- A quarter's word leaves (R321 to R323); a twin counts a quarter without a valid word. -/
def sendWord (quarter : Nat) (s : State) : State :=
  if !hasRef s then s
  else if inPair s then
    let t := emit (.referee 0 (twinWord s quarter)) { s with twin := { s.twin with swreq := s.twin.swreq - 1, gotWord := false } }
    if s.twin.gotWord then t else bump fTWIN_CNT_MISS { t with twin := { t.twin with missed := t.twin.missed + 1 } }
  else if role s = tREFEREE then
    let w := refereeWordOf s quarter
    emit (.referee 1 w) (emit (.referee 0 w) { s with twin := { s.twin with seq := (s.twin.seq + 1) % 65536, grant := s.twin.grant - 1 } })
  else s

/-- TWIN_WORD_SEND (R321, R322). -/
def execTwinWordSend (c : Nat) (quarter : Nat) (s : State) : Host.Outcome State Fault Refusal := run c (ifRunning (sendWord quarter)) s

/-- REF_LOST: 3 quarters without a valid referee word (R324). -/
def execRefLost (c : Nat) (s : State) : Host.Outcome State Fault Refusal :=
  run c (ifRunning fun s =>
    if hasRef s && inPair s && !s.twin.lostSent then
      send 13 0 10 6 0 (setF fTWIN_STAT_REFOK 0 { s with twin := { s.twin with lostSent := true } })
    else s) s

/-- A word of 14 bytes, symbols 2 to 15, is valid (R324). -/
def wordValid (s : State) (w : List Byte) : Bool :=
  w.length == 14 && num w 10 4 == crc32 (w.take 10) && num w 8 2 == getF s fTWIN_CFG_PAIRID

/-- A valid referee word at a twin (R325): TWIN_SWITCH completes when the new claim is seen (R333). -/
def takeRefereeWord (w : List Byte) (s : State) : State :=
  if !hasRef s ∨ !inPair s ∨ !wordValid s w then s
  else
    let claim := num w 0 2
    let flags := num w 2 1
    let side := flags % 2
    let valid := flags.testBit 1
    let t := seeClaim claim (setF fTWIN_STAT_REFOK 1 { s with twin := { s.twin with gotWord := true, missed := 0, lostSent := false } })
    let u := if claimHigher claim t.twin.swClaim then finishAll isSwitch stOK (be2 claim ++ [0, 0]) t else t
    if valid && side == getF u fTWIN_CFG_SIDE then
      (if flags.testBit 2 && role u == tSTANDBY then promote claim u else u)
    else if valid && role u == tACTIVE then demote u
    else u

/-- REFEREE_WORD: symbols 2 to 15 of a word on side A (R323 to R325). -/
def execRefereeWord (c : Nat) (w : List Byte) (s : State) : Host.Outcome State Fault Refusal := run c (ifRunning (takeRefereeWord w)) s

/-! ## The referee (R324, R326) -/

/-- A twin's word as the referee reads it. -/
structure SideWord where
  claim : Nat
  role  : Nat
  sync  : Nat
  fault : Bool
  swreq : Bool
  force : Bool
  clkOk : Bool
  oven  : Bool

def readSide (w : List Byte) : SideWord :=
  let a := num w 6 1
  let b := num w 7 1
  { claim := num w 0 2, role := bits a 3 2, sync := bits a 5 4, fault := a.testBit 6,
    swreq := b.testBit 0, force := b.testBit 1, clkOk := b.testBit 2, oven := b.testBit 4 }

def lastOf (s : State) (x : Nat) : List Byte := if x = 0 then s.twin.last0 else s.twin.last1

/-- A quarter's word of one side: TWIN_SIDEx, and last[x] when it is valid without FAULT (R324, R331). -/
def takeSide (x : Nat) (w : Option (List Byte)) (s : State) : State :=
  match w with
  | some b =>
    if wordValid s b then
      let q := readSide b
      let t := setF (fTWIN_SIDE_OK x) 1 (setF (fTWIN_SIDE_MISSRUN x) 0 (setF (fTWIN_SIDE_ROLE x) q.role (setF (fTWIN_SIDE_SYNC x) q.sync
        (setF (fTWIN_SIDE_CLAIM x) q.claim (seeClaim q.claim s)))))
      if q.fault then t else { t with twin := if x = 0 then { t.twin with last0 := b } else { t.twin with last1 := b } }
    else bump (fTWIN_SIDE_MISSRUN x) (setF (fTWIN_SIDE_OK x) 0 s)
  | none => bump (fTWIN_SIDE_MISSRUN x) (setF (fTWIN_SIDE_OK x) 0 s)

def sideOk (s : State) (w : Option (List Byte)) : Bool :=
  match w with
  | some b => wordValid s b && !(readSide b).fault
  | none => false

/-- The referee grants a side a claim (R324, R326). -/
def grantSide (x claim : Nat) (s : State) : State :=
  bump fTWIN_CNT_GRANT (setF fTWIN_CLAIM_CLAIM claim
    { s with twin := { s.twin with owner := some x, miss := 0, grant := 4, noStandby := false } })

/-- The rule of R324 with a valid owner. -/
def refereeOwned (o : Nat) (ok0 ok1 : Bool) (s : State) : State :=
  let okOf (x : Nat) : Bool := if x = 0 then ok0 else ok1
  let y := 1 - o
  let miss := if okOf o then 0 else s.twin.miss + 1
  let t := { s with twin := { s.twin with miss := miss, noStandby := s.twin.noStandby && miss != 0 } }
  let a := readSide (lastOf t o)
  let b := readSide (lastOf t y)
  if okOf y ∧ b.role = tSTANDBY ∧ 2 ≤ b.sync then
    if 3 ≤ miss ∨ (a.swreq ∧ (b.sync = 2 ∨ a.force)) ∨ (b.swreq ∧ (b.sync = 2 ∨ b.force)) then
      send 13 0 10 3 0 (grantSide y (claimNext (getF t fTWIN_CLAIM_CLAIM)) t)
    else t
  else if 3 ≤ miss ∧ !t.twin.noStandby then send 13 0 10 8 0 { t with twin := { t.twin with noStandby := true } }
  else t

/-- The higher of two claims. -/
def higherClaim (a b : Nat) : Nat := if claimHigher a b then a else b

/-- Without a valid owner (R326): adopt an active, or grant the preferred side, and after 1 s without it the other. -/
def refereeFree (ok0 ok1 : Bool) (s : State) : State :=
  let okOf (x : Nat) : Bool := if x = 0 then ok0 else ok1
  let w (x : Nat) : SideWord := readSide (lastOf s x)
  let act (x : Nat) : Bool := okOf x && (w x).role == tACTIVE
  let adopt (x : Nat) (t : State) : State := setF fTWIN_CLAIM_CLAIM (w x).claim { t with twin := { t.twin with owner := some x, miss := 0 } }
  if act 0 && act 1 then adopt (if claimHigher (w 1).claim (w 0).claim then 1 else 0) s
  else if act 0 then adopt 0 s
  else if act 1 then adopt 1 s
  else
    let p := getF s fTWIN_CFG_PREFER
    let absent := if getF s (fTWIN_SIDE_OK p) = 1 then 0 else s.twin.absent + 1
    let t := { s with twin := { s.twin with absent := absent } }
    let fit (x : Nat) : Bool := okOf x && (w x).oven && (w x).clkOk
    let h := [0, 1].foldl (fun h x => higherClaim (getF t (fTWIN_SIDE_CLAIM x)) h) (getF t fTWIN_CLAIM_CLAIM)
    if fit p then grantSide p (claimNext h) t
    else if 48000 ≤ absent ∧ fit (1 - p) then grantSide (1 - p) (claimNext h) t
    else t

/-- REFEREE_QUARTER: the words that arrived on sides A and B (R324, R326). -/
def refereeQuarter (a b : Option (List Byte)) (s : State) : State :=
  if !hasRef s ∨ role s ≠ tREFEREE then s
  else
    let t := takeSide 1 b (takeSide 0 a s)
    match t.twin.owner with
    | some o => refereeOwned o (sideOk s a) (sideOk s b) t
    | none => refereeFree (sideOk s a) (sideOk s b) t

def execRefereeQuarter (c : Nat) (a b : Option (List Byte)) (s : State) : Host.Outcome State Fault Refusal := run c (ifRunning (refereeQuarter a b)) s

/-! ## Resets (R330) -/

/-- A Unit reset of TWIN: the lanes of a pair train again, a standby goes to SYNC NONE and joins again after it. -/
def twinUnitReset (s : State) : State :=
  let t := loseSync 1 false s
  let u := foldState (fun l v => if laneState v l = lOFF then v else trainLane l (offLane l v)) [8, 9, 10, 11] t
  { u with twin := { u.twin with peerSync := 0, txRecs := [], closeOut := [], swreq := 0, lostSent := false, missed := 0 } }

/-- Standby entered by either twin (R330): a standby leaves SYNC at NONE. -/
def twinStandby (s : State) : State := loseSync 1 false s

/-! ## Commands (R333) -/

/-- TWIN_CONFIG's MASK bits name ROLE, SIDE, AUTOJOIN, PREFER and PAIRID. -/
def opTwinConfig (r : Req) (word : Word) (mask : Nat) (s : State) : State :=
  let old := heldWords s [rTWIN_CFG]
  let new := applyWords [rTWIN_CFG] 0 mask [word.toNat] old
  let w := new.headD 0
  let v := w % 4
  let o := old.headD 0
  let sideChange := bits w 2 2 != bits o 2 2 || bits w 31 16 != bits o 31 16
  command r 0x0900 [absentIf (!hasTwin s), notNowIf ((mask.testBit 0 && roleRefused s v) || (role s == tSTANDBY && sync s != 0 && sideChange)) 12]
    (fun s =>
      let t := storeWords [rTWIN_CFG] new s
      let u := if mask.testBit 0 then followRole v t else t
      replyOK r 0x0900 (be4 (getF u fTWIN_CFG_ROLE + 4 * getF u fTWIN_CFG_SIDE + 8 * getF u fTWIN_CFG_AUTOJOIN + 16 * getF u fTWIN_CFG_PREFER +
        65536 * getF u fTWIN_CFG_PAIRID)) u) s

/-- TWIN_CONFIG (R305, R333). -/
def execTwinConfig (r : Req) (word : Word) (mask : Nat) (s : State) : Host.Outcome State Fault Refusal := run r.c (opTwinConfig r word mask) s

/-- TWIN_JOIN (R319, R320, R333). -/
def opTwinJoin (r : Req) (s : State) : State :=
  let running := s.twin.join != 0
  command r 0x0901 [absentIf (!hasTwin s), handleLimit r s, notNowIf (!joinOk s) 12, busyIf running]
    (fun s =>
      let t := accept r 0x0901 .join s
      { t with twin := { t.twin with join := 1, rejoin := false } }) s

def execTwinJoin (r : Req) (s : State) : Host.Outcome State Fault Refusal := run r.c (opTwinJoin r) s

/-- The SYNC that a switch needs: the standby's, here or at the peer (R328). -/
def switchSync (s : State) : Nat := if role s = tACTIVE then s.twin.peerSync else sync s

/-- TWIN_SWITCH (R328, R333). -/
def opTwinSwitch (r : Req) (force : Nat) (s : State) : State :=
  command r 0x0902 [absentIf (!hasTwin s), handleLimit r s, deniedIf (!inPair s) 8, notNowIf (decide (switchSync s < 2)) 12,
      notNowIf (switchSync s == 3 && force == 0) 13]
    (fun s =>
      let t := accept r 0x0902 .switch s
      { t with twin := { t.twin with swreq := 4, force := decide (1 ≤ force),
                                     swClaim := higherClaim (getF t fTWIN_CLAIM_HIGH) (getF t fTWIN_CLAIM_CLAIM) } }) s

def execTwinSwitch (r : Req) (force : Nat) (s : State) : Host.Outcome State Fault Refusal := run r.c (opTwinSwitch r force) s

/-- TWIN_SWITCH_TIMEOUT: 48 quarters without a grant (R333). -/
def execTwinSwitchTimeout (c : Nat) (s : State) : Host.Outcome State Fault Refusal :=
  run c (ifRunning (finishAll isSwitch stFAILED [])) s

def opTwinStatus (r : Req) (clear : Nat) (s : State) : State :=
  command r 0x0903 [absentIf (!hasTwin s)]
    (fun s =>
      let sides := if role s = tREFEREE then be4 (peekReg s (rTWIN_SIDE 0)) ++ be4 (peekReg s (rTWIN_SIDE 1)) else []
      let t := replyOK r 0x0903 ([rTWIN_STAT, rTWIN_CFG, rTWIN_CLAIM, rTWIN_MIR, rTWIN_MIRPK, rTWIN_COPY, rTWIN_CNT].flatMap
        (fun a => be4 (peekReg s a)) ++ sides) s
      if 1 ≤ clear then
        foldState (fun f u => setF f 0 u) [fTWIN_CNT_DIVERGE, fTWIN_CNT_MISS, fTWIN_CNT_GRANT, fTWIN_CNT_SYNCLOSS, fTWIN_MIRPK_PEAK] t
      else t) s

/-- TWIN_STATUS (R333). -/
def execTwinStatus (r : Req) (clear : Nat) (s : State) : Host.Outcome State Fault Refusal := run r.c (opTwinStatus r clear) s

/-- What the twin group's opcodes spell (R333). -/
def parseTwin (r : Req) (op : Nat) (p : List Byte) : Parse :=
  match op with
  | 0x0900 => lenIs 8 p (.twinConfig r (w4 p 0) (n1 p 4))
  | 0x0901 => lenIs 0 p (.twinJoin r)
  | 0x0902 => lenIs 4 p (.twinSwitch r (n1 p 0))
  | 0x0903 => lenIs 4 p (.twinStatus r (n1 p 0))
  | _ => .unknown

end Sys2Proof.Machine
end

