-- ==== Sys2Proof/Machine/Commit.lean ====
section
/-! DEFINITION. Commits (R76 to R82, R100): pre-fades, the replacement of trays at the commit boundary with what carries over, fade-ins,
and the mutes of R90 and R341. -/
namespace Sys2Proof.Machine

open Sys2Proof

/-! ## What carries over (R78, R80) -/

/-- Does a block carry over from the old content of the committed trays (R78)? -/
def carried (old : List TrayDef) (k : StateBlock) : Bool :=
  old.any fun t => t.blocks.any fun o => o.tag == k.tag && o.len == k.len && o.layout == k.layout && decide (o.obj = k.obj)

/-- A block whose tag an old one has, and that differs from it (R78). -/
def mismatched (old : List TrayDef) (k : StateBlock) : Bool :=
  !carried old k && old.any fun t => t.blocks.any fun o => o.tag == k.tag

/-- The length of a fade group in use: a multiple of 8, from 8 to 1,024 (R80). -/
def fadeLen (g : FadeDef) : Nat := clampN 8 1024 ((g.len + 7) / 8 * 8)

/-- A new group is whole when every block it lists carries, in a tray the oven holds (R80). -/
def groupWhole (old : List TrayDef) (t : TrayDef) (g : FadeDef) : Bool :=
  old.any (fun o => o.num == t.num) && g.tags.all fun tag => t.blocks.any fun k => k.tag == tag && carried old k

def exportsOf (t : TrayDef) : List Nat := t.fades.flatMap (·.exports)

def traysIn (b : Bake) (mask : Nat) : List TrayDef := b.trays.filter (fun t => mask.testBit t.num)

/-- What a commit of a mask replaces: old and new content of the trays it holds. -/
def oldTrays (s : State) (mask : Nat) : List TrayDef := traysIn s.oven (commitTrays s mask)
def newTrays (s : State) (mask : Nat) : List TrayDef := traysIn s.proof mask

/-- A group of the new content as it stands: a tray muted until its recommit fades in as into an empty oven (R90). -/
def wholeNow (s : State) (old : List TrayDef) (t : TrayDef) (g : FadeDef) : Bool := groupWhole old t g && !(tray s t.num).hard

/-- The old exports that pre-fade, each with its length and tray (R80); those of a tray muted until a recommit are at zero and fade in
as into an empty oven, which has no pre-fade (R80, R90). -/
def preFades (s : State) (mask : Nat) : List (Nat × Nat × Nat) :=
  let old := oldTrays s mask
  let new := newTrays s mask
  (old.filter (fun t => !(tray s t.num).hard)).flatMap fun t => t.fades.flatMap fun g => g.exports.filterMap fun a =>
    match new.findSome? (fun n => (n.fades.find? (fun h => h.exports.contains a)).map (fun h => (n, h))) with
    | some (n, h) => if wholeNow s old n h then none else some (a, fadeLen h, t.num)
    | none => some (a, fadeLen g, t.num)

/-! ## Fades (R80, R81) -/

def aimFade (a : Nat) (t : Word) (l : Nat) (s : State) : State := setSlotFade a { gain := rampTo t l (slotFade s a).gain } s

/-- BAKE_FADEMASK and FADING (R92). -/
def showFades (s : State) : State :=
  let m := maskWhere 32 (fun n => decide (0 < (tray s n).preFade) || decide (0 < (tray s n).fadeIn))
  setF fBAKE_STAT_FADING (b01 (m != 0)) (setF fBAKE_FADEMASK_TRAYS m s)

/-- BAKE_MUTEMASK and MUTED: an overrun or uncorrectable error not yet recommitted and cleared, or a level-2 reaction (R90, R341). -/
def trayMuted (t : TraySt) : Bool := t.hard || t.hardCls != 0 || t.soft != 0
def showMutes (s : State) : State :=
  let m := maskWhere 32 (fun n => trayMuted (tray s n))
  setF fBAKE_STAT_MUTED (b01 (m != 0)) (setF fBAKE_MUTEMASK_TRAYS m s)

/-- A batch's 8 samples of every fade have been made. DESIGN CHOICE (log entry 90): a tray whose own pre-fade has ended is in pre-fade no
more, and while it holds gain 0 until the commit boundary BAKE_FADEMASK does not show it. -/
def advanceFades (s : State) : State :=
  let t := { s with fades := s.fades.foldl (fun m e => setT {} m e.1 { gain := rampAdvance 8 e.2.gain }) [] }
  showFades (foldState (fun n u =>
    let q := tray u n
    setTray n { q with preFade := q.preFade - 8, fadeIn := q.fadeIn - 8 } u) (List.range 32) t)

/-- A pre-fade under way ramps back to gain 1 over the samples already faded (R82); an export of a muted tray stays at zero. DESIGN CHOICE
(log entry 91): counted are the samples of whole batches, as the gain stood at the last boundary. -/
def unfade (c : Commit) (s : State) : State :=
  foldState (fun e t =>
    let g := (slotFade t e.1).gain
    let l := if g.len = 0 then e.2.1 else max 1 g.pos
    if g.target = fpZero ∧ !trayMuted (tray t e.2.2) then setSlotFade e.1 { gain := { start := rampNow g, target := fpOne, len := l, pos := 0 } } t
    else t) c.faded s

/-- Commits before their boundary are taken back and the oven stays (R82). -/
def cancelCommits (p : Commit → Bool) (s : State) : State :=
  let gone := s.commits.filter p
  let rest := s.commits.filter (fun c => !p c)
  let t := foldState unfade gone { s with commits := rest }
  let u := foldState (fun c v => foldState (fun e w => setTray e.2.2 { tray w e.2.2 with preFade := 0 } w) c.faded v) gone t
  showFades (setF fBAKE_STAT_PENDING (b01 !rest.isEmpty) u)

/-- The same, and their handles complete ABORTED (R82). -/
def abortCommits (p : Commit → Bool) (s : State) : State :=
  foldState (fun c => finish c.ch c.h stABORTED []) (s.commits.filter p) (cancelCommits p s)

/-- From a boundary a muted tray's exports ramp to zero over 8 samples; a tray whose mute has ended fades in (R90, R341). -/
def moveMutes (s : State) : State :=
  foldState (fun n t =>
    let q := tray t n
    match trayOf t.oven n with
    | none => setTray n { q with muteDue := false, openDue := false } t
    | some d =>
      if q.muteDue then foldState (fun a u => aimFade a fpZero 8 u) (exportsOf d) (setTray n { q with muteDue := false, openDue := false } t)
      else if q.openDue then
        let l (g : FadeDef) : Nat := if q.long then fadeLen g else 8
        let m := d.fades.foldl (fun m g => max m (fadeLen g)) 0
        foldState (fun g u => foldState (fun a v => aimFade a fpOne (l g) v) g.exports u) d.fades
          (setTray n { q with openDue := false, long := false, fadeIn := if q.long then m else q.fadeIn } t)
      else t) (List.range 32) s

/-- The soft mute of a level-2 reaction for class `cls` (R341). -/
def softMute (n cls : Nat) (s : State) : State :=
  let q := tray s n
  showMutes (setTray n { q with soft := q.soft ||| 2 ^ cls, muteDue := true, openDue := false } s)

/-- A class is cleared: the mutes it holds end; a tray that nothing mutes any more opens at the next boundary (R90, R341). -/
def clearMutes (cls : Nat) (s : State) : State :=
  showMutes (foldState (fun n t =>
    let q := tray t n
    let q1 := { q with soft := maskAndNot q.soft (2 ^ cls), hardCls := maskAndNot q.hardCls (2 ^ cls) }
    setTray n (if trayMuted q ∧ !trayMuted q1 then { q1 with openDue := true, muteDue := false } else q1) t) (List.range 32) s)

/-! ## The replacement (R76 to R79, R100) -/

def zeroWords (n : Nat) : List Word := List.replicate n 0

/-- A block that does not carry starts at zero (R78, R79). Protection keeps its values at every commit (R224), and an output's modulator
runs on, with its shapers, loop and rotation zeroed (R203). -/
def zeroBlock (b : Bake) (k : StateBlock) (s : State) : State :=
  match k.obj with
  | .mem sp l => foldState (fun i t => setDspWord sp (l + i) 0 t) (List.range k.len) s
  | .delay l _ _ =>
    match delayDef b l with
    | some (_, d) => setDelay l (some (newDelay d)) (clearMem (pantryBase + d.granule * 768) (d.granules * 768) s)
    | none => s
  | .dyn i =>
    match dynDef b i with
    | some (_, d) => setDyn i (some (newDyn d)) s
    | none => s
  | .bridge i => setBridgeHist i [] s
  | .out n => setF (fSTAGE_STS_ROT n) 0 (setOut n { out_ s n with e1 := zeroWords 6, e2 := zeroWords 6, acc := 0 } s)
  | .prot _ => s
  | .aes o => setStream o { stream s o with seq := 0 } s
  | .port n => setPortState n pOFF s

/-- Is a DM word in a carried block or a parameter's location (R100)? -/
def keepsWord (old : List TrayDef) (t : TrayDef) (n loc : Nat) : Bool :=
  t.params.any (fun p => p.space == n && p.loc == loc) ||
    t.blocks.any fun k => carried old k && (match k.obj with
      | .mem sp l => sp == n && decide (l ≤ loc) && decide (loc < l + k.len)
      | _ => false)

/-- A core of a committed tray (R100): its DM takes the initial image but for what keeps. -/
def loadCore (old : List TrayDef) (t : TrayDef) (d : CoreDef) (s : State) : State :=
  let base := dspKey d.core 0
  let mine (k : Nat) : Bool := decide (base ≤ k) && decide (k < base + 2 ^ 20)
  let kept := { s with dsp := s.dsp.filter (fun e => !mine e.1 || keepsWord old t d.core (e.1 - base)) }
  let u := d.dmInit.foldl (fun v e => if keepsWord old t d.core e.1 then v else setDspWord d.core e.1 e.2 v) kept
  recommit d.core u

/-- A parameter across a commit (R79). -/
def carryParam (d : ParamDef) (p : Option ParamSt) : ParamSt :=
  match p with
  | none => { ramp := steady d.init }
  | some x =>
    let v := rampNow x.ramp
    let c (w : Word) : Word := clampParam d w
    if d.kind = 3 then { ramp := steady (if d.reset then d.init else c v) }
    else if d.reset then { ramp := rampTo d.init d.ramp x.ramp }
    else if c v ≠ v then { ramp := rampTo (c v) d.ramp x.ramp }
    else if c x.ramp.target ≠ x.ramp.target then { ramp := rampTo (c x.ramp.target) (max 1 (rampLeft x.ramp)) x.ramp }
    else x

/-- A bundle across a commit (R79, R86): its set, and whether a held write is dropped. -/
def carryBundle (d : BundleDef) (resized : Bool) (b : Option BundleSt) : BundleSt :=
  match b with
  | none => { cur := d.init, next := none, len := 0, pos := 0, held := none }
  | some x =>
    let y := if resized then { x with held := none } else x
    if d.reset || resized then
      (if y.next.isSome ∧ 0 < y.pos then { y with held := some (d.ramp, d.init) } else { y with next := some d.init, len := d.ramp, pos := 0, held := none })
    else y

/-- The crosspoints of committed trays (R79). `b` is the new content. -/
def carryXps (old new : List TrayDef) (b : Bake) (s : State) : State :=
  let nums := (old ++ new).map (·.num)
  let init := new.flatMap (·.xps)
  let ramp (dst : Nat) : Nat := match destDef b dst with
    | some (_, d) => d.ramp
    | none => 1
  let step (t : State) (e : Nat × Option Ramp) : State :=
    let src := e.1 % 65536
    let dst := e.1 / 65536
    let was := old.any (fun o => o.dests.any (fun d => d.index == dst))
    match e.2, sourceDef b src, destDef b dst with
    | none, _, _ => t
    | some r, some _, some (n, _) =>
      if !was && !nums.contains n.num then t
      else
        match init.find? (fun x => x.src == src && x.dst == dst) with
        | some x => if x.reset then setXp src dst (some (rampTo (fpClamp gainMin gainMax x.gain) (ramp dst) r)) t else t
        | none => setXp src dst (some (rampTo fpZero (ramp dst) r)) t
    | some _, _, _ => setXp src dst none t
  let t := s.xps.foldl step s
  foldState (fun x u =>
    match xp u x.src x.dst, sourceDef b x.src, destDef b x.dst with
    | none, some _, some _ => setXp x.src x.dst (some (rampTo (fpClamp gainMin gainMax x.gain) (ramp x.dst) (steady fpZero))) u
    | _, _, _ => u) init t

/-- A full commit's ports: an unchanged map keeps its port, a changed or new one starts in OFF (R71, R79). -/
def carryPorts (old new : Bake) (s : State) : State :=
  foldState (fun n t =>
    if portDef old n = portDef new n then t
    else setF (fPORT_MUTE_MUTED n) 0 (portOff n (setPort n { port t n with alignLeft := 0, gates := [], frameErrs := 0, claim := none, badClaims := 0 } t)))
    (List.range 8) s

/-- The streams a full commit takes away, and the owners of the ASRC channels (R159, R271). -/
def carryStreams (old new : Bake) (s : State) : State :=
  let t := foldState (fun a u => if aesDef new a.owner = some a then u else setStream a.owner {} u) old.aes s
  foldState (fun k u => setF (fASRC_FRAC_OWNER k) ((new.asrcOwner[k]?).getD 0xFF) u) (List.range 64) t

/-- PORTn_STS shows each port's kind from the oven (R173). -/
def showPorts (b : Bake) (s : State) : State :=
  foldState (fun n t =>
    let p := portDef b n
    setF (fPORT_STS_MASTER n) (b01 (p.any (fun d => d.master))) (setF (fPORT_STS_SYNC n) (b01 (p.any (fun d => !d.asrc))) t)) (List.range 8) s

/-- The registers that show the oven (R92, R151). -/
def showOven (s0 : State) : State :=
  let s := showPorts s0.oven s0
  let b := s.oven
  let dyns := b.trays.flatMap (·.dyns)
  let lines := b.trays.flatMap (·.delays)
  let t := setF fBAKE_OVEN_ID_ID b.id.toNat (setF fBAKE_LIVE_TRAYS (trayMask b) s)
  let u := setF fDYN_STAT_COMP (dyns.filter isComp).length
    (setF fDYN_STAT_LIM (dyns.filter (fun d => !isComp d && !isOutLim d)).length (setF fDYN_STAT_OUTLIM (dyns.filter isOutLim).length t))
  refreshMix (setF fMIX_POOL_USED (sumOf (lines.map (·.granules))) (setF fMIX_POOL_LINES lines.length u))

/-- What the completion of a commit counts (R93). -/
structure CommitOut where
  s      : State
  result : List Byte

/-- Trays of the proof replace those of the oven at the commit boundary, order 2 of R19. -/
def replaceTrays (mask : Nat) (s : State) : CommitOut :=
  let full := decide (mask = trayMask s.proof)
  let old := oldTrays s mask
  let new := newTrays s mask
  let was := s.oven
  let oven : Bake := if full then s.proof
    else { s.oven with id := s.proof.id, trays := (s.oven.trays.filter (fun t => !mask.testBit t.num)) ++ new }
  let blocks := new.flatMap (·.blocks)
  let fresh := blocks.filter (fun k => !carried old k)
  let mism := (blocks.filter (mismatched old)).length
  let broken := (new.flatMap (fun t => t.fades.filter (fun g => !wholeNow s old t g))).length
  -- blocks that do not carry, then cores: the initial image wins over the zero of a block (DEDUCED, R100; log entry 55)
  let s0 := foldState (zeroBlock oven) fresh s
  let s1 := foldState (fun t u => foldState (fun d v => loadCore old t d v) t.cores u) new s0
  let idle := (old.flatMap (·.cores)).filter (fun d => !(new.flatMap (·.cores)).any (fun e => e.core == d.core))
  let s2 := foldState (fun d u => recommit d.core u) idle s1
  let gone := old.flatMap (fun t => t.dyns.map (·.inst))
  let goneLines := old.flatMap (fun t => t.delays.map (·.line))
  let keepDyn (i : Nat) : Bool := blocks.any (fun k => carried old k && decide (k.obj = .dyn i))
  let keepLine (l : Nat) : Bool := blocks.any (fun k => carried old k && (match k.obj with
    | .delay j _ _ => j == l
    | _ => false))
  let s3 := foldState (fun i u => if keepDyn i then u else setDyn i none u) gone s2
  let s4 := foldState (fun l u => if keepLine l then u else setDelay l none u) goneLines s3
  let s5 := foldState (fun t u =>
    foldState (fun (d : DelayDef) v => if keepLine d.line then v else setDelay d.line (some (newDelay d)) (clearMem (pantryBase + d.granule * 768) (d.granules * 768) v)) t.delays
      (foldState (fun (d : DynDef) v => if keepDyn d.inst then v else setDyn d.inst (some (newDyn d)) v) t.dyns u)) new s4
  -- parameters, bundles, crosspoints
  let inNew (id : Nat) : Bool := new.any (fun t => t.params.any (fun p => p.id == id))
  let inNewB (id : Nat) : Bool := new.any (fun t => t.bundles.any (fun p => p.id == id))
  let s7 := foldState (fun t u => foldState (fun (p : ParamDef) v =>
      let q := carryParam p (param v p.id)
      setParam p.id (some q) v) t.params u) new
    (foldState (fun t u => foldState (fun (p : ParamDef) v => if inNew p.id then v else setParam p.id none v) t.params u) old s5)
  let s8 := foldState (fun t u => foldState (fun (d : BundleDef) v =>
      let x := bundle v d.id
      let resized := match bundleDef was d.id with
        | some (_, o) => o.sections != d.sections
        | none => false
      let dropped := resized && (match x with
        | some y => y.held.isSome
        | none => false)
      when_ dropped (bump fBAKE_CNT_PDROP) (setBundle d.id (some (carryBundle d resized x)) v)) t.bundles u) new
    (foldState (fun t u => foldState (fun (d : BundleDef) v =>
      if inNewB d.id then v
      else when_ (match bundle v d.id with
        | some y => y.held.isSome
        | none => false) (bump fBAKE_CNT_PDROP) (setBundle d.id none v)) t.bundles u) old s7)
  let s9 := { carryXps old new oven s8 with oven := oven }
  -- slots: those without a producer read zero; fades of exports that are gone end
  let s10 := { s9 with slots := s9.slots.filter (fun e => hasProducer oven (e.1 / 8)) }
  let nowExported := new.flatMap exportsOf
  let s11 := foldState (fun a u => if nowExported.contains a then u else setSlotFade a {} u) (old.flatMap exportsOf) s10
  let s12 := foldState (fun t u =>
    let q := tray u t.num
    let q1 := { q with hard := false, preFade := 0, muteDue := false }
    if trayMuted q1 then
      foldState (fun a v => setSlotFade a { gain := steady fpZero } v) (exportsOf t) (setTray t.num { q1 with long := q.hard || q.long } u)
    else
      let parts := t.fades.filter (fun g => !wholeNow s old t g)
      let m := parts.foldl (fun m g => max m (fadeLen g)) 0
      foldState (fun g v => foldState (fun a w => setSlotFade a { gain := { start := fpZero, target := fpOne, len := fadeLen g, pos := 0 } } w) g.exports v)
        parts (setTray t.num { q1 with fadeIn := m, openDue := false, long := false } u)) new s11
  let removed := old.filter (fun t => !new.any (fun n => n.num == t.num))
  let s13 := foldState (fun t u => setTray t.num {} u) removed s12
  let s14 := if full then trunkNewMap was (carryStreams was oven (carryPorts was oven s13)) else s13
  { s := bumpN fBAKE_CNT_MISMATCH mism (showMutes (showFades (showOven s14))),
    result := be4 (blocks.length - fresh.length) ++ be4 fresh.length ++ be4 mism ++ be2 broken ++ [0, 0] }

/-! ## Pending commits (R77, R80) -/

/-- A commit's boundary has come: the replacement, and its completion. -/
def performCommit (c : Commit) (s : State) : State :=
  let rest := s.commits.filter (fun d => !(d.h == c.h && d.ch == c.ch))
  let o := replaceTrays c.mask (setF fBAKE_STAT_PENDING (b01 !rest.isEmpty) { s with commits := rest })
  finish c.ch c.h stOK o.result o.s

/-- The pre-fade of a commit begins. -/
def beginPreFade (c : Commit) (l : List (Nat × Nat × Nat)) (s : State) : State :=
  let m := l.foldl (fun m e => max m e.2.1) 0
  let t := foldState (fun e u =>
    let q := tray u e.2.2
    aimFade e.1 fpZero e.2.1 (setTray e.2.2 { q with preFade := max q.preFade e.2.1 } u)) l s
  showFades { t with commits := t.commits.map (fun d => if d.h == c.h && d.ch == c.ch then { d with fade := some m, faded := l } else d) }

/-- A commit at a boundary: it waits, begins its pre-fade, or takes place. -/
def stepCommit (c : Commit) (s : State) : State :=
  match c.fade with
  | none =>
    if (serialAhead (batch s) c.start).isSome then
      let l := if ovenEmpty s then [] else preFades s c.mask
      if l.isEmpty then performCommit c s else beginPreFade c l s
    else s
  | some k =>
    if k ≤ 8 then performCommit c s
    else { s with commits := s.commits.map (fun d => if d.h == c.h && d.ch == c.ch then { d with fade := some (k - 8) } else d) }

/-- Order 2 of R19. -/
def stepCommits (s : State) : State := foldState stepCommit s.commits s

/-- The full commit of a join: the whole oven is replaced without a pre-fade and without carrying any block (R320). -/
def joinCommit (s : State) : State :=
  if proofState s = proofVALID ∧ s.twin.peerOven = some s.proof.id then
    let bare := { s with oven := Bake.empty, xps := [], params := [], bundles := [], dyns := [], delays := [], trays := [], fades := [] }
    startCopying (trunkNewMap s.oven (replaceTrays (trayMask s.proof) bare).s)
  else loseSync 3 false s

/-- PRE_FADE_END: the longest pre-fade of a commit has made its last samples, so the next boundary is the commit boundary (R80). -/
def opPreFadeEnd (s : State) : State :=
  let ends (c : Commit) : Bool := match c.fade with
    | some k => decide (k ≤ 8)
    | none => false
  { s with commits := s.commits.map (fun c => if ends c then { c with fade := some 0 } else c) }

def execPreFadeEnd (c : Nat) (s : State) : Host.Outcome State Fault Refusal := run c (ifRunning opPreFadeEnd) s

/-- FADE_IN_END: the fade-in of a tray has made its last samples; its FADEMASK bit clears (R80, R92). -/
def opFadeInEnd (n : Nat) (s : State) : State :=
  let q := tray s n
  if 0 < q.fadeIn ∧ q.fadeIn ≤ 8 then showFades (setTray n { q with fadeIn := 0 } s) else s

def execFadeInEnd (c : Nat) (n : Nat) (s : State) : Host.Outcome State Fault Refusal := run c (ifRunning (opFadeInEnd n)) s

end Sys2Proof.Machine
end

