-- ==== Sys2Proof/Machine/Reset.lean ====
section
/-! DEFINITION. Resets (R347, R350, R351, R355): masking windows, Unit resets, the Control reset, and the Cold, Pin, Watchdog and
Soft resets. -/
namespace Sys2Proof.Machine

open Sys2Proof

/-! ## Masking windows (R347) -/

/-- The sources in the blast radius of a Unit reset. -/
def blastOf (unit : Nat) : List Nat :=
  match unit with
  | 9 => [9, 2, 19]
  | 10 => [10, 2, 8, 3]
  | 11 => [11, 12, 7]
  | 12 => [12, 21]
  | 2 => [2, 20, 8]
  | 13 => [13, 2]
  | 17 => [17, 14]
  | u => [u]

/-- The sources in the blast radius of a Control reset. -/
def controlBlast : List Nat := [18, 19, 20, 21, 3, 2, 10, 14]

/-- The number that stands for a Control reset beside the unit numbers. -/
def controlNo : Nat := 18

def openWindow (reset : Nat) (srcs : List Nat) (s : State) : State :=
  { s with kiln := { s.kiln with windows := s.kiln.windows ++ [{ reset := reset, srcs := srcs, ended := false }] } }

/-- The reset of a window has ended; its window closes 2 batches later. Windows stand in the order in which their resets ended. -/
def endWindow (reset : Nat) (s : State) : State :=
  let mine := s.kiln.windows.filter (fun w => w.reset == reset && !w.ended)
  let rest := s.kiln.windows.filter (fun w => !(w.reset == reset && !w.ended))
  { s with kiln := { s.kiln with windows := rest.filter (·.ended) ++ mine.map (fun w => { w with ended := true }) ++ rest.filter (fun w => !w.ended) } }

/-- MASKING_WINDOW_END: the window that ended first closes (R347). -/
def closeWindow (s : State) : State :=
  match s.kiln.windows with
  | w :: t => if w.ended then { s with kiln := { s.kiln with windows := t } } else s
  | [] => s

def execMaskingWindowEnd (c : Nat) (s : State) : Host.Outcome State Fault Refusal := run c (ifRunning closeWindow) s

/-- Does a source lie in an open window? -/
def masked (s : State) (src : Nat) : Bool := s.kiln.windows.any (fun w => w.srcs.contains src)

/-! ## Operations that a reset stops (R59 to R61) -/

/-- Open handles whose operation has been stopped and that have not completed. -/
def stoppedCount (s : State) : Nat :=
  [0, 1, 2, 3].foldl (fun n c => n + ((chan s c).handles.filter (fun h => h.stopped && !h.done)).length) 0

def isCommitOp : OpKind → Bool
  | .commit => true
  | _ => false

/-- Pending commits are taken back, their operations stopped (R82). -/
def stopCommits (s : State) : State := stopOps isCommitOp (cancelCommits (fun _ => true) s)

/-- Sweeps and calibrations of an output end without a completion of their own. -/
def endProtOps (n : Nat) (s : State) : State := stopCal n (stopSweep n s)

/-- A training output goes to OFF (R203). -/
def endTraining (n : Nat) (s : State) : State :=
  let st := outState s n
  let t := if st = oIDENT ∨ st = oTEST ∨ (st = oPRECHARGE ∧ !(prot s n).retrying) then enterOff n s else s
  setOut n { out_ t n with code := none } t

/-! ## Locks of the fabric (R368) -/

/-- A master reset releases the lock the master held; the sequence has no write, and the cut counts. -/
def cutLock (p : Master → Bool) (s : State) : State :=
  match s.lock with
  | some (m, a) => if p m then send 15 0 8 2 a (bump fFAB_CNT_CUT { s with lock := none }) else s
  | none => s

/-! ## NVS lines (R348, R376, R391) -/

/-- Are NVS writes held in WRAM: in the Damper state, or under a level-2 reaction on NVS (R341, R348)? -/
def nvsHeld (s : State) : Bool :=
  getF s fPWR_STAT_DAMPER == 1 || s.kiln.standing.any (fun x => x.src == 17 && x.level == 2)

def heldBytes : HeldWrite → Nat
  | .line _ bs => bs.length
  | .record _ r => 4 + r.data.length
  | .boot _ => 64

/-- Would one more write take the hold past 64 KiB (R348)? -/
def holdFull (s : State) (n : Nat) : Bool := nvsHeld s && decide (65536 < (s.pwr.held.map heldBytes).sum + n)

/-- A record of an area is replaced, or deleted when it has no data (R392). -/
def putRecord (r : SetRec) (l : List SetRec) : List SetRec :=
  let rest := l.filter (fun x => !(x.key == r.key))
  if r.data.isEmpty then rest else rest ++ [r]

/-- A line has been written: NVS_STAT.WEAR, % of 2 × 10⁸ writes of the most-worn physical line. Which physical line a write wears is
hidden (R376), so beyond the first 1 % each write leaves open whether WEAR rises (log entry 4). -/
def wearLine (s : State) : State :=
  let t := { s with upd := { s.upd with lineWrites := s.upd.lineWrites + 1 } }
  if t.upd.lineWrites < 2000000 then t
  else useFree (setF fNVS_STAT_WEAR (min 100 (getF t fNVS_STAT_WEAR + (freeWord t).toNat % 2)) t)

/-- An NVS write takes place. -/
def writeNvs (w : HeldWrite) (s : State) : State :=
  match w with
  | .line a bs => wearLine (bump fNVS_CNT_LINES (setMemBytes a bs s))
  | .record 0 r => { s with upd := { s.upd with area0 := putRecord r s.upd.area0 } }
  | .record _ r => { s with upd := { s.upd with area1 := putRecord r s.upd.area1 } }
  | .boot b => setF fNVS_STAT_PRIMARY b.primary { s with upd := { s.upd with boot := b } }

/-- An NVS write is done, or held. -/
def nvsWrite (w : HeldWrite) (s : State) : State :=
  if nvsHeld s then setF fNVS_STAT_HELD 1 { s with pwr := { s.pwr with held := s.pwr.held ++ [w] } } else writeNvs w s

/-- The held writes are written in order. -/
def flushNvs (s : State) : State :=
  foldState writeNvs s.pwr.held (setF fNVS_STAT_HELD 0 { s with pwr := { s.pwr with held := [] } })

/-- The boot record as the firmware sees it: a held one first. -/
def bootRec (s : State) : BootRec :=
  s.pwr.held.foldl (fun b w => match w with
    | .boot x => x
    | _ => b) s.upd.boot

/-! ## Unit resets (R341, R347) -/

/-- The operations that a Unit reset stops. -/
def stoppedBy (unit : Nat) (k : OpKind) : Bool :=
  match unit, k with
  | 9, .range _ => true
  | 9, .msgSend _ _ => true
  | 11, .train _ => true
  | 11, .sweep _ => true
  | 11, .cal _ => true
  | 12, .sweep _ => true
  | 12, .cal _ => true
  | 2, .align _ => true
  | 13, .join => true
  | 13, .switch => true
  | 17, .scrub r _ => r == 1
  | 17, .bootSave => true
  | _, _ => false

/-- A Unit reset of STAGE: lanes stop and outputs restart in OFF (R203). -/
def stageUnitReset (s : State) : State :=
  let t := foldState (fun n u => enterOff n (setOut n { mscale := steady (fpOfNat (getF u (fSTAGE_MOD_MSCALE n))) } (endProtOps n u))) (List.range 16) s
  foldState (fun l u => setGl l {} u) (List.range 8) t

/-- A Unit reset of PROT: the model stays, windows and sweeps do not (R224). -/
def protUnitReset (s : State) : State :=
  foldState (fun n t => dropWindow n (endProtOps n t)) (List.range 16) s

/-- A Unit reset of TRUNK: every lane goes to OFF; those that were UP are lost (R252, R347). -/
def trunkUnitReset (s : State) : State :=
  foldState (fun l t => offLane l (when_ (laneState t l == lUP) (send 9 l 3 9 0) t)) (List.range 8) s

/-- A Unit reset of ETH: both links drop (R275). -/
def ethLinksDrop (s : State) : State :=
  ethUnitReset (foldState (fun n t => when_ (macUp t n) (send 10 n 3 13 0) t) [0, 1] s)

/-- What a Unit reset does beside its registers. -/
def unitProcedure (unit : Nat) (s : State) : State :=
  match unit with
  | 2 => clkUnitReset (setF fCLK_STAT_ALIGNING 0 s)
  | 8 => restartPorts s
  | 9 => trunkUnitReset s
  | 10 => ethLinksDrop s
  | 11 => stageUnitReset s
  | 12 => protUnitReset s
  | 13 => twinUnitReset (cutLock (fun m => m == .mir) s)
  | _ => s

/-- The fields in which a Unit reset's own procedure puts the state that the unit then stands in: ports in DETECT or RUN (R341), the entries
of the Clock Unit (R300), lanes out of OFF (R252). -/
def liveOf (unit : Nat) : List Fld :=
  match unit with
  | 2 => (List.range 16).map fCLK_STS_STATE
  | 8 => fPORT_STAT_RUN :: (List.range 8).flatMap (fun n => [fPORT_STS_STATE n, fPORT_STS_RATE n])
  | 9 => (List.range 8).flatMap (fun l => [fTL_STS_STATE l, fTL_STS_HOLD l])
  | _ => []

/-- A Unit reset returns the unit's fields to their Reset values, but for what keeps them and the states it establishes (R10, R355). -/
def resetUnitRegs (unit : Nat) (s : State) : State :=
  let t := resetFields (fun k => unitOfAddr (k / 32) == unit && !fieldKept .unit k) s
  foldState (fun f u => setF f (getF s f) u) (liveOf unit) t

/-- A Unit reset starts for a shard of class `cls`; `base` counts the handles that were stopped before its reaction. A reaction that finds
the reset under way stops what it stops, and ends with that reset (R343). -/
def startUnitReset (unit cls base : Nat) (s : State) : State :=
  if s.kiln.resets.any (fun u => u.unit == unit) then
    let t := stopOps (stoppedBy unit) s
    if base < stoppedCount t then
      { t with kiln := { t.kiln with resets := t.kiln.resets.map (fun u => if u.unit = unit then { u with stopped := true } else u) } }
    else t
  else
    let t := resetUnitRegs unit (unitProcedure unit (openWindow unit (blastOf unit) (stopOps (stoppedBy unit) s)))
    { t with kiln := { t.kiln with resets := t.kiln.resets ++ [{ unit := unit, cls := cls, stopped := decide (base < stoppedCount t) }] } }

/-- A fault recovery (R59, R60): a new epoch, and the stopped handles complete ABORTED. -/
def recover (s : State) : State := abortStopped (newEpoch s)

/-- A Unit reset ends (R343, R347): a fault recovery when it stopped an open handle. After TRUNK's, lanes train (R252). -/
def endUnitReset (unit : Nat) (s : State) : State :=
  match s.kiln.resets.find? (fun u => u.unit == unit) with
  | none => s
  | some u =>
    let t := endWindow unit { s with kiln := { s.kiln with resets := s.kiln.resets.filter (fun v => !(v.unit == unit)) } }
    let v := if unit = 9 then foldState (fun l w => if getF w (fTL_CTL_EN l) = 1 then trainLane l w else w) (List.range 8) t else t
    if u.stopped then recover v else v

/-- UNIT_RESET_END (R343). -/
def execUnitResetEnd (c : Nat) (unit : Nat) (s : State) : Host.Outcome State Fault Refusal := run c (ifRunning (endUnitReset unit)) s

/-! ## The Control reset (R61, R350) -/

/-- The retry key: the header CRC with RETRY taken as 0 (R41). -/
def retryKey (b : List Byte) : Nat := crc16 ((b.take 8) ++ [byteOf (n1 b 8 - (if (n1 b 8).testBit 3 then 8 else 0))] ++ sub b 9 5)

def reqOf (c : Nat) (ch : Fin 4) (target : Option Word) (b : List Byte) : Req :=
  { c := c, ch := ch, tag := h2 b 4, pcrc := (n1 b 8).testBit 2, key := BitVec.ofNat 16 (retryKey b), target := target }

/-- Check 2: a whole header with its CRC (R49). -/
def headGood (b : List Byte) : Bool := decide (16 ≤ b.length) && n2 b 14 == crc16 (b.take 14)

/-- A reply that repeats OPCODE, TAG and CHANNEL as received (R47, R49); `store`: it enters the replay cache. -/
def headReply (r : Req) (b : List Byte) (status detail : Nat) (store : Bool) (s : State) : State :=
  let bytes := makeItem (n2 b 2) r.tag (if r.pcrc then 5 else 1) (n1 b 9) (chan s r.ch).epoch [byteOf status, byteOf detail, 0, 0]
  let t := pushOut r.ch 4 { reply := true, bytes := bytes, handle := none } s
  if store then storeReplay r bytes t else t

/-- A packet that waits in an input buffer replies ABORTED (R61); the reply of one that passes check 2 is stored (R41). -/
def abortPacket (ch : Fin 4) (b : List Byte) (s : State) : State := headReply (reqOf 0 ch none b) b stABORTED 0 (headGood b) s

def abortInputs (ch : Fin 4) (s : State) : State :=
  foldState (abortPacket ch) (chan s ch).inBuf (setChan ch { chan s ch with inBuf := [] } s)

/-- The operations a Control reset stops: all but a Standby entry or exit (R61). -/
def controlStops (k : OpKind) : Bool :=
  match k with
  | .standbyEnter => false
  | .standbyLeave => false
  | _ => true

/-- The update session ends; an image bank reads EMPTY (R381, R390). -/
def endSession (s : State) : State :=
  match s.upd.session with
  | none => s
  | some x => setF fUPD_STAT_SESS 0 (when_ (!x.data) (setF fUPD_STAT_INACT 0) { s with upd := { s.upd with session := none } })

/-- A Control reset starts; one that is under way takes a further cause with it (R350). -/
def startControl (s : State) : State :=
  if s.kiln.ctlReset then s
  else
    let s1 := openWindow controlNo controlBlast (bump fSYS_RSTCAUSE_CTRL s)
    let s2 := foldState abortInputs ([0, 1, 2, 3] : List (Fin 4)) s1
    let s3 := stopOps controlStops (cancelCommits (fun _ => true) s2)
    let s4 := foldState (fun n t => endTraining n (endProtOps n t)) (List.range 16) s3
    let s5 := setF fCLK_STAT_ALIGNING 0 (endSession (dropHostMsgs { s4 with msgs := [] }))
    let s6 := if proofState s5 = proofWRITING ∨ proofState s5 = proofVERIFYING then emptyProof s5 else s5
    let s7 := emptyStamps (if s6.twin.join = 0 then s6 else forgetSync s6)
    let s8 := cutLock (fun m => !(m == .mir) && !(m == .dbg)) s7
    let s9 := resetFields (fun k => !fieldKept .control k) s8
    { s9 with clk := { s9.clk with frozen := true }, kiln := { s9.kiln with ctlReset := true },
              pwr := { s9.pwr with sup := false, romDone := false, hlpStop := [] } }

/-- The Control reset ends and the supervisor restarts; `CONTROL_RESET_END` then takes what the input buffers hold (R61). -/
def endControl (s : State) : State :=
  if s.kiln.ctlReset then
    let t := endWindow controlNo { s with kiln := { s.kiln with ctlReset := false }, clk := { s.clk with frozen := false }, pwr := { s.pwr with sup := true } }
    foldState release [0, 1, 2, 3] (recover (trunkHelperRestart (setF fSYS_REMAP_WRAM (b01 (getF s fSYS_OVLVER_VERSION != 0)) t)))
  else s

def opControlReset (r : Req) (s : State) : State :=
  command r 0x0003 [] (fun s => startControl (replyOK r 0x0003 [byteOf (chan s r.ch).epoch, 0, 0, 0] s)) s

/-- CONTROL_RESET (R60, R61, R65). -/
def execControlReset (r : Req) (s : State) : Host.Outcome State Fault Refusal := run r.c (opControlReset r) s

/-! ## Cold, Pin, Watchdog and Soft resets (R58, R350, R351, R355) -/

/-- What stays in memory: the Keep domain but for a Cold reset, the NVS, and the flash. -/
def survivingMem (cold : Bool) (m : List Host.Cell) : List Host.Cell :=
  m.filter (fun e => (decide (nvsBase ≤ e.1) && decide (e.1 < nvsBase + 0x80000)) || decide (flashBase ≤ e.1) ||
    (!cold && decide (keepBase ≤ e.1) && decide (e.1 < keepBase + 0x1000)))

/-- The engine after a reset of kind `k`, held until RESET_RELEASE. Fuses, the queue and the free values' counter stay. -/
def freshState (k : ResetKind) (s : State) : State :=
  { pending := s.pending, fuses := s.fuses, cycle := s.cycle, free := s.free,
    regs := s.regs.filter (fun e => fieldKept k e.1),
    mem := survivingMem (k == .cold) s.mem,
    upd := { s.upd with session := none, gHold := false, fb := 0, hTick := 0 },
    pwr := { keepPwren := s.pwr.keepPwren } }

/-- The bit of SYS_RSTCAUSE that a reset sets alone (R351). -/
def setCause (bit : Nat) (s : State) : State :=
  foldState (fun f t => setF f.1 (b01 (f.2 == bit)) t)
    [(fSYS_RSTCAUSE_COLD, 0), (fSYS_RSTCAUSE_PIN, 1), (fSYS_RSTCAUSE_BROWN, 2), (fSYS_RSTCAUSE_WDOG, 3), (fSYS_RSTCAUSE_SOFT, 4),
     (fSYS_RSTCAUSE_DORM, 5)] s

/-- A reset as Pin, Watchdog, Soft or the leaving of Dormant, with its cause: the Keep domain, NVS and flash stay; the thermal model
and BANK come back from their copies; the cause goes over the last-fault record (R211, R291, R338, R351). -/
def fullReset (k : ResetKind) (bit : Nat) (s : State) : State :=
  let t := setCause bit (freshState k s)
  let u := setF fKILN_LASTH_SHARD 1 (setF fKILN_LASTL_SHARD bit t)
  let bank := memWord u bankAddr
  foldState restoreThermal (List.range 16) (setF fCLK_FREQ_FREQ bank (setF fCLK_BANK_BANK bank u))

/-- VKEEP rises through its power-on level (R350, R396): everything but fuses, NVS and flash is as after a Cold reset. -/
def coldReset (s : State) : State := { setCause 0 (freshState .cold s) with pwr := {} }

/-- COLD_RESET (R350, R351). -/
def execColdReset (s : State) : Host.Outcome State Fault Refusal := runMem 0 coldReset s

/-- VKEEP_FALL: the Keep domain is reset and the engine is held until VKEEP rises (R396). -/
def execVkeepFall (s : State) : Host.Outcome State Fault Refusal :=
  runMem 0 (fun s => { freshState .cold s with pwr := { phase := .keepLow } }) s

/-- Is the engine powered (R353, R396)? -/
def poweredUp (s : State) : Bool := s.pwr.phase == .run || s.pwr.phase == .held

/-- PIN_RESET (R350). -/
def execPinReset (c : Nat) (s : State) : Host.Outcome State Fault Refusal :=
  runMem c (fun s => if poweredUp s then fullReset .pin 1 s else s) s

/-- BROWN_OUT: a main rail reaches its reset level; the removal of the rails in Dormant is none (R349, R353, R398). -/
def execBrownOut (c : Nat) (_rail : Nat) (s : State) : Host.Outcome State Fault Refusal :=
  runMem c (fun s => if poweredUp s then fullReset .pin 2 s else s) s

/-- SOFT_RESET: 1 ms after the reply of DEVICE_RESET (R65, R350). -/
def execSoftReset (c : Nat) (s : State) : Host.Outcome State Fault Refusal :=
  runMem c (ifRunning fun s => if s.pwr.softDue then fullReset .soft 4 s else s) s

/-- DEVICE_RESET (R65). -/
def opDeviceReset (r : Req) (confirm : Half) (s : State) : State :=
  command r 0x0002 [deniedIf (confirm != 0xD5E7) 6]
    (fun s => replyOK r 0x0002 [] { s with pwr := { s.pwr with softDue := true } }) s

def execDeviceReset (r : Req) (confirm : Half) (s : State) : Host.Outcome State Fault Refusal := run r.c (opDeviceReset r confirm) s

/-- RESET_RELEASE: the rails have stood in range for 2 ms with RESET_N high (R397). From Dormant this is a Pin reset with cause DORM
(R353). -/
def resetRelease (s : State) : State :=
  match s.pwr.phase with
  | .held => { s with pwr := { s.pwr with phase := .run } }
  | .dormant =>
    let t := fullReset .pin 5 s
    { t with pwr := { t.pwr with phase := .run } }
  | _ => s

def execResetRelease (s : State) : Host.Outcome State Fault Refusal := runMem 0 resetRelease s

end Sys2Proof.Machine
end

