-- ==== Sys2Proof/Machine/Kiln.lean ====
section
/-! DEFINITION. The Kiln (R334 to R347, R354, R356 to R358): the log, escalation, reactions, acknowledging and clearing, injection,
and its commands. -/
namespace Sys2Proof.Machine

open Sys2Proof

/-! ## Classes, kinds and levels (R336, R339) -/

/-- The default level of every kind of a class, in code order from 1. -/
def kindLevels (cls : Nat) : List Nat :=
  match cls with
  | 0 => [0, 0, 0]
  | 1 => [0, 0, 0, 2, 2, 2, 0, 1]
  | 2 => [2]
  | 3 => [1, 1, 1, 0, 0, 0, 0, 1, 1, 1, 1, 1, 1]
  | 4 => [1, 0, 0, 1, 1, 1, 1, 1, 1, 1, 1, 1, 1, 5]
  | 5 => [1, 0, 1]
  | 6 => [0, 1, 1, 2, 1, 5]
  | 7 => [0, 0, 0, 1, 1, 1, 1, 2, 2, 2, 2, 1, 1, 1]
  | 8 => [1, 0]
  | 9 => [3, 3, 1, 1, 1]
  | 10 => [1, 1, 1, 0, 1, 1, 1, 2]
  | _ => []

def kindDefined (cls kind : Nat) : Bool := decide (1 ≤ kind) && decide (kind ≤ (kindLevels cls).length)

def defaultLevel (key : Nat) : Nat := ((kindLevels (key / 256))[key % 256 - 1]?).getD 0

/-- The configured level of a kind. -/
def kindLevel (s : State) (cls kind : Nat) : Nat := cget defaultLevel s.kiln.levels (cls * 256 + kind)

/-! ## Shards and the log (R334, R338) -/

def b1 (b : Bool) : Nat := if b then 1 else 0

def shardBits (x : Shard) : Nat :=
  b1 x.inj * 2 ^ 63 + b1 x.conseq * 2 ^ 62 + b1 x.dry * 2 ^ 61 + b1 x.esc * 2 ^ 60 + x.level % 8 * 2 ^ 57 + x.src % 32 * 2 ^ 52 +
    x.inst % 256 * 2 ^ 44 + x.cls % 16 * 2 ^ 40 + x.kind % 256 * 2 ^ 32 + x.ctx % 2 ^ 32

def shardBytes (x : Shard) : List Byte := beBytes 8 (shardBits x)

/-- The four words of a log entry. -/
def entryWords (e : LogEntry) : List Nat :=
  [shardBits e.shard / 2 ^ 32, shardBits e.shard % 2 ^ 32, e.batch.toNat, e.cycle % 2 ^ 17 + e.seq % 2 ^ 15 * 2 ^ 17]

def entryBytes (e : LogEntry) : List Byte := (entryWords e).flatMap be4

def logShard (x : Shard) (s : State) : State :=
  let full := decide (256 ≤ s.kiln.log.length)
  let e : LogEntry := { shard := x, batch := batch s, cycle := s.cycle, seq := s.kiln.seq }
  let t := when_ full (bump fKILN_LOGSTAT_LOST) s
  { t with kiln := { t.kiln with log := (if full then t.kiln.log.drop 1 else t.kiln.log) ++ [e],
                                 logPos := if full then 0 else t.kiln.logPos, seq := (t.kiln.seq + 1) % 32768 } }

/-! ## Notifications (R354) -/

/-- A notification to one UDP channel, or the count of one that is not generated. -/
def notify (x : Shard) (ch : Nat) (s : State) : State :=
  let en := if ch = 1 then getF s fHOST_UDP1_EN else getF s fHOST_UDP2_EN
  let k := chan s ch
  if !(getF s fKILN_CFG_NOTIFY).testBit (ch - 1) then s
  else if en = 0 ∨ k.peer.isNone then bump (fHOST_ERR_DROP ch) (setChan ch { k with dDrop := (k.dDrop + 1) % 2 ^ 32 } s)
  else pushOut ch 4 { reply := false, handle := none, bytes := makeItem 0x0A7F 0 3 ch k.epoch ([0, 0, 0, 0] ++ shardBytes x) } s

/-! ## Reactions (R339, R341, R342) -/

def showMaxLevel (s : State) : State :=
  setF fKILN_STAT_MAXLVL ((List.range 11).foldl (fun m c => max m (getF s (fKILN_CLS_ESC c))) 0) s

/-- Level 1: ACTIVE, UNACK and ESC of the class, and the notifications. -/
def markClass (x : Shard) (s : State) : State :=
  let c := x.cls
  let t := setF (fKILN_CLS_ESC c) (max (getF s (fKILN_CLS_ESC c)) x.level)
    (setMaskBit fKILN_STAT_UNACK c true (setMaskBit fKILN_STAT_ACTIVE c true s))
  notify x 2 (notify x 1 (showMaxLevel t))

/-- The tray that owns what a shard names (R341): a core's CONTEXT holds it, the mix engine's names a slot, the dynamics engine's an
instance, the Pantry's an address of the delay pool. -/
def shardTray (s : State) (x : Shard) : Option Nat :=
  match x.src with
  | 6 => (s.oven.trays.find? (fun t => t.dests.any (fun d => d.slot == x.ctx))).map (·.num)
  | 7 => (s.oven.trays.find? (fun t => t.dyns.any (fun d => d.inst == x.ctx))).map (·.num)
  | 22 => (s.oven.trays.find? (fun t => t.delays.any (fun d =>
      decide (delayAddr d 0 ≤ x.ctx) && decide (x.ctx < delayAddr d 0 + d.granules * 768)))).map (·.num)
  | _ => if x.ctx.testBit 29 then none else (trayOf s.oven (bits x.ctx 28 24)).map (·.num)

/-- An output goes to SAFE without retry; a latched output stays latched, and a trip has put its output there with its retry (R222). -/
def safeOut (n : Nat) (s : State) : State :=
  let st := outState s n
  if st = oLATCHED then s
  else
    let t := endProtOps n s
    enterSafe n false (setOut n { out_ t n with code := none } t)

/-- The operations that end when an output goes to SAFE. -/
def endsWithOut (n : Nat) : OpKind → Bool
  | .sweep k => k == n
  | .cal k => k == n
  | .train m => m == 2 ^ n
  | _ => false

/-- The device safe state begins (R342). -/
def enterSafeState (s : State) : State :=
  let t := stopOps (fun k => (List.range 16).any (fun n => endsWithOut n k) || isTrain k) s
  let u := if hasMod t then foldState (fun n v => safeOut n (setOut n { out_ v n with gHr := fpZero } v)) (List.range 16) t else t
  setF fKILN_STAT_SAFE 1 { u with pwr := { u.pwr with txFade := steady fpZero } }

/-- Level 2 acts on the source instance (R341). -/
def isolate (x : Shard) (s : State) : State :=
  match x.src with
  | 2 => if clkState s = kBANKED then { s with clk := { s.clk with heldByKiln := true } }
         else enterBanked { s with clk := { s.clk with heldByKiln := true } }
  | 8 => if x.inst < 8 ∧ !(port s x.inst).isolated then isolatePort x.inst true s else s
  | 9 => if x.inst < 8 then setLane x.inst { lane s x.inst with isolated := true } s else s
  | 10 => if x.inst < 2 then stopStreams x.inst x.cls true s else s
  | 11 => if x.inst < 16 ∧ hasMod s ∧ !(x.kind == 11 && x.cls == 7 && outState s x.inst == oSAFE)
          then safeOut x.inst (stopOps (endsWithOut x.inst) s) else s
  | 12 => if x.inst < 16 ∧ hasMod s ∧ !(x.kind == 11 && x.cls == 7 && outState s x.inst == oSAFE)
          then safeOut x.inst (stopOps (endsWithOut x.inst) s) else s
  | 13 => loseSync 1 false s
  | 17 => setF fNVS_STAT_BUSY 0 s
  | 4 => muteOwner x s
  | 5 => muteOwner x s
  | 6 => muteOwner x s
  | 7 => muteOwner x s
  | 22 => muteOwner x s
  | _ => s
where
  muteOwner (x : Shard) (s : State) : State :=
    match shardTray s x with
    | some n => softMute n x.cls s
    | none => s

/-- The sources that level 2 acts on. -/
def isolates (src : Nat) : Bool := src == 2 || (decide (4 ≤ src) && decide (src ≤ 13)) || src == 17 || src == 22

/-- What level 3 resets: a unit, all that a Control reset resets, or nothing (R341). -/
def resetOf (src : Nat) : Option Nat :=
  if src == 2 || (decide (4 ≤ src) && decide (src ≤ 13)) || src == 17 then some src
  else if src == 18 || src == 19 || src == 20 || src == 21 || src == 23 || src == 24 then some controlNo
  else none

def addStanding (x : Shard) (level : Nat) (stopped : Bool) (s : State) : State :=
  { s with kiln := { s.kiln with standing := s.kiln.standing ++ [{ cls := x.cls, level := level, src := x.src, inst := x.inst, stopped := stopped }] } }

/-- Level 3: the source's reset; a commit before its boundary is taken back (R82, R341). A source that has no reset stops no handle (R341), so
there the commits complete ABORTED at once (log entry 66). -/
def resetSource (x : Shard) (s : State) : State :=
  match resetOf x.src with
  | some 18 => startControl (stopCommits s)
  | some u => startUnitReset u x.cls (stoppedCount s) (stopCommits s)
  | none => abortCommits (fun _ => true) s

/-- A shard reacts at level `e` (R339). Each level performs the ones below it. -/
def react (x : Shard) (e : Nat) (s0 : State) : State :=
  let s := markClass x s0
  let s2 := if 2 ≤ e ∧ isolates x.src then
      let u := isolate x (addStanding x 2 false s)
      if stoppedCount s < stoppedCount u then
        { u with kiln := { u.kiln with standing := u.kiln.standing.map (fun y =>
            if y.cls = x.cls ∧ y.level = 2 ∧ y.src = x.src ∧ y.inst = x.inst then { y with stopped := true } else y) } }
      else u
    else s
  let s3 := if 3 ≤ e then resetSource x s2 else s2
  let s4 := if 4 ≤ e ∧ getF s3 fTWIN_STAT_ROLE = tACTIVE then setF fKILN_STAT_FAILREQ 1 (addStanding x 4 false s3) else s3
  let s5 := if 5 ≤ e then
      let base := stoppedCount s4
      let u := enterSafeState s4
      addStanding x 5 (decide (base < stoppedCount u)) u
    else s4
  let started := match resetOf x.src with
    | some u => if 3 ≤ e then [u] else []
    | none => []
  let cause : Cause := { cls := x.cls, kind := x.kind, src := x.src, inst := x.inst, ctx := x.ctx, event := x.inj, reset := if x.inj then [] else started }
  { s5 with kiln := { s5.kiln with causes := s5.kiln.causes ++ [cause] } }

/-- The last-fault record (R338). -/
def keepLast (x : Shard) (s : State) : State :=
  setF fKILN_LASTH_SHARD (shardBits x / 2 ^ 32) (setF fKILN_LASTL_SHARD (shardBits x % 2 ^ 32) s)

/-- The level a shard takes (R340). -/
def levelOf (s : State) (x : Shard) : Nat :=
  let base := kindLevel s x.cls x.kind
  if 1 ≤ base ∧ (getF s fKILN_STAT_UNACK).testBit x.cls then
    max base (min (getF s (fKILN_CLS_ESC x.cls) + 1) (getF s (fKILN_CLS_ESCMAX x.cls)))
  else base

/-- The Kiln takes a shard (R340). A shard whose source is KILN reacts at most at level 1 (R356). -/
def takeShard (x0 : Shard) (s0 : State) : State :=
  let s := bump (fKILN_CLS_COUNT x0.cls) s0
  let base := kindLevel s x0.cls x0.kind
  if !x0.inj && base != 5 && masked s x0.src then
    bump fKILN_CNT_CONSEQ (logShard { x0 with conseq := true, level := 0 } s)
  else
    let lvl := levelOf s x0
    let x := { x0 with level := lvl, esc := decide (base < lvl) }
    let t := logShard x s
    if x.dry then t
    else
      let u := when_ x.esc (bump fKILN_CNT_ESCAL) t
      let e := if x.src = 1 then min lvl 1 else lvl
      if 1 ≤ e then react x e (if 3 ≤ e then keepLast x u else u) else u

/-- Take one waiting shard out of its source's queue. -/
def dropWaiting (x : Shard) (s : State) : State := { s with kiln := { s.kiln with waiting := s.kiln.waiting.erase x } }

/-- The shard that the Kiln takes next: the lowest source, a real one before an injected one (R337). -/
def nextShard (s : State) : Option Shard :=
  s.kiln.waiting.foldl (fun b x => match b with
    | none => some x
    | some y => if x.src < y.src ∨ (x.src = y.src ∧ y.inj ∧ !x.inj) then some x else some y) none

def takeNext (s : State) : State :=
  match nextShard s with
  | some x => takeShard x (dropWaiting x s)
  | none => s

/-- SHARD (R337, R340). -/
def execShard (c : Nat) (s : State) : Host.Outcome State Fault Refusal := runMem c (ifRunning takeNext) s

/-! ## Acknowledging and clearing (R343, R344) -/

/-- UNACK and ESC of the named classes become 0. -/
def acknowledge (mask : Nat) (s : State) : State :=
  showMaxLevel (foldState (fun c t => setF (fKILN_CLS_ESC c) 0 (setMaskBit fKILN_STAT_UNACK c false t)) (maskList 11 mask) s)

/-- Is some standby READY or MIXED, as this engine knows it? -/
def standbyReady (s : State) : Bool :=
  if role s = tSTANDBY then decide (2 ≤ sync s)
  else if role s = tREFEREE then [0, 1].any (fun x => getF s (fTWIN_SIDE_OK x) == 1 && decide (2 ≤ getF s (fTWIN_SIDE_SYNC x)))
  else decide (2 ≤ s.twin.peerSync)

/-- Is a coil hotter than a limit? -/
def hotter (s : State) (n : Nat) (lim : Word) : Bool := fpLt lim (prot s n).tc

/-- Does the state that a condition reports persist (R344)? -/
def condition_ (s : State) (x : Cause) : Bool :=
  match x.cls, x.kind with
  | 3, 1 => portState s x.inst == pLOST
  | 3, 9 => laneState s x.inst != lUP
  | 3, 13 => !macUp s x.inst
  | 4, 1 => entState s x.inst == eNOSIG
  | 4, 7 => getF s fCLK_STAT_DISAGREE == 1
  | 4, 8 => clkState s != kLOCKED
  | 4, 12 => !(candidates s).any (fun e => entSource s e == 12)
  | 4, 13 => clkState s == kBANKED
  | 4, 14 => getF s fCLK_STAT_ROOTLOCK == 0
  | 5, 1 => (getF s fPWR_STAT_WARN).testBit x.ctx
  | 5, 3 => (getF s fPWR_STAT_WARN).testBit 6
  | 6, 3 => hotter s x.inst (pTmax s x.inst)
  | 6, 4 => hotter s x.inst (pTcrit s x.inst)
  | 6, 5 => decide (1050 < getFI s fPWR_TJ_TJ)
  | 6, 6 => decide (1200 < getFI s fPWR_TJ_TJ)
  | 7, 8 => outState s x.inst == oSAFE
  | 7, 9 => outState s x.inst == oSAFE
  | 7, 10 => outState s x.inst == oSAFE
  | 7, 11 => outState s x.inst == oSAFE
  | 7, 12 => outState s x.inst == oLATCHED
  | 10, 5 => !standbyReady s
  | 10, 6 => getF s fTWIN_STAT_REFOK == 0
  | 10, 7 => laneState s (8 + x.inst) != lUP
  | 10, 8 => !standbyReady s
  | _, _ => false

/-- Does a recorded cause persist (R344, R345)? -/
def persists (s : State) (x : Cause) : Bool :=
  (!x.event && condition_ s x) ||
    x.reset.any (fun u => if u = controlNo then s.kiln.ctlReset else s.kiln.resets.any (fun r => r.unit == u))

/-- The KIND of the first persisting cause of a class; none when nothing persists. -/
def firstCause (s : State) (c : Nat) : Option Nat := (s.kiln.causes.find? (fun x => x.cls == c && persists s x)).map (·.kind)

/-- Isolations end where no reaction holds them any more; level 4 and 5 too (R341 to R343). -/
def releaseSources (c : Nat) (s : State) : State :=
  let on (src inst : Nat) : Bool := s.kiln.standing.any (fun x => x.src == src && x.inst == inst && x.level == 2)
  let s1 := clearMutes c s
  let s2 := foldState (fun n t => if (port t n).isolated && !on 8 n then isolatePort n false t else t) (List.range 8) s1
  let s3 := foldState (fun l t => if (lane t l).isolated && !on 9 l then setLane l { lane t l with isolated := false } t else t) (List.range 8) s2
  let s4 := stopStreams 1 c false (stopStreams 0 c false s3)
  let s5 := { s4 with clk := { s4.clk with heldByKiln := s.kiln.standing.any (fun x => x.src == 2 && x.level == 2) } }
  let s6 := if nvsHeld s5 then s5 else flushNvs s5
  setF fKILN_STAT_SAFE (b1 (s.kiln.standing.any (fun x => x.level == 5)))
    (setF fKILN_STAT_FAILREQ (b1 (s.kiln.standing.any (fun x => x.level == 4))) s6)

/-- A class is cleared (R343): its reactions end, each a fault recovery when it stopped an open handle. -/
def clearClass (c : Nat) (s : State) : State :=
  let mine := s.kiln.standing.filter (fun x => x.cls == c)
  let was := (getF s fKILN_STAT_ACTIVE).testBit c
  let t := { s with kiln := { s.kiln with standing := s.kiln.standing.filter (fun x => !(x.cls == c)),
                                          causes := s.kiln.causes.filter (fun x => !(x.cls == c)) } }
  let u := releaseSources c (setMaskBit fKILN_STAT_ACTIVE c false t)
  foldState (fun _ v => recover v) (mine.filter (·.stopped)) (when_ was (send 1 0 0 2 c) u)

/-- What clearing a set of classes gives: the state, the classes cleared, and those refused with the KIND that persists. -/
structure Cleared where
  s       : State
  cleared : Nat
  refused : List (Nat × Nat)

def clearOne (acc : Cleared) (c : Nat) : Cleared :=
  let t := acknowledge (2 ^ c) acc.s
  match firstCause t c with
  | some k => { s := bump fKILN_CNT_REFUSED t, cleared := acc.cleared, refused := acc.refused ++ [(c, k)] }
  | none => { s := clearClass c t, cleared := acc.cleared + 2 ^ c, refused := acc.refused }

def clearClasses (mask : Nat) (s : State) : Cleared :=
  (maskList 11 mask).foldl clearOne { s := s, cleared := 0, refused := [] }

/-- A write of 1 to bits of KILN_ACK (R343). -/
def execKilnAckRegister (c : Nat) (_m : Master) (value : Word) (s : State) : Host.Outcome State Fault Refusal :=
  run c (ifRunning (acknowledge (value.toNat % 2 ^ 11))) s

/-- A W1C write to KILN_STAT.ACTIVE (R343). -/
def execActiveClear (c : Nat) (_m : Master) (value : Word) (s : State) : Host.Outcome State Fault Refusal :=
  runMem c (ifRunning fun s => (clearClasses (value.toNat % 2 ^ 11) s).s) s

/-- The next word that a read of KILN_LOG returns (R357). -/
def logWord (s : State) : Nat :=
  match s.kiln.log with
  | [] => 0
  | e :: _ => ((entryWords e)[s.kiln.logPos]?).getD 0

/-- A read of KILN_LOG moves on by a word; four reads remove the entry. -/
def readLog (s : State) : State :=
  if s.kiln.log.isEmpty then s
  else if s.kiln.logPos < 3 then { s with kiln := { s.kiln with logPos := s.kiln.logPos + 1 } }
  else { s with kiln := { s.kiln with log := s.kiln.log.drop 1, logPos := 0 } }

/-- KILN_LOG: a read of the register by a master; the word goes out on the fabric (R357, R362). -/
def execKilnLog (c : Nat) (_m : Master) (s : State) : Host.Outcome State Fault Refusal :=
  run c (ifRunning fun s => emit (.fabric [BitVec.ofNat 32 (logWord s)] false 0) (readLog s)) s

/-! ## Commands (R358) -/

def opKilnRead (r : Req) (count : Nat) (s : State) : State :=
  command r 0x0A00 []
    (fun s =>
      let es := s.kiln.log.take (clampN 1 255 count)
      let lost := getF s fKILN_LOGSTAT_LOST
      replyOK r 0x0A00 (be2 es.length ++ be2 lost ++ es.flatMap entryBytes)
        (setF fKILN_LOGSTAT_LOST 0 { s with kiln := { s.kiln with log := s.kiln.log.drop es.length, logPos := 0 } })) s

def execKilnRead (r : Req) (count : Nat) (s : State) : Host.Outcome State Fault Refusal := run r.c (opKilnRead r count) s

def opKilnAck (r : Req) (mask : Nat) (s : State) : State :=
  command r 0x0A01 []
    (fun s =>
      let t := acknowledge (mask % 2 ^ 11) s
      replyOK r 0x0A01 (be2 (getF t fKILN_STAT_UNACK) ++ [0, 0]) t) s

def execKilnAck (r : Req) (mask : Nat) (s : State) : Host.Outcome State Fault Refusal := run r.c (opKilnAck r mask) s

def opKilnClear (r : Req) (mask : Nat) (s : State) : State :=
  command r 0x0A02 []
    (fun s =>
      let o := clearClasses (mask % 2 ^ 11) s
      let refused := o.refused.foldl (fun m e => m + 2 ^ e.1) 0
      replyOK r 0x0A02 (be2 o.cleared ++ be2 refused ++ o.refused.flatMap (fun e => [byteOf e.1, byteOf e.2])) o.s) s

def execKilnClear (r : Req) (mask : Nat) (s : State) : Host.Outcome State Fault Refusal := runMem r.c (opKilnClear r mask) s

/-- The shards that the Kiln takes ahead of an injected one: the real ones of its source (R337, R346). -/
def drainSource (src : Nat) (s : State) : State :=
  foldState (fun x t => takeShard x (dropWaiting x t)) (s.kiln.waiting.filter (fun x => x.src == src && !x.inj)) s

/-- A SRC that is the code of an absent unit names that unit (R5, R335). -/
def opKilnInject (r : Req) (src inst cls kind : Nat) (context : Word) (dry : Nat) (s : State) : State :=
  let c := clampHi 10 cls
  command r 0x0A03 [absentIf (unitAbsent s (clampHi 24 src)), deniedIf (!kindDefined c kind) 1]
    (fun s =>
      let x : Shard := { inj := true, dry := decide (1 ≤ dry), src := clampHi 24 src, inst := inst, cls := c, kind := kind, ctx := context.toNat }
      let t := takeShard x (drainSource x.src s)
      let logged := match t.kiln.log.reverse.find? (fun e => e.shard.inj && e.seq == (drainSource x.src s).kiln.seq) with
        | some e => e.shard
        | none => x
      replyOK r 0x0A03 (shardBytes logged) t) s

/-- KILN_INJECT (R345, R346). -/
def execKilnInject (r : Req) (src inst cls kind : Nat) (context : Word) (dry : Nat) (s : State) : Host.Outcome State Fault Refusal :=
  runMem r.c (opKilnInject r src inst cls kind context dry) s

def opKilnLevelSet (r : Req) (cls kind level : Nat) (s : State) : State :=
  command r 0x0A04 [deniedIf (!kindDefined cls kind) 1]
    (fun s =>
      let key := cls * 256 + kind
      let l := if defaultLevel key = 5 then 5 else clampHi 5 level
      replyOK r 0x0A04 [byteOf l, 0, 0, 0] { s with kiln := { s.kiln with levels := cset defaultLevel s.kiln.levels key l } }) s

/-- KILN_LEVEL_SET (R339, R358). -/
def execKilnLevelSet (r : Req) (cls kind level : Nat) (s : State) : Host.Outcome State Fault Refusal := run r.c (opKilnLevelSet r cls kind level) s

def opKilnStatus (r : Req) (s : State) : State :=
  command r 0x0A05 []
    (fun s => replyOK r 0x0A05
      (([rKILN_STAT, rKILN_LOGSTAT, rKILN_CNT, rKILN_LASTH, rKILN_LASTL, rPWR_STAT].flatMap (fun a => be4 (peekReg s a))) ++
        (List.range 11).flatMap (fun c => (List.range (kindLevels c).length).map (fun k => byteOf (kindLevel s c (k + 1))))) s) s

def execKilnStatus (r : Req) (s : State) : Host.Outcome State Fault Refusal := run r.c (opKilnStatus r) s

/-- The Kiln opcodes (R358). -/
def parseKiln (r : Req) (op : Nat) (p : List Byte) : Parse :=
  match op with
  | 0x0A00 => lenIs 4 p (.kilnRead r (n2 p 0))
  | 0x0A01 => lenIs 4 p (.kilnAck r (n2 p 0))
  | 0x0A02 => lenIs 4 p (.kilnClear r (n2 p 0))
  | 0x0A03 => lenIs 12 p (.kilnInject r (n1 p 0) (n1 p 1) (n1 p 2) (n1 p 3) (w4 p 4) (n1 p 8))
  | 0x0A04 => lenIs 4 p (.kilnLevelSet r (n1 p 0) (n1 p 1) (n1 p 2))
  | 0x0A05 => lenIs 0 p (.kilnStatus r)
  | _ => .unknown

end Sys2Proof.Machine
end

