-- ==== Sys2Proof/Machine/Power.lean ====
section
/-! DEFINITION. Supplies, die temperature, watchdogs, Standby and Dormant (R336, R348 to R353, R360, R373, R374). -/
namespace Sys2Proof.Machine

open Sys2Proof

/-! ## Rails and the Damper state (R348, R396) -/

/-- The running scrubs are paused, or run on (R348). -/
def pauseScrubs (on : Bool) (s : State) : State :=
  { s with ops := s.ops.map (fun o => match o.kind with
      | .scrub r _ => { o with kind := .scrub r on }
      | _ => o) }

/-- A main rail below its warning level for 1 µs: the Damper state is entered (R348). -/
def dip (rail : Nat) (s : State) : State :=
  let t := setMaskBit fPWR_STAT_WARN rail true s
  if getF s fPWR_STAT_DAMPER = 1 then t
  else
    let u := setF fNVS_STAT_BUSY 0 (bump fPWR_CNT_DIPS (send 16 0 5 1 rail t))
    pauseScrubs true (foldState parkCore (List.range 128) (setF fPWR_STAT_DAMPER 1 u))

/-- DIP (R348). -/
def execDip (c : Nat) (rail : Nat) (s : State) : Host.Outcome State Fault Refusal := run c (ifRunning (dip rail)) s

/-- Every main rail above warning plus 1 % for 1 ms: the Damper state ends (R348). -/
def dipEnd (s : State) : State :=
  if getF s fPWR_STAT_DAMPER = 0 then s
  else
    let t := setF fPWR_STAT_DAMPER 0 (setF fPWR_STAT_WARN (getF s fPWR_STAT_WARN / 64 * 64) s)
    let u := send 16 0 5 2 0 t
    pauseScrubs false (if nvsHeld u then u else flushNvs u)

/-- DIP_END (R348). -/
def execDipEnd (c : Nat) (s : State) : Host.Outcome State Fault Refusal := runMem c (ifRunning dipEnd) s

/-- VKEEP_LOW: VKEEP falls below its warning level (R396). -/
def vkeepLow (s : State) : State := send 16 0 5 3 0 (setMaskBit fPWR_STAT_WARN 6 true s)

def execVkeepLow (c : Nat) (s : State) : Host.Outcome State Fault Refusal := run c (ifRunning vkeepLow) s

/-! ## Die temperature (R336, R357) -/

/-- PWR_TJ takes a temperature in 0.1 °C. -/
def showTj (tj : Int) (s : State) : State :=
  setFI fPWR_TJ_PEAK (max (getFI s fPWR_TJ_PEAK) tj) (setFI fPWR_TJ_TJ tj s)

/-- TJ_WARN above 105 °C, and again only after a fall of 5 K below it. -/
def tjWarn (tj : Int) (s : State) : State :=
  let t := showTj tj s
  if decide (1050 < tj) && !s.pwr.tjWarned then send 16 0 6 5 0 { t with pwr := { t.pwr with tjWarned := true } }
  else if tj ≤ 1000 then { t with pwr := { t.pwr with tjWarned := false } }
  else t

def execTjWarn (c : Nat) (tj : Int) (s : State) : Host.Outcome State Fault Refusal := run c (ifRunning (tjWarn tj)) s

/-- TJ_CRIT above 120 °C. -/
def tjCrit (tj : Int) (s : State) : State :=
  let t := showTj tj s
  if decide (1200 < tj) && !s.pwr.tjCrit then send 16 0 6 6 0 { t with pwr := { t.pwr with tjCrit := true } }
  else if tj ≤ 1150 then { t with pwr := { t.pwr with tjCrit := false } }
  else t

def execTjCrit (c : Nat) (tj : Int) (s : State) : Host.Outcome State Fault Refusal := run c (ifRunning (tjCrit tj)) s

/-! ## Watchdog and heartbeats (R350, R360, R373, R374) -/

/-- The supervisor watchdog expires: a Watchdog reset for the second expiry within 1 s or one during a Control reset, else FIRMWARE
WDOG and a Control reset (R350, R351). -/
def watchdogExpiry (second : Bool) (s : State) : State :=
  if second || s.kiln.ctlReset then fullReset .watchdog 3 s
  else
    let w : Shard := { src := 18, inst := 0, cls := 9, kind := 1, ctx := 0 }
    let t := takeShard w (drainSource 18 { s with pwr := { s.pwr with wdog := 0 } })
    setF fSYS_RSTCAUSE_CWDOG 1 (startControl t)

/-- WATCHDOG_EXPIRY (R350). -/
def execWatchdogExpiry (c : Nat) (second : Bool) (s : State) : Host.Outcome State Fault Refusal :=
  runMem c (ifRunning (watchdogExpiry second)) s

/-- A write of SYS_WDOG services the watchdog when the key is right (R373). -/
def serviceWdog (key : Nat) (s : State) : State :=
  if key % 65536 = 0xA5F0 then { s with pwr := { s.pwr with wdog := 0 } } else s

/-- SYS_WDOG (R373). -/
def execSysWdog (c : Nat) (_m : Master) (value : Word) (s : State) : Host.Outcome State Fault Refusal :=
  run c (ifRunning (serviceWdog value.toNat)) s

/-- SYS_REMAP (R373). -/
def execSysRemap (c : Nat) (_m : Master) (value : Word) (s : State) : Host.Outcome State Fault Refusal :=
  run c (ifRunning (setF fSYS_REMAP_WRAM (value.toNat % 2))) s

/-- A write of FAB_HBEATh: one that changes the value restarts the timer, and the supervision of a helper that was stopped (R360,
R374). -/
def heartbeat (h v : Nat) (s : State) : State :=
  if getF s (fFAB_HBEAT_COUNT h) = v % 65536 then s
  else setF (fFAB_HBEAT_COUNT h) v
    { s with pwr := { s.pwr with hbeat := setT 0 s.pwr.hbeat h 0, hlpStop := s.pwr.hlpStop.filter (fun k => !(k == h)) } }

/-- FAB_HBEAT (R360, R374). -/
def execFabHbeat (c : Nat) (_m : Master) (h : Nat) (value : Word) (s : State) : Host.Outcome State Fault Refusal :=
  run c (ifRunning (heartbeat h value.toNat)) s

/-- A heartbeat has been missed for 10 ms: FIRMWARE HELPER_HANG from that helper, unless it is held stopped (R360). -/
def helperHang (h : Nat) (s : State) : State := if s.pwr.hlpStop.contains h then s else send (19 + h) h 9 2 0 s

/-- HELPER_HANG (R360). -/
def execHelperHang (c : Nat) (h : Nat) (s : State) : Host.Outcome State Fault Refusal := run c (ifRunning (helperHang h)) s

/-- TAP_RESET: DBG is reset; a lock it holds is released (R368). -/
def execTapReset (c : Nat) (s : State) : Host.Outcome State Fault Refusal := run c (ifRunning (cutLock (fun m => m == .dbg))) s

/-! ## Standby (R352) -/

def isStandbyEnter : OpKind → Bool
  | .standbyEnter => true
  | _ => false
def isStandbyLeave : OpKind → Bool
  | .standbyLeave => true
  | _ => false

/-- The delay pool and the look-ahead buffers are zeroed (R352). -/
def zeroDelays (s : State) : State :=
  let zero (e : Nat × Option DynSt) : Nat × Option DynSt :=
    (e.1, e.2.map (fun x => { x with buf := x.buf.map (fun _ => 0), keyBuf := x.keyBuf.map (fun _ => 0), req := x.req.map (fun _ => x.set.thresh) }))
  clearMem pantryBase (48 * 1048576) { s with dyns := s.dyns.map zero }

def opStandbyEnter (r : Req) (s : State) : State :=
  command r 0x0007 [handleLimit r s, notNowIf (getF s fPWR_STAT_STANDBY == 1) 14]
    (fun s =>
      let t := setF fPWR_STAT_STANDBY 1 s
      accept r 0x0007 .standbyEnter (if t.pwr.standby = .awake then { t with pwr := { t.pwr with standby := .entering 100 } } else t)) s

/-- STANDBY_ENTER: SYS_STANDBY with ACTION 0 (R352, R358). -/
def execStandbyEnter (r : Req) (s : State) : Host.Outcome State Fault Refusal := run r.c (opStandbyEnter r) s

def startLeaving (s : State) : State := zeroDelays { s with pwr := { s.pwr with standby := .leaving } }

def opStandbyLeave (r : Req) (s : State) : State :=
  command r 0x0007 [handleLimit r s, notNowIf (getF s fPWR_STAT_STANDBY == 0) 14]
    (fun s =>
      let t := setF fPWR_STAT_STANDBY 0 s
      accept r 0x0007 .standbyLeave (if t.pwr.standby = .gated then startLeaving t else t)) s

/-- STANDBY_LEAVE: SYS_STANDBY with ACTION 1 (R352, R358). -/
def execStandbyLeave (r : Req) (s : State) : Host.Outcome State Fault Refusal := runMem r.c (opStandbyLeave r) s

/-- The boundary of entry: commits complete ABORTED, outputs ramp down, TDM and AES67 outputs fade over 64 samples (R352). -/
def beginStandby (s : State) : State :=
  let ramps := (List.range 16).any (fun n => outState s n == oRUN)
  let t := twinStandby (abortCommits (fun _ => true) s)
  let u := if hasMod t then foldState (fun n v => applyRun n 2 v) (List.range 16) t else t
  { u with pwr := { u.pwr with standby := .entering (if ramps then 64 else 8), txFade := rampTo fpZero 64 u.pwr.txFade } }

/-- The gating boundary: fields that Standby does not keep return to their Reset values, and the entry completes (R10, R352). -/
def gate (s : State) : State :=
  let on := maskWhere 8 (fun n => portState s n != pOFF)
  let t := if hasMod s then foldState turnOff (List.range 16) s else s
  let bit := getF t fPWR_STAT_STANDBY
  let u := setF fPWR_STAT_STANDBY bit (resetFields (fun k => !fieldKept .standby k) t)
  let v := foldState (fun n w => setTray n { tray w n with preFade := 0, fadeIn := 0 } w) (List.range 32) u
  let w := foldState (fun a x => if (stream x a.owner).state = 0 then x else setStream a.owner { stream x a.owner with state := 0, queued := false } x) v.oven.aes v
  let x := send 16 0 0 3 0 { w with pwr := { w.pwr with standby := .gated, portsOn := on } }
  let y := finishAll isStandbyEnter stOK [] x
  if y.ops.any (fun o => isStandbyLeave o.kind) then startLeaving y else y

/-- The clocks run again: every export fades in over 64 samples, ports and streams restart (R352). -/
def leaveStandby (s : State) : State :=
  let again := s.ops.any (fun o => isStandbyEnter o.kind)
  let s1 := { s with pwr := { s.pwr with standby := if again then .entering 100 else .awake, txFade := steady fpOne } }
  let s2 := foldState (fun t u =>
    if trayMuted (tray u t.num) then u
    else foldState (fun a v => setSlotFade a { gain := { start := fpZero, target := fpOne, len := 64, pos := 0 } } v) (exportsOf t)
      (setTray t.num { tray u t.num with fadeIn := 64 } u)) s1.oven.trays s1
  let s3 := resumeTrunks <| restartPorts (foldState (fun n u => setPortState n pDETECT u) ((maskList 8 s2.pwr.portsOn)) s2)
  let s4 := foldState (fun a u => if isRx a.owner ∧ (stream u a.owner).set.enable = 1 then restartStream a.owner u else u) s3.oven.aes s3
  let s4 := lpiFollow 1 (lpiFollow 0 s4)
  -- an output whose training began while the lanes idled leaves Standby in OFF (R203)
  let s5 := if hasMod s4 then foldState (fun n u => if outState u n = oLATCHED then u else turnOff n u) (List.range 16) s4 else s4
  finishAll isStandbyLeave stOK [] (showFades s5)

/-- Standby at a batch boundary (R352). -/
def standbyBoundary (s : State) : State :=
  match s.pwr.standby with
  | .awake => s
  | .entering n =>
    if n = 100 then beginStandby s
    else if n ≤ 1 then gate s
    else { s with pwr := { s.pwr with standby := .entering (n - 1) } }
  | .gated => s
  | .leaving => leaveStandby s

/-! ## Dormant (R353) -/

def opSysDormant (r : Req) (confirm : Half) (s : State) : State :=
  command r 0x0008 [deniedIf (confirm != 0xD5E7) 6, notNowIf (getF s fPWR_STAT_STANDBY == 0) 16]
    (fun s => replyOK r 0x0008 [] { s with pwr := { s.pwr with dormDue := true } }) s

/-- SYS_DORMANT (R353, R358). -/
def execSysDormant (r : Req) (confirm : Half) (s : State) : Host.Outcome State Fault Refusal := run r.c (opSysDormant r confirm) s

/-- The entry into Dormant: the Keep copies, the held NVS writes, the lanes down, KEEP_PWREN low (R353). -/
def enterDormant (s : State) : State :=
  if s.pwr.dormDue && getF s fPWR_STAT_STANDBY == 1 then
    let t := if hasProt s then foldState copyThermal (List.range 16) s else s
    let u := flushNvs (setMemWord bankAddr (getF t fCLK_BANK_BANK) t)
    let v := foldState offLane (List.range 12) u
    { v with pwr := { v.pwr with phase := .dormant, keepPwren := false, dormDue := false } }
  else s

/-- DORMANT_ENTRY (R353). -/
def execDormantEntry (c : Nat) (s : State) : Host.Outcome State Fault Refusal := runMem c (ifRunning enterDormant) s

/-- KEEP_WAKE: KEEP_WAKE_N low for 1 ms drives KEEP_PWREN high; outside Dormant it is ignored (R353, R398). -/
def execKeepWake (s : State) : Host.Outcome State Fault Refusal :=
  run 0 (fun s => if s.pwr.phase = .dormant then { s with pwr := { s.pwr with keepPwren := true } } else s) s

end Sys2Proof.Machine
end

