-- ==== Sys2Proof/Machine/Regs.lean ====
section
/-! DEFINITION. Reads and writes of registers over the control fabric (R7, R9, R56, R365, R366, R391): what a read clears, what a
write stores, and the effects that the fields' own rules give. -/
namespace Sys2Proof.Machine

open Sys2Proof

/-! ## The default target (R366) -/

def masterCode : Master → Nat
  | .sup => 0
  | .hlp0 => 1
  | .hlp1 => 2
  | .hlp2 => 3
  | .hdma => 4
  | .mir => 5
  | .dbg => 6

/-- An access that the default target answers is recorded and counted, and one shard for each master in a batch is sent (R366). -/
def decodeError (m : Master) (addr : Nat) (write : Bool) (s : State) : State :=
  let k := masterCode m
  let t := bump fFAB_CNT_DECODE (setF fFAB_ERR_ADDR addr (setF fFAB_ERRSRC_MASTER k (setF fFAB_ERRSRC_WRITE (b01 write) s)))
  if t.kiln.decodeSent.testBit k then t
  else send 15 k 8 1 addr { t with kiln := { t.kiln with decodeSent := setBit t.kiln.decodeSent k true } }

/-- The last address of the register units (R370). -/
def regTop : Nat := 0x4011FFFF
def inRegs (addr : Nat) : Bool := decide (0x40000000 ≤ addr) && decide (addr ≤ regTop)

/-- Does a word of the register region decode: a register, or any offset of an absent unit (R7)? -/
def regDecodes (s : State) (addr : Nat) : Bool := unitAbsent s (unitOfAddr addr) || (rowAt addr).isSome

/-! ## Reads -/

/-- The fields that a read clears (R9); counts that a core made in the cycle of the read follow the clear (R128). -/
def clearRc (addr : Nat) (s : State) : State :=
  (fieldsOf addr).foldl (fun t f =>
    let fl : Fld := ⟨addr, f.lo, f.hi + 1 - f.lo⟩
    if f.acc = .rc then setF fl (min (freshCount s fl) (getF s fl)) t else t) s

/-- The counts that cores have made in the cycle of the read, at their places in the word: the read precedes them (R128). -/
def freshWord (s : State) (addr : Nat) : Nat :=
  ((fieldsOf addr).map (fun f =>
    let fl : Fld := ⟨addr, f.lo, f.hi + 1 - f.lo⟩
    if f.acc = .rc then min (freshCount s fl) (getF s fl) * 2 ^ f.lo else 0)).sum

/-- The word a read returns. -/
def readWord (s : State) (addr : Nat) : Nat := if addr = rKILN_LOG then logWord s else peekReg s addr - freshWord s addr

/-- What a read does: RC fields clear, and KILN_LOG moves on (R9, R357). -/
def afterRead (addr : Nat) (s : State) : State :=
  if unitAbsent s (unitOfAddr addr) then s
  else if addr = rKILN_LOG then readLog s
  else clearRc addr s

/-! ## Writes -/

/-- A write to the fields of a register: RW fields take the value clamped to their Range, W1C fields lose the bits written 1
unless a core has set the flag in this very cycle (R128), the others do not change (R9, R56). -/
def writeFields (addr v : Nat) (s : State) : State :=
  (fieldsOf addr).foldl (fun t f =>
    let fl : Fld := ⟨addr, f.lo, f.hi + 1 - f.lo⟩
    match f.acc with
    | .rw => setF fl (clampField f (bits v f.hi f.lo)) t
    | .w1c => if freshCount s fl = 0 then setF fl (getF t fl - (getF t fl &&& bits v f.hi f.lo)) t else t
    | _ => t) s

/-- The index of the register of a run that lies at `addr`. -/
def indexOf (reg : Nat → Nat) (n addr : Nat) : Option Nat := (List.range n).find? (fun i => reg i == addr)

/-- CORE_STAT.ANYFLAG follows the flags of the cores (R129). -/
def showAnyFlag (s : State) : State :=
  setF fCORE_STAT_ANYFLAG
    (b01 ((List.range 128).any (fun n => [0, 1, 2, 3, 4, 5, 6].any (fun k => getF s ⟨rCORE_FLAGS n, k, 1⟩ == 1)))) s

/-- NVS_BUF as a line (R391). -/
def nvsLine (s : State) : List Byte := (List.range 16).flatMap (fun w => leBytes 4 (getF s (fNVS_BUF_DATA w)))

/-- A write of 1 to NVS_GO.WRITE (R391): ignored and counted while BUSY, from a master other than SUP below line 6,208, and when the
hold is full (R348). -/
def nvsGo (m : Master) (v : Nat) (s : State) : State :=
  if v % 2 = 0 then s
  else
    let line := getF s fNVS_LINE_LINE
    if getF s fNVS_STAT_BUSY = 1 ∨ (m ≠ .sup ∧ line < 6208) ∨ holdFull s 64 = true then bump fNVS_CNT_REJ s
    else
      let t := nvsWrite (.line (nvsBase + 64 * line) (nvsLine s)) s
      if nvsHeld s then t else setF fNVS_STAT_BUSY 1 t

/-- NVS_GO (R376, R391). -/
def execNvsGo (c : Nat) (m : Master) (value : Word) (s : State) : Host.Outcome State Fault Refusal :=
  runMem c (ifRunning (nvsGo m value.toNat)) s

/-- NVS_LINE_WRITE_END (R391). -/
def execNvsLineWriteEnd (c : Nat) (s : State) : Host.Outcome State Fault Refusal :=
  run c (ifRunning (setF fNVS_STAT_BUSY 0)) s

/-- ETHm_WM: LOW stays 2 below HIGH (R262, R276). -/
def clampWm (n : Nat) (s : State) : State :=
  if getF s (fETH_WM_HIGH n) < getF s (fETH_WM_LOW n) + 2 then setF (fETH_WM_LOW n) (getF s (fETH_WM_HIGH n) - 2) s else s

/-- The effects of a write of an indexed register whose fields have been stored; `old` is the state before. -/
def followRun (addr v : Nat) (old s : State) : State :=
  match indexOf rPORT_CTL 8 addr, indexOf rTL_CTL 8 addr, indexOf rETH_CTL 2 addr, indexOf rETH_WM 2 addr, indexOf rCLK_CFG 16 addr,
    indexOf rCLK_LIM 16 addr with
  | some n, _, _, _, _, _ => if v.testBit 31 then clearClaim n s else s
  | _, some l, _, _, _, _ => if v.testBit 13 then restartLane l (followCtl l s) else followCtl l s
  | _, _, some n, _, _, _ => followEthCtl n (getF old (fETH_CTL_MODE n)) s
  | _, _, _, some n, _, _ => clampWm n s
  | _, _, _, _, some e, _ => followCfg e (peekReg old addr) (storeWords [addr] [clampCfg (peekReg s addr)] s)
  | _, _, _, _, _, some _ => storeWords [addr] [clampLim (peekReg s addr)] s
  | none, none, none, none, none, none => if (indexOf rCORE_FLAGS 128 addr).isSome then showAnyFlag s else s

/-- A write of a register of a present unit, by master `m`. -/
def writeReg (m : Master) (addr v : Nat) (s : State) : State :=
  if addr = rKILN_STAT then (clearClasses (v % 2 ^ 11) s).s
  else if addr = rKILN_ACK then acknowledge (v % 2 ^ 11) s
  else if addr = rSYS_WDOG then serviceWdog v s
  else if addr = rNVS_GO then nvsGo m v s
  else
    match indexOf rFAB_HBEAT 3 addr with
    | some h => heartbeat h v s
    | none =>
      let t := writeFields addr v s
      if addr = rCLK_CTL then followCtlWord (getF s fCLK_CTL_LOOP) t
      else if addr = rTWIN_CFG then followTwinCfg (getF s fTWIN_CFG_ROLE) t
      else followRun addr v s t

/-- A write over the fabric: to an absent unit it is ignored (R7), to no register the default target answers (R366). -/
def busWrite (m : Master) (addr v : Nat) (s : State) : State :=
  if inRegs addr && regDecodes s addr then (if unitAbsent s (unitOfAddr addr) then s else writeReg m addr v s)
  else decodeError m addr true s

/-- REGISTER_WRITE (R9, R56). -/
def execRegisterWrite (c : Nat) (m : Master) (addr value : Word) (s : State) : Host.Outcome State Fault Refusal :=
  runMem c (ifRunning (busWrite m (addr.toNat / 4 * 4) value.toNat)) s

/-- The word as applied: RW fields as they stand, all other bits 0 (R65). -/
def appliedWord (s : State) (addr : Nat) : Nat :=
  if unitAbsent s (unitOfAddr addr) then 0
  else (fieldsOf addr).foldl (fun w f => if f.acc = .rw then w + getF s ⟨addr, f.lo, f.hi + 1 - f.lo⟩ * 2 ^ f.lo else w) 0

/-! ## Register commands (R65) -/

/-- Words read or applied so far, the state, and the address that decodes to nothing. -/
structure RegWalk where
  s    : State
  out  : List Byte
  fail : Option Nat

def readStep (w : RegWalk) (addr : Nat) : RegWalk :=
  if w.fail.isSome then w
  else if regDecodes w.s addr then { w with s := afterRead addr w.s, out := w.out ++ be4 (readWord w.s addr) }
  else { w with s := decodeError .sup addr false w.s, fail := some addr }

def writeStep (w : RegWalk) (a : Nat × Nat) : RegWalk :=
  if w.fail.isSome then w
  else if regDecodes w.s a.1 then
    let t := busWrite .sup a.1 a.2 w.s
    { w with s := t, out := w.out ++ be4 (appliedWord t a.1) }
  else { w with s := decodeError .sup a.1 true w.s, fail := some a.1 }

/-- The reply of a register command: its words, or FAILED with the address that decodes to no register. -/
def replyWalk (r : Req) (op : Nat) (w : RegWalk) : State :=
  match w.fail with
  | some a => reply r op stFAILED 0 (be4 a) w.s
  | none => replyOK r op w.out w.s

/-- The addresses of `n` words from `addr`, up to the end of the range. -/
def regSpan (addr n : Nat) : List Nat := ((List.range n).map (fun i => addr + 4 * i)).filter (fun a => decide (a ≤ regTop))

def opRegRead (r : Req) (addr : Word) (count : Nat) (s : State) : State :=
  let a := addr.toNat / 4 * 4
  command r 0x0100 [deniedIf (!inRegs a) 3]
    (fun s => replyWalk r 0x0100 ((regSpan a (clampN 1 256 count)).foldl readStep { s := s, out := [], fail := none })) s

/-- REG_READ (R65). -/
def execRegRead (r : Req) (addr : Word) (count : Nat) (s : State) : Host.Outcome State Fault Refusal := run r.c (opRegRead r addr count) s

def opRegWrite (r : Req) (addr : Word) (words : List Word) (s : State) : State :=
  let a := addr.toNat / 4 * 4
  command r 0x0101 [deniedIf (!inRegs a) 3]
    (fun s => replyWalk r 0x0101
      (((regSpan a words.length).zip (words.map (·.toNat))).foldl writeStep { s := s, out := [], fail := none })) s

/-- REG_WRITE (R56, R65). -/
def execRegWrite (r : Req) (addr : Word) (words : List Word) (s : State) : Host.Outcome State Fault Refusal :=
  runMem r.c (opRegWrite r addr words) s

/-- The reply holds the old word and the new word. DESIGN CHOICE (log entry 95): the card does not say what the new word holds outside the
RW fields; it is given as REG_WRITE gives a word as applied, with all other bits 0. -/
def opRegModify (r : Req) (addr mask value : Word) (s : State) : State :=
  let a := addr.toNat / 4 * 4
  command r 0x0102 [deniedIf (!inRegs a) 3]
    (fun s =>
      let w := readStep { s := s, out := [], fail := none } a
      match w.fail with
      | some _ => replyWalk r 0x0102 w
      | none =>
        let old := readWord s a
        let merged := (BitVec.ofNat 32 old &&& ~~~mask) ||| (value &&& mask)
        let t := busWrite .sup a merged.toNat w.s
        replyOK r 0x0102 (be4 old ++ be4 (appliedWord t a)) t) s

/-- REG_MODIFY: one locked read and write (R65, R365, R369). -/
def execRegModify (r : Req) (addr mask value : Word) (s : State) : Host.Outcome State Fault Refusal :=
  runMem r.c (opRegModify r addr mask value) s

/-- The register opcodes (R65). -/
def parseRegs (r : Req) (op : Nat) (p : List Byte) : Parse :=
  match op with
  | 0x0100 => lenIs 8 p (.regRead r (w4 p 0) (n2 p 4))
  | 0x0101 => lenCount 8 4 1 256 (n2 p 4) p (.regWrite r (w4 p 0) (wordsAt p 8 (n2 p 4)))
  | 0x0102 => lenIs 12 p (.regModify r (w4 p 0) (w4 p 4) (w4 p 8))
  | _ => .unknown

end Sys2Proof.Machine
end

