-- ==== Sys2Proof/Machine/Update.lean ====
section
/-! DEFINITION. Firmware and configuration update (R375 to R392), boot settings (R410), and the start of the supervisor in the ROM
(R359, R385). -/
namespace Sys2Proof.Machine

open Sys2Proof

/-! ## Banks and manifests (R375, R378, R379) -/

def bankBase (b : Nat) : Nat := flashBase + (if b = 0 then 0 else 0x400000)
def activeBank (s : State) : Nat := getF s fUPD_STAT_ACTBANK
def otherBank (b : Nat) : Nat := if b = 0 then 1 else 0

/-- The 608 bytes of a bank's manifest. -/
def manifest (s : State) (b : Nat) : List Byte := memBytes s (bankBase b) 608

/-- A part entry (R379): requirements as pairs of a part and its lowest major version. -/
structure PartEntry where
  id   : Nat
  keep : Bool
  off  : Nat
  len  : Nat
  ver  : Nat
  reqs : List (Nat × Nat)
  sha  : List Byte
  deriving DecidableEq, Repr

def partEntry (man : List Byte) (i : Nat) : PartEntry :=
  let e := sub man (32 + 64 * i) 64
  { id := n1 e 0, keep := (n1 man 16).testBit 0 && (n1 e 1).testBit 0, off := n4 e 4, len := n4 e 8, ver := n4 e 12,
    reqs := (List.range 4).map (fun k => (n1 e (16 + 4 * k), n2 e (18 + 4 * k))), sha := sub e 32 32 }

def parts (man : List Byte) : List PartEntry := (List.range (min 7 (n1 man 7))).map (partEntry man)
def partOf (man : List Byte) (id : Nat) : Option PartEntry := (parts man).find? (fun p => p.id == id)

/-- The longest a part may be (R379). -/
def partMax (id : Nat) : Nat :=
  match id with
  | 1 => 786432
  | 5 => 1048576
  | 6 => 65536
  | 7 => 16384
  | _ => 32768

def imageVersion (man : List Byte) : Nat := n4 man 8
def partVersion (man : List Byte) (id : Nat) : Nat := match partOf man id with
  | some p => p.ver
  | none => 0

/-! ## The checks of R383 -/

/-- MAGIC and FORMAT, of check 1. -/
def magicGood (man : List Byte) : Bool := n4 man 0 == 0x5A555044 && n2 man 4 == 1

/-- Check 2: the MEMBERS bit of code 0x3, and ROM_MIN. -/
def memberGood (s : State) (man : List Byte) : Bool := (n1 man 6).testBit 3 && decide (n4 man 20 ≤ romVersion s)

/-- Check 3: the key (R378). -/
def keyGood (man : List Byte) : Bool :=
  [0, 1].any (fun k => Config.sha256 (sub man 544 64) == Config.keyDigest k && !Config.keyRevoked k)

/-- Check 4: the signature over bytes 0 to 479. -/
def sigGood (man : List Byte) : Bool := Config.ecdsaValid (sub man 544 64) (sub man 480 64) (Config.sha256 (man.take 480))

/-- Check 5: parts 1 to 7 once each, in their lengths, inside TOTAL. -/
def partsGood (man : List Byte) : Bool :=
  (List.range 7).all (fun k => ((parts man).filter (fun p => p.id == k + 1)).length == 1) &&
  (parts man).all (fun p => decide (1 ≤ p.id) && decide (p.id ≤ 7) && decide (p.len ≤ partMax p.id) && decide (0x400 ≤ p.off) &&
    decide (p.off + p.len ≤ n4 man 12))

def partBytes (s : State) (b : Nat) (p : PartEntry) : List Byte := memBytes s (bankBase b + p.off) p.len

/-- Check 6: the SHA-256 of every part as it stands in the bank. -/
def shasGood (s : State) (b : Nat) (man : List Byte) : Bool := (parts man).all (fun p => Config.sha256 (partBytes s b p) == p.sha)

/-- KEEP parts are copied from the active bank (R380). -/
def copyKeeps (b : Nat) (man : List Byte) (s : State) : State :=
  foldState (fun p t =>
    match p.keep, partOf (manifest t (activeBank t)) p.id with
    | true, some a => setMemBytes (bankBase b + p.off) (memBytes t (bankBase (activeBank t) + a.off) p.len) t
    | _, _ => t) (parts man) s

/-- Check 7: every requirement met in the resulting set (R380). -/
def reqsGood (man : List Byte) : Bool :=
  (parts man).all (fun p => p.reqs.all (fun r => r.1 == 0 || (match partOf man r.1 with
    | some q => decide (r.2 ≤ q.ver / 65536)
    | none => false)))

/-- What the checks of R383 give: the bank as they leave it, and the number of the first that failed, 0 for none. -/
structure CheckOut where
  s    : State
  fail : Nat

/-- The checks of R383 over bank `b`; `total`: TOTAL agrees with what was written. -/
def checkBank (b : Nat) (total : Bool) (s : State) : CheckOut :=
  let man := manifest s b
  if !magicGood man || !total then ⟨s, 1⟩
  else if !memberGood s man then ⟨s, 2⟩
  else if !keyGood man then ⟨s, 3⟩
  else if !sigGood man then ⟨s, 4⟩
  else if !partsGood man then ⟨s, 5⟩
  else
    let t := copyKeeps b man s
    if !shasGood t b man then ⟨t, 6⟩
    else if !reqsGood man then ⟨t, 7⟩
    else ⟨t, 0⟩

/-- The check of a bank at a start: a manifest, then checks 4 and 6 (R384 step 2). -/
def bankStarts (s : State) (b : Nat) : Bool :=
  let man := manifest s b
  magicGood man && sigGood man && partsGood man && shasGood s b man

/-! ## Settings (R376, R377, R386) -/

/-- The settings area in use: the shadow while the flag is 2, else the primary (R386). -/
def areaInUse (s : State) : Nat :=
  if getF s fUPD_STAT_HPEND = 2 then otherBank (bootRec s).primary else (bootRec s).primary

/-- The records of an area, held writes among them. -/
def recordsOf (s : State) (area : Nat) : List SetRec :=
  s.pwr.held.foldl (fun l w => match w with
    | .record a r => if (a = 0) = (area = 0) then putRecord r l else l
    | _ => l) (if area = 0 then s.upd.area0 else s.upd.area1)

def recordAt (s : State) (key : Nat) : List Byte :=
  match (recordsOf s (areaInUse s)).find? (fun r => r.key == key) with
  | some r => r.data
  | none => []

/-- An area is emptied, held writes to it included. -/
def emptyArea (area : Nat) (s : State) : State :=
  { s with
    upd := { s.upd with area0 := if area = 0 then [] else s.upd.area0, area1 := if area = 0 then s.upd.area1 else [] },
    pwr := { s.pwr with held := s.pwr.held.filter (fun w => match w with
      | .record a _ => !decide ((a = 0) = (area = 0))
      | _ => true) } }

/-- A firmware record in format `fmt`; `none` when it is below `least` or cannot be converted (R386). -/
def convertRec (fmt least : Nat) (r : SetRec) : Option SetRec :=
  if r.fmt < least then none else (Config.convertRecord r.fmt fmt r.data).map (fun d => { r with fmt := fmt, data := d })

/-- Migration of the settings to the image in the selected bank (R386). -/
def migrate (s : State) : State :=
  let man := manifest s (activeBank s)
  let from_ := (bootRec s).primary
  let to_ := otherBank from_
  let recs := recordsOf s from_
  let hosts := recs.filter (fun r => decide (0x8000 ≤ r.key))
  let firm := recs.filter (fun r => decide (r.key < 0x8000))
  let conv := firm.map (convertRec (n1 man 24) (n1 man 25))
  let ok := conv.all (·.isSome)
  let t := foldState (fun r u => nvsWrite (.record to_ r) u) (hosts ++ if ok then conv.filterMap id else []) (emptyArea to_ s)
  setF fUPD_STAT_MIG (if ok then 2 else 3) t

/-! ## Boot settings (R410) -/

/-- The boot registers in order; those of HOST and ETH stand first. -/
def bootHostEth : List Nat :=
  [rHOST_UDP1, rHOST_UDP2] ++
    [0, 1].flatMap (fun m => [rETH_CTL m, rETH_WM m, rETH_IP m, rETH_NET m, rETH_GW m, rETH_EEE m]) ++ [rETH_PTP]

def bootRegs : List Nat :=
  bootHostEth ++ [rTRUNK_NODE] ++ (List.range 8).map rTL_CTL ++ [rCLK_CTL, rCLK_OUT, rCLK_XO] ++ (List.range 16).map rCLK_CFG ++
    (List.range 16).map rCLK_LIM ++ (List.range 16).map rCLK_WTR ++ [rTWIN_CFG, rKILN_CFG] ++ (List.range 11).map rKILN_CLS

/-- SYS_BOOT_SAVE's records: KEY 0x0100 and up, one for each register. -/
def bootRecords (s : State) : List SetRec :=
  let fmt := n1 (manifest s (activeBank s)) 24
  (bootRegs.zipIdx).map (fun e => { key := 0x100 + e.2, fmt := fmt, data := be4 (appliedWord s e.1) })

/-- One stored value is written back, clamped (R56). -/
def restoreOne (e : Nat × Nat) (s : State) : State :=
  let d := recordAt s (0x100 + e.2)
  if d.isEmpty then s
  else
    let t := busWrite .sup e.1 (num d 0 4) s
    if e.1 = rTWIN_CFG ∧ getF t fTWIN_CFG_ROLE = 1 then { t with twin := { t.twin with rejoin := true } } else t

/-- The supervisor writes the boot settings back; a ROM that runs alone those of HOST and ETH (R410). An image whose migration failed
has no firmware records (R386). -/
def restoreBoot (s : State) : State :=
  if getF s fUPD_STAT_MIG = 3 ∧ getF s fUPD_STAT_HPEND = 2 then s
  else
    foldState restoreOne
      ((bootRegs.zipIdx).filter (fun e => getF s fUPD_STAT_ROMONLY == 0 || bootHostEth.contains e.1)) s

/-! ## The supervisor's start in the ROM (R359, R385 to R388) -/

/-- Is the WRAM as the loader left it, or does it still pass the ROM's check (R359)? -/
def wramIntact (s : State) : Bool :=
  let cells := s.mem.filter (fun e => decide (wramBase ≤ e.1) && decide (e.1 < wramBase + 0x100000))
  cells.isEmpty || Config.overlayIntact cells

/-- The overlay and the helpers' firmware of bank `b` are loaded and run. While audio runs, a change of PRT or GLT holds the gains
(R387), the helpers' heartbeats are suspended and the clock helper restarts (R384 step 3). -/
def loadBank (b : Nat) (live : Bool) (s : State) : State :=
  let man := manifest s b
  let prt := BitVec.ofNat 32 (partVersion man 4)
  let glt := BitVec.ofNat 32 (partVersion man 6)
  let changed := live && (prt != s.upd.prtVer || glt != s.upd.gltVer)
  let t := setF fSYS_REMAP_WRAM 1 (setF fSYS_OVLVER_VERSION (partVersion man 1) (setF fUPD_STAT_ROMONLY 0 (clearMem wramBase 0x100000 s)))
  let u := { t with upd := { t.upd with libVer := BitVec.ofNat 32 (partVersion man 5), prtVer := prt, gltVer := glt,
                                        gHold := t.upd.gHold || changed } }
  let v := if changed then foldState dropWindow (List.range 16) u else u
  if live then { v with pwr := { v.pwr with hlpStop := [0, 1, 2], hbeat := [] }, clk := { v.clk with frozen := true } } else v

/-- The ROM runs alone (R385). -/
def romOnly (s : State) : State :=
  setF fUPD_STAT_ROMONLY 1 (setF fSYS_REMAP_WRAM 0 (setF fSYS_OVLVER_VERSION 0 s))

/-- OVERLAY_BAD from the ROM. -/
def overlayBad (s : State) : State := send 24 0 9 4 0 s

/-- The bank that a fall-back starts: the confirmed one, or the other when that fails; none when both fail (R385, R388). -/
def fallBank (s : State) : Option Nat :=
  let c := (bootRec s).confirmed
  if bankStarts s c then some c else if bankStarts s (otherBank c) then some (otherBank c) else none

/-- A fall-back (R388): the confirmed bank, flag 0, its overlays, the shadow discarded, FIRMWARE FALLBACK. -/
def fallBack (code : Nat) (live : Bool) (s : State) : State :=
  let b := bootRec s
  let t := setF fUPD_STAT_ACTBANK b.confirmed (setF fUPD_STAT_HPEND 0 (setF fUPD_STAT_LASTFB code (setF fUPD_STAT_MIG 0
    (setF fUPD_BOOT_HLEFT 0 s))))
  let u := nvsWrite (.boot { b with pending := false }) (emptyArea (otherBank b.primary) t)
  let v := send 24 0 9 5 0 u
  match fallBank v with
  | some k => loadBank k live (setF fUPD_STAT_ACTBANK k (when_ (k != b.confirmed) overlayBad v))
  | none => romOnly (overlayBad v)

/-- The selected bank is started; when it fails its check, OVERLAY_BAD and a fall-back (R385). -/
def startBank (live : Bool) (s : State) : State :=
  if bankStarts s (activeBank s) then loadBank (activeBank s) live s else fallBack 4 live (overlayBad s)

/-- The flag moves from 1 to 2: the window starts, and migration runs (R384, R386). -/
def enterPending (s : State) : State :=
  migrate (setF fUPD_STAT_HPEND 2 (setF fUPD_BOOT_HLEFT (bootRec s).window { s with upd := { s.upd with hTick := 0 } }))

/-- What the ROM finds of the banks and the settings at every start (R391). -/
def showBanks (s : State) : State :=
  let good (b : Nat) : Bool := (checkBank b true s).fail == 0
  let ver (b : Nat) : Nat := if good b then imageVersion (manifest s b) else 0
  setF fUPD_STAT_INACT (if good (otherBank (activeBank s)) then 3 else 0)
    (setF fUPD_VERA_VERSION (ver 0) (setF fUPD_VERB_VERSION (ver 1) (setF fNVS_STAT_PRIMARY (bootRec s).primary s)))

/-- How the ROM comes to run: after a reset that clears the Keep domain, after another that ends everything, at a Control reset, or
for an activation. -/
inductive Start where
  | cold | warm | control | activation
  deriving DecidableEq, Repr

/-- The ROM acts on the health-pending flag (R359, R385, R388). -/
def romFlag (k : Start) (s : State) : State :=
  let live := k = .control ∨ k = .activation
  match getF s fUPD_STAT_HPEND with
  | 2 => fallBack (if s.upd.fb = 0 then 2 else s.upd.fb) live s
  | 1 =>
    let t := startBank live s
    if getF t fUPD_STAT_HPEND = 1 then enterPending t else t
  | _ =>
    if k = .cold then
      let t := setF fUPD_STAT_ACTBANK (bootRec s).confirmed s
      if (bootRec s).pending then fallBack 3 false t else startBank false t
    else if k = .control then
      if wramIntact s then setF fSYS_REMAP_WRAM (b01 (getF s fSYS_OVLVER_VERSION != 0)) s
      else fallBack 4 true (overlayBad s)
    else startBank live s

/-- A supervisor start. -/
def romStart (k : Start) (s : State) : State :=
  let t := romFlag k (bump fUPD_BOOT_COUNT s)
  let u := showBanks { t with upd := { t.upd with fb := 0 }, pwr := { t.pwr with romDone := true } }
  if k = .cold ∨ k = .warm then
    let v := restoreBoot (send 18 0 0 1 0 u)
    { v with pwr := { v.pwr with sup := true, wdog := 0, hbeat := [] } }
  else u

/-- The start that the state calls for: after a full reset, in a Control reset, or in an activation. -/
def startDue (s : State) : Option Start :=
  if s.kiln.ctlReset then (if s.pwr.romDone then none else some .control)
  else if !s.pwr.sup then some (if getF s fSYS_RSTCAUSE_COLD = 1 then .cold else .warm)
  else if getF s fHOST_STAT_PAUSED = 1 ∧ getF s fUPD_STAT_HPEND = 1 then some .activation
  else none

def supervisorStart (s : State) : State :=
  match startDue s with
  | some k => romStart k s
  | none => s

/-- SUPERVISOR_START (R359, R385). -/
def execSupervisorStart (c : Nat) (s : State) : Host.Outcome State Fault Refusal := runMem c (ifRunning supervisorStart) s

/-! ## Update sessions (R381 to R383, R392) -/

def sessionOf (s : State) (r : Req) (id : Word) : Option Session :=
  match s.upd.session with
  | some x => if x.id = id ∧ x.ch = r.ch.val then some x else none
  | none => none

def wrongSession (r : Req) (id : Word) (s : State) : Guard := deniedIf (sessionOf s r id).isNone 13

/-- Erase the 64 KiB flash sector `k`, counted from the start of the flash. -/
def eraseSector (k : Nat) (s : State) : State := clearMem (flashBase + k * 65536) 65536 s

/-- Session numbers run from 1. -/
def nextSession (n : Nat) : Nat := if n = 0xFFFFFFFF then 1 else n + 1

def openSession (r : Req) (data : Bool) (base len : Nat) (s : State) : State :=
  let x : Session := { id := BitVec.ofNat 32 s.upd.nextId, ch := r.ch.val, data := data, base := base, len := len, written := [], erased := [] }
  setF fUPD_STAT_SESS (if data then 2 else 1) { s with upd := { s.upd with session := some x, nextId := nextSession s.upd.nextId } }

/-- The version of the inactive bank is that of no valid image. -/
def dropVersion (s : State) : State := setF (if activeBank s = 0 then fUPD_VERB_VERSION else fUPD_VERA_VERSION) 0 s

def opUpdOpen (r : Req) (target offset length : Nat) (s : State) : State :=
  let data := decide (1 ≤ target)
  command r 0x0B00 [notNowIf (!data && getF s fUPD_STAT_HPEND != 0) 17, busyIf s.upd.session.isSome]
    (fun s =>
      let id := BitVec.ofNat 32 s.upd.nextId
      let t :=
        if data then
          let o := clampN 0x800000 (s.upd.flashSize - 1) offset / 65536 * 65536
          openSession r true (flashBase + o) (min length (s.upd.flashSize - o)) s
        else
          let b := bankBase (otherBank (activeBank s))
          setF fUPD_STAT_INACT 0 (dropVersion (eraseSector ((b - flashBase) / 65536)
            (openSession r false b (clampN 608 0x400000 length) s)))
      replyOK r 0x0B00 (beWord id) t) s

/-- UPD_OPEN (R381, R390, R392). -/
def execUpdOpen (r : Req) (target offset length : Nat) (s : State) : Host.Outcome State Fault Refusal :=
  runMem r.c (opUpdOpen r target offset length) s

def isUpdWrite : OpKind → Bool
  | .updWrite => true
  | _ => false
def isUpdClose : OpKind → Bool
  | .updClose _ => true
  | _ => false

/-- Do two byte ranges overlap? -/
def rangesMeet (a b : Nat × Nat) : Bool := decide (a.1 < b.1 + b.2) && decide (b.1 < a.1 + a.2)

/-- The sectors, counted from the start of the flash, that a block touches. -/
def sectorsOf (addr n : Nat) : List Nat :=
  (List.range ((addr + n - 1 - flashBase) / 65536 + 1 - (addr - flashBase) / 65536)).map (fun i => (addr - flashBase) / 65536 + i)

/-- A block is programmed; a sector it is first to touch is erased before (R382). -/
def program (x : Session) (offset : Nat) (data : List Byte) (s : State) : State :=
  let new := (sectorsOf (x.base + offset) data.length).filter (fun k => !x.erased.contains k)
  let t := setMemBytes (x.base + offset) data (foldState eraseSector new s)
  let y := { x with written := x.written ++ [(offset, data.length)], erased := x.erased ++ new }
  when_ (!x.data) (setF fUPD_STAT_INACT 1) { t with upd := { t.upd with session := some y } }

def opUpdWrite (r : Req) (session : Word) (offset : Nat) (crc : Word) (data : List Byte) (s : State) : State :=
  let x := sessionOf s r session
  let fits := match x with
    | some y => decide (offset + data.length ≤ y.len)
    | none => true
  let meets := match x with
    | some y => y.written.any (rangesMeet (offset, data.length))
    | none => false
  command r 0x0B01
    [handleLimit r s, wrongSession r session s, ⟨BitVec.ofNat 32 (crc32 data) != crc, stFAILED, 1⟩, ⟨!fits, stFAILED, 2⟩, ⟨meets, stFAILED, 3⟩]
    (fun s =>
      match x with
      | some y => accept r 0x0B01 .updWrite (program y offset data s)
      | none => s) s

/-- UPD_WRITE (R382, R392). -/
def execUpdWrite (r : Req) (session : Word) (offset : Nat) (crc : Word) (data : List Byte) (s : State) : Host.Outcome State Fault Refusal :=
  runMem r.c (opUpdWrite r session offset crc data) s

/-- The oldest block finishes (R392). -/
def updWriteDone (s : State) : State :=
  match s.ops.find? (fun o => isUpdWrite o.kind) with
  | some o => finish o.ch o.h stOK [] s
  | none => s

/-- UPD_WRITE_DONE (R392). -/
def execUpdWriteDone (c : Nat) (s : State) : Host.Outcome State Fault Refusal := run c (ifRunning updWriteDone) s

def opUpdClose (r : Req) (session crc : Word) (s : State) : State :=
  command r 0x0B02 [handleLimit r s, wrongSession r session s, busyIf (s.ops.any (fun o => isUpdClose o.kind))]
    (fun s =>
      let image := match s.upd.session with
        | some x => !x.data
        | none => false
      accept r 0x0B02 (.updClose crc) (when_ image (setF fUPD_STAT_INACT 2) s)) s

/-- UPD_CLOSE (R383, R392). -/
def execUpdClose (r : Req) (session crc : Word) (s : State) : Host.Outcome State Fault Refusal := run r.c (opUpdClose r session crc) s

/-- One past the highest byte written. -/
def writtenTop (x : Session) : Nat := x.written.foldl (fun m e => max m (e.1 + e.2)) 0

/-- The lock is released. -/
def closeSession (s : State) : State := setF fUPD_STAT_SESS 0 { s with upd := { s.upd with session := none } }

/-- Verification ends (R383). -/
def closeDone (o : Op) (crc : Word) (x : Session) (s : State) : State :=
  if x.data then
    let good := BitVec.ofNat 32 (crc32 (memBytes s x.base x.len)) == crc
    finish o.ch o.h (if good then stOK else stFAILED) (if good then [] else [8]) (closeSession s)
  else
    let b := otherBank (activeBank s)
    let k := checkBank b (n4 (manifest s b) 12 == writtenTop x) s
    let t := closeSession k.s
    let ver := imageVersion (manifest t b)
    if k.fail = 0 then
      finish o.ch o.h stOK (be4 ver) (setF fUPD_STAT_INACT 3 (setF (if b = 0 then fUPD_VERA_VERSION else fUPD_VERB_VERSION) ver t))
    else finish o.ch o.h stFAILED [byteOf k.fail] (setF fUPD_STAT_INACT 0 t)

def updCloseDone (s : State) : State :=
  match s.ops.find? (fun o => isUpdClose o.kind), s.upd.session with
  | some o, some x => (match o.kind with
    | .updClose crc => closeDone o crc x s
    | _ => s)
  | _, _ => s

/-- UPD_CLOSE_DONE (R383, R392). -/
def execUpdCloseDone (c : Nat) (s : State) : Host.Outcome State Fault Refusal := runMem c (ifRunning updCloseDone) s

/-- The session ends and its open handles complete ABORTED (R392). -/
def abandonSession (s : State) : State := finishAll (fun k => isUpdWrite k || isUpdClose k) stABORTED [] (endSession s)

def opUpdAbort (r : Req) (session : Word) (s : State) : State :=
  command r 0x0B03 [wrongSession r session s] (fun s => abandonSession (replyOK r 0x0B03 [] s)) s

/-- UPD_ABORT (R392). -/
def execUpdAbort (r : Req) (session : Word) (s : State) : Host.Outcome State Fault Refusal := run r.c (opUpdAbort r session) s

/-- SESSION_TIMEOUT: 60 s without a UPD_WRITE (R381). -/
def execSessionTimeout (c : Nat) (s : State) : Host.Outcome State Fault Refusal :=
  run c (ifRunning fun s => if s.upd.session.isSome then abandonSession s else s) s

/-! ## Activation and confirmation (R384, R388, R390) -/

def isActivate : OpKind → Bool
  | .activate => true
  | _ => false

/-- Is any handle open on any channel, or an output training or under sweep (R390)? -/
def activateBars (s : State) : Bool :=
  [0, 1, 2, 3].any (fun c => decide (0 < openHandles s c)) || (List.range 16).any (fun n => (out_ s n).code.isSome || (prot s n).sweeping) ||
    s.ops.any (fun o => isTrain o.kind)

def opUpdActivate (r : Req) (s : State) : State :=
  let b := otherBank (activeBank s)
  let lib := partVersion (manifest s b) 5
  command r 0x0B04
    [handleLimit r s, deniedIf (!ovenEmpty s && decide (lib < s.oven.libMin.toNat)) 14,
     notNowIf (getF s fUPD_STAT_INACT != 3 || getF s fUPD_STAT_HPEND != 0) 17, notNowIf (activateBars s) 18,
     notNowIf (getF s fPWR_STAT_DAMPER == 1) 15]
    (fun s =>
      let t := setF fUPD_STAT_ACTBANK b (setF fUPD_STAT_HPEND 1 (setF fUPD_BOOT_COUNT 0 (setF fHOST_STAT_PAUSED 1
        (nvsWrite (.boot { bootRec s with pending := true, window := getF s fUPD_CFG_HWIN }) s))))
      accept r 0x0B04 .activate t) s

/-- UPD_ACTIVATE (R384, R390, R392). -/
def execUpdActivate (r : Req) (s : State) : Host.Outcome State Fault Refusal := runMem r.c (opUpdActivate r) s

/-- The pause ends (R384 step 6): the helpers run, and UPD_ACTIVATE completes with the version that runs and MIG. The packets that wait
are taken after this (`UPD_ACTIVATE_DONE`). -/
def endActivation (s : State) : State :=
  let t := supervisorStart s
  let u := trunkHelperRestart { t with clk := { t.clk with frozen := false } }
  finishAll isActivate stOK (be4 (imageVersion (manifest u (activeBank u))) ++ [byteOf (getF u fUPD_STAT_MIG), 0, 0, 0])
    (setF fHOST_STAT_PAUSED 0 u)

def opHealthConfirm (r : Req) (s : State) : State :=
  command r 0x0B05 [deniedIf (getF s fUPD_STAT_MIG == 3) 12, notNowIf (getF s fUPD_STAT_HPEND != 2) 17]
    (fun s =>
      let b := bootRec s
      let new : BootRec := { b with confirmed := activeBank s, pending := false, primary := otherBank b.primary }
      replyOK r 0x0B05 [] (setF fUPD_STAT_HPEND 0 (setF fUPD_BOOT_COUNT 0 (setF fUPD_BOOT_HLEFT 0
        (setF fNVS_STAT_PRIMARY new.primary (nvsWrite (.boot new) s)))))) s

/-- HEALTH_CONFIRM (R388, R392). -/
def execHealthConfirm (r : Req) (s : State) : Host.Outcome State Fault Refusal := runMem r.c (opHealthConfirm r) s

/-- The health window ends unconfirmed: a Control reset, and the ROM falls back (R388). -/
def healthWindowEnd (s : State) : State :=
  if getF s fUPD_STAT_HPEND = 2 then
    startControl { s with upd := { s.upd with fb := if getF s fUPD_STAT_MIG = 3 then 5 else 1 } }
  else s

/-- HEALTH_WINDOW_END (R388). -/
def execHealthWindowEnd (c : Nat) (s : State) : Host.Outcome State Fault Refusal := run c (ifRunning healthWindowEnd) s

/-- HLEFT counts the seconds of the window down, and a hold of the gains ends at the first boundary after the new part is in place
(R387, R391). -/
def updateBoundary (s : State) : State :=
  let t :=
    if getF s fUPD_STAT_HPEND = 2 then
      if 11999 ≤ s.upd.hTick then
        setF fUPD_BOOT_HLEFT (getF s fUPD_BOOT_HLEFT - 1) { s with upd := { s.upd with hTick := 0 } }
      else { s with upd := { s.upd with hTick := s.upd.hTick + 1 } }
    else s
  if t.upd.gHold && getF t fUPD_STAT_HPEND != 1 then
    foldState (fun n u => setOut n { out_ u n with hrFrom := (out_ u n).gHr, hrLeft := 16 } u) (List.range 16)
      { t with upd := { t.upd with gHold := false } }
  else t

/-- The heartbeat timer of a helper stopped for a reload runs again 25 ms after the stop (R360). -/
def heartbeatBoundary (s : State) : State :=
  let n (h : Nat) : Nat := cget (fun _ => 0) s.pwr.hbeat h + 1
  { s with pwr := { s.pwr with wdog := s.pwr.wdog + 1, hbeat := [(0, n 0), (1, n 1), (2, n 2)],
                               hlpStop := s.pwr.hlpStop.filter (fun h => decide (n h < 300)) } }

def opUpdStatus (r : Req) (s : State) : State :=
  command r 0x0B06 []
    (fun s => replyOK r 0x0B06 ([rUPD_STAT, rUPD_VERA, rUPD_VERB, rUPD_BOOT, rNVS_STAT].flatMap (fun a => be4 (peekReg s a))) s) s

/-- UPD_STATUS (R392). -/
def execUpdStatus (r : Req) (s : State) : Host.Outcome State Fault Refusal := run r.c (opUpdStatus r) s

/-! ## Settings commands (R377, R392, R410) -/

def opSetWrite (r : Req) (key : Nat) (data : List Byte) (s : State) : State :=
  command r 0x0B10 [deniedIf (decide (key < 0x8000)) 1, notNowIf (holdFull s (4 + data.length)) 15]
    (fun s => replyOK r 0x0B10 [] (nvsWrite (.record (areaInUse s) { key := key, fmt := 0, data := data }) s)) s

/-- SET_WRITE (R377, R386, R392). -/
def execSetWrite (r : Req) (key : Nat) (data : List Byte) (s : State) : Host.Outcome State Fault Refusal :=
  runMem r.c (opSetWrite r key data) s

def opSetRead (r : Req) (key : Nat) (s : State) : State :=
  command r 0x0B11 []
    (fun s =>
      let d := recordAt s key
      replyOK r 0x0B11 (be2 d.length ++ [0, 0] ++ d) s) s

/-- SET_READ (R377, R392). -/
def execSetRead (r : Req) (key : Nat) (s : State) : Host.Outcome State Fault Refusal := run r.c (opSetRead r key) s

def isBootSave : OpKind → Bool
  | .bootSave => true
  | _ => false

def opSysBootSave (r : Req) (s : State) : State :=
  command r 0x0009
    [handleLimit r s, notNowIf (holdFull s (8 * bootRegs.length)) 15, busyIf (s.ops.any (fun o => isBootSave o.kind))]
    (fun s => accept r 0x0009 .bootSave
      (foldState (fun x t => nvsWrite (.record (areaInUse t) x) t) (bootRecords s) s)) s

/-- SYS_BOOT_SAVE (R410). -/
def execSysBootSave (r : Req) (s : State) : Host.Outcome State Fault Refusal := runMem r.c (opSysBootSave r) s

/-- SYS_BOOT_SAVE_DONE: within 50 ms, or at the end of the Damper state when the writes are held (R410). -/
def execSysBootSaveDone (c : Nat) (s : State) : Host.Outcome State Fault Refusal :=
  run c (ifRunning fun s => if nvsHeld s then s else finishAll isBootSave stOK (be2 bootRegs.length ++ [0, 0]) s) s

/-- The update and settings opcodes (R392, R410). -/
def parseUpd (r : Req) (op : Nat) (p : List Byte) : Parse :=
  match op with
  | 0x0009 => lenIs 0 p (.sysBootSave r)
  | 0x0B00 => lenIs 12 p (.updOpen r (n1 p 0) (n4 p 4) (n4 p 8))
  | 0x0B01 => lenCount 16 1 1 4000 (n2 p 8) p (.updWrite r (w4 p 0) (n4 p 4) (w4 p 12) (p.drop 16))
  | 0x0B02 => lenIs 8 p (.updClose r (w4 p 0) (w4 p 4))
  | 0x0B03 => lenIs 4 p (.updAbort r (w4 p 0))
  | 0x0B04 => lenIs 0 p (.updActivate r)
  | 0x0B05 => lenIs 0 p (.healthConfirm r)
  | 0x0B06 => lenIs 0 p (.updStatus r)
  | 0x0B10 => lenCount 4 1 0 252 (n2 p 2) p (.setWrite r (n2 p 0) (p.drop 4))
  | 0x0B11 => lenIs 4 p (.setRead r (n2 p 0))
  | _ => .unknown

end Sys2Proof.Machine
end

