-- ==== Sys2Proof/Machine/System.lean ====
section
/-! DEFINITION. The system and diagnostic commands (R65): SYS_NOP, SYS_INFO, SYS_ABORT, SYS_COMPL_ACK, SYS_RESULT_READ, and the
DIAG group. -/
namespace Sys2Proof.Machine

open Sys2Proof

def opSysNop (r : Req) (s : State) : State := command r 0x0000 [] (fun s => replyOK r 0x0000 [] s) s

/-- SYS_NOP (R65). -/
def execSysNop (r : Req) (s : State) : Host.Outcome State Fault Refusal := run r.c (opSysNop r) s

def opSysInfo (r : Req) (s : State) : State :=
  command r 0x0001 []
    (fun s => replyOK r 0x0001
      ([rSYS_ID, rSYS_CAPS, rSYS_RSTCAUSE, rSYS_ROMVER, rSYS_OVLVER, rSYS_BATCH].flatMap (fun a => be4 (peekReg s a)) ++
        [byteOf (chan s r.ch).epoch, 0, 0, 0]) s) s

/-- SYS_INFO: no RC field is cleared (R65). -/
def execSysInfo (r : Req) (s : State) : Host.Outcome State Fault Refusal := run r.c (opSysInfo r) s

/-! ## SYS_ABORT (R65, R82, R352) -/

/-- An operation stops and completes ABORTED; a Standby entry or exit, and an activation, run on. -/
def abortOp (o : Op) (s : State) : State :=
  let done (t : State) : State := finish o.ch o.h stABORTED [] t
  match o.kind with
  | .standbyEnter => s
  | .standbyLeave => s
  | .activate => s
  | .commit => abortCommits (fun c => c.ch == o.ch && c.h == o.h) s
  | .bakeLoad _ => done (emptyProof s)
  | .train m => done (foldState endTraining (maskList 16 m) s)
  | .sweep n => stopSweep n s
  | .cal n => stopCal n s
  | .range l => done (setLane l { lane s l with ranging := false } s)
  | .msgSend l q => done (setLane l { lane s l with unacked := (lane s l).unacked.filter (fun m => !(m.seq == q)) } s)
  | .align _ => done (setF fCLK_STAT_ALIGNING 0 s)
  | .join => done (forgetSync s)
  | .switch => done { s with twin := { s.twin with swreq := 0 } }
  | .updClose _ => abandonSession s
  | .updWrite => done s
  | .romCheck => done s
  | .scrub _ _ => done s
  | .bootSave => done s

def opSysAbort (r : Req) (handle : Word) (s : State) : State :=
  command r 0x0004 [deniedIf (!(chan s r.ch).handles.any (fun h => h.h == handle)) 1]
    (fun s =>
      let t := replyOK r 0x0004 [] s
      match t.ops.find? (fun o => o.ch == r.ch.val && o.h == handle) with
      | some o => abortOp o t
      | none => t) s

/-- SYS_ABORT (R65). -/
def execSysAbort (r : Req) (handle : Word) (s : State) : Host.Outcome State Fault Refusal := run r.c (opSysAbort r handle) s

/-! ## Acknowledging and reading results (R42, R52, R54) -/

/-- A completion that waits for its acknowledgement on a UDP channel is acknowledged. -/
def acknowledgeHandle (ch : Nat) (h : Word) (s : State) : State :=
  match (chan s ch).unacked.find? (fun u => u.h == h) with
  | some u => delivered ch h u.seq (setChan ch { chan s ch with unacked := (chan s ch).unacked.filter (fun v => !(v.h == h)) } s)
  | none => s

def opSysComplAck (r : Req) (handles : List Word) (s : State) : State :=
  command r 0x0005 [] (fun s => replyOK r 0x0005 [] (foldState (acknowledgeHandle r.ch) handles s)) s

/-- SYS_COMPL_ACK (R42, R65). -/
def execSysComplAck (r : Req) (handles : List Word) (s : State) : Host.Outcome State Fault Refusal := run r.c (opSysComplAck r handles) s

def opSysResultRead (r : Req) (handle : Word) (offset count : Nat) (s : State) : State :=
  let res := (chan s r.ch).results.find? (fun e => e.h == handle)
  command r 0x0006 [deniedIf res.isNone 2]
    (fun s =>
      let bytes := match res with
        | some e => e.bytes
        | none => []
      let o := min offset bytes.length
      replyOK r 0x0006 (sub bytes o (min (min count 4092) (bytes.length - o))) s) s

/-- SYS_RESULT_READ (R54, R65). -/
def execSysResultRead (r : Req) (handle : Word) (offset count : Nat) (s : State) : Host.Outcome State Fault Refusal :=
  run r.c (opSysResultRead r handle offset count) s

/-! ## Diagnostics (R65) -/

def opDiagEcho (r : Req) (bytes : List Byte) (s : State) : State := command r 0x0C00 [] (fun s => replyOK r 0x0C00 bytes s) s

/-- DIAG_ECHO (R65). -/
def execDiagEcho (r : Req) (bytes : List Byte) (s : State) : Host.Outcome State Fault Refusal := run r.c (opDiagEcho r bytes) s

def opDiagCounters (r : Req) (clear : Nat) (s : State) : State :=
  command r 0x0C01 []
    (fun s =>
      let k := chan s r.ch
      let t := if 1 ≤ clear then setChan r.ch { k with dHcrc := 0, dLen := 0, dDrop := 0, dSync := 0, dFrag := 0, dResend := 0 } s else s
      replyOK r 0x0C01 ([k.dHcrc, k.dLen, k.dDrop, k.dSync, k.dFrag, k.dResend].flatMap be4) t) s

/-- DIAG_COUNTERS (R65). -/
def execDiagCounters (r : Req) (clear : Nat) (s : State) : Host.Outcome State Fault Refusal := run r.c (opDiagCounters r clear) s

def isRomCheck : OpKind → Bool
  | .romCheck => true
  | _ => false

def opDiagRomCheck (r : Req) (s : State) : State :=
  command r 0x0C02 [handleLimit r s, busyIf (s.ops.any (fun o => isRomCheck o.kind))] (fun s => accept r 0x0C02 .romCheck s) s

/-- DIAG_ROM_CHECK (R65). -/
def execDiagRomCheck (r : Req) (s : State) : Host.Outcome State Fault Refusal := run r.c (opDiagRomCheck r) s

/-- The check ends with the CRC-32 it computed; a mismatch sends FIRMWARE ROM_CRC (R65). -/
def romCheckDone (computed : Word) (s : State) : State :=
  if s.ops.any (fun o => isRomCheck o.kind) then
    let good := computed == Config.romCrc
    finishAll isRomCheck (if good then stOK else stFAILED) (beWord computed ++ beWord Config.romCrc) (when_ (!good) (send 24 0 9 3 0) s)
  else s

/-- DIAG_ROM_CHECK_DONE (R65). -/
def execDiagRomCheckDone (c : Nat) (computed : Word) (s : State) : Host.Outcome State Fault Refusal :=
  run c (ifRunning (romCheckDone computed)) s

def isScrubOf (region : Nat) : OpKind → Bool
  | .scrub k _ => k == region
  | _ => false

/-- Does a scrub of a region run and not stand paused? -/
def scrubRuns (region : Nat) : OpKind → Bool
  | .scrub k paused => k == region && !paused
  | _ => false

def opDiagScrub (r : Req) (region0 : Nat) (s : State) : State :=
  let region := clampHi 2 region0
  command r 0x0C03 [handleLimit r s, busyIf (s.ops.any (fun o => isScrubOf region o.kind))]
    (fun s => accept r 0x0C03 (.scrub region (getF s fPWR_STAT_DAMPER == 1)) s) s

/-- DIAG_SCRUB (R65, R348). -/
def execDiagScrub (r : Req) (region : Nat) (s : State) : Host.Outcome State Fault Refusal := run r.c (opDiagScrub r region) s

/-- The source code of a scrub's region (R335). -/
def scrubSource (region : Nat) : Nat := if region = 0 then 22 else if region = 1 then 17 else 23

/-- A scrub ends (R65). -/
def scrubDone (region corrected uncorrectable : Nat) (first : Word) (s : State) : State :=
  if s.ops.any (fun o => scrubRuns region o.kind) then
    let clean := uncorrectable == 0
    let t := if region = 1 then bumpN fNVS_CNT_CORR corrected s else s
    finishAll (scrubRuns region) (if clean then stOK else stFAILED)
      (be4 corrected ++ be4 uncorrectable ++ beWord (if clean then 0xFFFFFFFF else first))
      (when_ (!clean) (send (scrubSource region) 0 1 8 first.toNat) t)
  else s

/-- DIAG_SCRUB_DONE (R65). -/
def execDiagScrubDone (c : Nat) (region corrected uncorrectable : Nat) (first : Word) (s : State) : Host.Outcome State Fault Refusal :=
  run c (ifRunning (scrubDone region corrected uncorrectable first)) s

/-- The system, Standby and diagnostic opcodes (R65, R358). -/
def parseSystem (r : Req) (op : Nat) (p : List Byte) : Parse :=
  match op with
  | 0x0000 => lenIs 0 p (.sysNop r)
  | 0x0001 => lenIs 0 p (.sysInfo r)
  | 0x0002 => lenIs 4 p (.deviceReset r (h2 p 0))
  | 0x0003 => lenIs 0 p (.controlReset r)
  | 0x0004 => lenIs 4 p (.sysAbort r (w4 p 0))
  | 0x0005 => lenCount 4 4 1 16 (n2 p 0) p (.sysComplAck r (wordsAt p 4 (n2 p 0)))
  | 0x0006 => lenIs 12 p (.sysResultRead r (w4 p 0) (n4 p 4) (n2 p 8))
  | 0x0007 => lenIs 4 p (if n1 p 0 = 0 then .standbyEnter r else .standbyLeave r)
  | 0x0008 => lenIs 4 p (.sysDormant r (h2 p 0))
  | 0x0C00 => if p.length ≤ 4092 then .cmd (.diagEcho r p) else .badLength
  | 0x0C01 => lenIs 4 p (.diagCounters r (n1 p 0))
  | 0x0C02 => lenIs 0 p (.diagRomCheck r)
  | 0x0C03 => lenIs 4 p (.diagScrub r (n1 p 0))
  | _ => .unknown

end Sys2Proof.Machine
end

