-- ==== Sys2Proof/Machine/Fabric.lean ====
section
/-! DEFINITION. Transfers on the control fabric (R361 to R371): regions, paths, grants, bursts, locks, errors and their timing. -/
namespace Sys2Proof.Machine

open Sys2Proof

/-- The targets of the matrix (R361). -/
inductive Target where
  | rom | wram | nvs | reg | pwin | qspi | keep
  deriving DecidableEq, Repr

def targetNo : Target → Nat
  | .rom => 0
  | .wram => 1
  | .nvs => 2
  | .reg => 3
  | .pwin => 4
  | .qspi => 5
  | .keep => 6

/-- Where an address decodes: the target, and the address under which the model keeps its byte (R370). -/
def decodeAddr (s : State) (a : Nat) : Option (Target × Nat) :=
  if a ≤ 0xFFFFF then
    (if getF s fSYS_REMAP_WRAM = 1 then some (.wram, wramBase + a)
     else if a ≤ 0x3FFFF then some (.rom, 0x08000000 + a)
     else none)
  else if 0x08000000 ≤ a ∧ a ≤ 0x0803FFFF then some (.rom, a)
  else if wramBase ≤ a ∧ a ≤ 0x100FFFFF then some (.wram, a)
  else if nvsBase ≤ a ∧ a ≤ 0x2007FFFF then some (.nvs, a)
  else if keepBase ≤ a ∧ a ≤ 0x30000FFF then some (.keep, a)
  else if 0x40000000 ≤ a ∧ a ≤ regTop then some (.reg, a)
  else if pantryBase ≤ a ∧ a ≤ 0x63FFFFFF then some (.pwin, a)
  else if flashBase ≤ a ∧ a < flashBase + s.upd.flashSize then some (.qspi, a)
  else none

/-- The slices on a path; none where no path is (R361). -/
def slices (m : Master) (t : Target) : Option Nat :=
  match m, t with
  | .sup, .rom => some 0
  | .sup, .wram => some 0
  | .sup, .reg => some 0
  | .sup, _ => some 1
  | .hdma, .wram => some 0
  | .hdma, .nvs => some 1
  | .hdma, .reg => some 1
  | .hdma, .pwin => some 2
  | .hdma, .qspi => some 1
  | .hdma, _ => none
  | .mir, .wram => some 1
  | .mir, .reg => some 1
  | .mir, _ => none
  | .dbg, _ => some 2
  | .hlp0, t => helperPath t
  | .hlp1, t => helperPath t
  | .hlp2, t => helperPath t
where
  helperPath : Target → Option Nat
    | .wram => some 1
    | .reg => some 1
    | .keep => some 1
    | _ => none

/-- The parts of the Pantry window whose bytes the manual gives no layout (R371): AES67 buffers, oven images and the report. -/
def openPart (a : Nat) : Bool := decide (aesBase ≤ a) && decide (a < proofBase)

/-- May this target be written at this address (R370, R371)? -/
def writable (s : State) (t : Target) (a : Nat) : Bool :=
  match t with
  | .wram => true
  | .keep => true
  | .reg => true
  | .pwin => decide (proofBase ≤ a) && proofState s == proofWRITING
  | _ => false

/-- May a transfer narrower than a word go there (R364)? -/
def narrowOk (t : Target) (a : Nat) : Bool := t == .wram || (t == .keep && decide (a < keepBase + 0x800))

/-- One beat: what it reads, the state after it, whether the default target answered. -/
structure Beat where
  word : Word
  s    : State
  bad  : Bool

/-- Where a beat of `m` goes: none for the default target (R366). -/
def beatTarget (m : Master) (a : Nat) (write : Bool) (size : Nat) (s : State) : Option (Target × Nat) :=
  match decodeAddr s a with
  | none => none
  | some (t, b) =>
    if (slices m t).isNone then none
    else if size < 4 ∧ narrowOk t b = false then none
    else if write ∧ writable s t b = false then none
    else if t = .reg ∧ regDecodes s b = false then none
    else some (t, b)

/-- A beat is performed, or answered by the default target: a read returns 0, a write changes nothing (R366). -/
def doBeat (m : Master) (a : Nat) (write : Bool) (size : Nat) (data : Word) (s : State) : Beat :=
  match beatTarget m a write size s with
  | none => { word := 0, s := decodeError m a write s, bad := true }
  | some (.reg, b) =>
    if write then { word := 0, s := busWrite m b data.toNat s, bad := false }
    else { word := BitVec.ofNat 32 (readWord s b), s := afterRead b s, bad := false }
  | some (_, b) =>
    if write then { word := 0, s := setMemBytes b (leBytes size data.toNat) s, bad := false }
    else if openPart b then { word := freeWord s, s := useFree s, bad := false }
    else { word := BitVec.ofNat 32 (leNat (memBytes s b size)), s := s, bad := false }

/-- The addresses of a burst's beats: rising, or wrapping within its length (R364). -/
def beatAddrs (q : FabReq) (size : Nat) : List Nat :=
  let a := q.addr.toNat / size * size
  (List.range q.beats).map (fun i =>
    if q.wrap then a / 32 * 32 + (a % 32 + 4 * i) % 32 else a + size * i)

/-- Is the burst one that R364 lets be performed? -/
def burstLegal (s : State) (m : Master) (q : FabReq) (size : Nat) : Bool :=
  let a := q.addr.toNat / size * size
  let line := match decodeAddr s a with
    | some (.rom, _) => true
    | some (.wram, _) => true
    | _ => false
  [1, 4, 8, 16].contains q.beats && (q.beats == 1 || size == 4) &&
    (if q.wrap then m == .sup && q.beats == 8 && line && !q.write else decide (a / 1024 = (a + size * (q.beats - 1)) / 1024))

/-- All beats in order. -/
def doBurst (m : Master) (q : FabReq) (size : Nat) (s : State) : List Word × State × Bool :=
  ((beatAddrs q size).zipIdx).foldl (fun acc e =>
    let b := doBeat m e.1 q.write size ((q.data[e.2]?).getD 0) acc.2.1
    (acc.1 ++ [b.word], b.s, acc.2.2 || b.bad)) ([], s, false)

/-- A burst that is not performed: every beat gets the default target's error (R364). -/
def refuseBurst (m : Master) (q : FabReq) (size : Nat) (s : State) : List Word × State × Bool :=
  ((beatAddrs q size).map (fun _ => (0 : Word)), foldState (fun a => decodeError m a q.write) (beatAddrs q size) s, true)

/-- FCLK cycles from the issue to the last beat (R362); `w` is a free value for what the wait for window slots leaves open. -/
def fabCycles (t : Target) (sl beats : Nat) (w : Nat) : Nat :=
  match t with
  | .rom => 2 + sl + 2 + (beats - 1)
  | .wram => 2 + sl + 1 + (beats - 1)
  | .nvs => 2 + sl + 4 + (beats - 1)
  | .reg => 2 + sl + 2 + (beats - 1)
  | .pwin => 2 + sl + (3 + w % 4) + (beats - 1) + w / 4 % (3 * (beats - 1) + 1)
  | .qspi => 2 + sl + 112 + 8 * (beats - 1)
  | .keep => 2 + sl + 6 + 6 * (beats - 1)

/-- The master a port grants among those that request it: round robin from the one after the last granted (R363). -/
def grantOf (s : State) (t : Target) (l : List Master) : Option Master :=
  let last := getT 6 s.granted (targetNo t)
  ([1, 2, 3, 4, 5, 6, 7].map (fun i => (last + i) % 7)).findSome? (fun k => l.find? (fun m => masterCode m == k))

/-- Does another master's lock hold the port (R365)? -/
def lockedOut (s : State) (m : Master) (t : Target) : Bool :=
  match s.lock with
  | some (h, a) => h != m && ((decodeAddr s a).map (·.1)) == some t
  | none => false

/-- The lock after a transfer of `m` (R365, R369): a transfer elsewhere and the write end it; a locked read takes it unless it failed. -/
def nextLock (m : Master) (q : FabReq) (a : Nat) (bad : Bool) (l : Option (Master × Nat)) : Option (Master × Nat) :=
  let kept := match l with
    | some (h, x) => if h = m ∧ (x ≠ a ∨ q.write) then none else some (h, x)
    | none => none
  if q.lock ∧ ¬q.write ∧ bad = false then some (m, a) else if q.lock ∧ bad then (if kept.map (·.1) = some m then none else kept) else kept

/-- FABRIC_TRANSFER (R361 to R371). A transfer whose port another master's lock or a rival's grant holds waits, and one to a
unit in its Unit reset (R367): nothing happens yet. -/
def fabricTransfer (m : Master) (q : FabReq) (s : State) : State :=
  let size := if q.size = 1 ∨ q.size = 2 then q.size else 4
  let a := q.addr.toNat / size * size
  let t := beatTarget m a q.write size s
  let waits : Bool := match t with
    | some (x, b) => lockedOut s m x || grantOf s x (m :: q.rivals) != some m || (x == .reg && s.kiln.resets.any (fun u => u.unit == unitOfAddr b))
    | none => false
  if waits then s
  else
    let legal := burstLegal s m q size
    let o := if legal then doBurst m q size s else refuseBurst m q size s
    let w := (freeWord o.2.1).toNat
    let cyc := match t, legal with
      | some (x, _), true => fabCycles x ((slices m x).getD 0) q.beats w
      | _, _ => w
    let g := match t, legal with
      | some (x, _), true => setT 6 o.2.1.granted (targetNo x) (masterCode m)
      | _, _ => o.2.1.granted
    emit (.fabric o.1 o.2.2 cyc) (useFree { o.2.1 with granted := g, lock := nextLock m q a o.2.2 s.lock })

def execFabricTransfer (c : Nat) (m : Master) (q : FabReq) (s : State) : Host.Outcome State Fault Refusal :=
  runMem c (ifRunning (fabricTransfer m q)) s

end Sys2Proof.Machine
end

