-- ==== Sys2Proof/Machine/Packet.lean ====
section
/-! DEFINITION. A received packet: the checks of R49 in their order, the replay cache (R41), and the command it carries; and the
commands an active forwards over channel 3 (R314, R320). -/
namespace Sys2Proof.Machine

open Sys2Proof

/-- What a host command does; an event row is no packet's command. -/
def doCommand (i : Instr) (s : State) : State :=
  match i with
  | .sysNop r => opSysNop r s
  | .sysInfo r => opSysInfo r s
  | .deviceReset r confirm => opDeviceReset r confirm s
  | .controlReset r => opControlReset r s
  | .sysAbort r handle => opSysAbort r handle s
  | .sysComplAck r handles => opSysComplAck r handles s
  | .sysResultRead r handle offset count => opSysResultRead r handle offset count s
  | .regRead r addr count => opRegRead r addr count s
  | .regWrite r addr words => opRegWrite r addr words s
  | .regModify r addr mask value => opRegModify r addr mask value s
  | .diagEcho r bytes => opDiagEcho r bytes s
  | .diagCounters r clear => opDiagCounters r clear s
  | .diagRomCheck r => opDiagRomCheck r s
  | .diagScrub r region => opDiagScrub r region s
  | .bakeBegin r total => opBakeBegin r total s
  | .bakeWrite r offset crc data => opBakeWrite r offset crc data s
  | .bakeEnd r => opBakeEnd r s
  | .bakeLoadFlash r offset => opBakeLoadFlash r offset s
  | .bakeCommit r mask target => opBakeCommit r mask target s
  | .bakeStatus r => opBakeStatus r s
  | .bakeReport r index count => opBakeReport r index count s
  | .paramWrite r entries => opParamWrite r entries s
  | .paramRead r id => opParamRead r id s
  | .bundleWrite r id sections ramp coeffs => opBundleWrite r id sections ramp coeffs s
  | .xpSet r entries => opXpSet r entries s
  | .xpRead r src dst => opXpRead r src dst s
  | .routeSet r dst ramp entries => opRouteSet r dst ramp entries s
  | .routeLatency r src dst => opRouteLatency r src dst s
  | .delaySet r entries => opDelaySet r entries s
  | .delayRead r line => opDelayRead r line s
  | .dynSet r inst mask f => opDynSet r inst mask f s
  | .dynRead r inst => opDynRead r inst s
  | .portStart r port ramp => opGate r port 0 ramp 0 s
  | .portStop r port ramp => opGate r port 1 ramp 0 s
  | .portMute r port ramp mask => opGate r port 2 ramp mask.toNat s
  | .portUnmute r port ramp mask => opGate r port 3 ramp mask.toNat s
  | .portStatus r port clear => opPortStatus r port clear s
  | .asrcRead r first count => opAsrcRead r first count s
  | .bundleStatus r bundle => opBundleStatus r bundle s
  | .stageTrain r mask => opStageTrain r mask s
  | .stageRunRun r mask => opStageRun r mask 0 s
  | .stageRunArm r mask => opStageRun r mask 1 s
  | .stageRunOff r mask => opStageRun r mask 2 s
  | .stageRunClearLatch r mask => opStageRun r mask 3 s
  | .stageSet r out mask words => opStageSet r out mask words s
  | .stageStatus r out clear => opStageStatus r out clear s
  | .stageSense r out => opStageSense r out s
  | .protSet r out mask words => opProtSet r out mask words s
  | .protStatus r out clear => opProtStatus r out clear s
  | .protSweep r out => opProtSweep r out s
  | .protCal r out tcal => opProtCal r out tcal s
  | .trunkEnable r mask => opTrunkEnable r mask 0 s
  | .trunkDisable r mask => opTrunkEnable r mask 1 s
  | .trunkRestart r mask => opTrunkEnable r mask 2 s
  | .trunkSet r lane mask word => opTrunkSet r lane mask word s
  | .trunkStatus r lane clear => opTrunkStatus r lane clear s
  | .trunkRange r lane => opTrunkRange r lane s
  | .trunkMsgSend r lane bytes => opTrunkMsgSend r lane bytes s
  | .trunkMsgRead r => opTrunkMsgRead r s
  | .trunkClaimClr r mask => opTrunkClaimClr r mask s
  | .aesStreamSet r owner f => opAesStreamSet r owner f s
  | .aesStreamStatus r owner => opAesStreamStatus r owner s
  | .ethStatus r mac clear => opEthStatus r mac clear s
  | .clkTableSet r entry mask words => opClkTableSet r entry mask words s
  | .clkSelect r selmode manual loop alslew holdtau => opClkSelect r selmode manual loop alslew holdtau s
  | .clkStatus r clear => opClkStatus r clear s
  | .clkAlign r => opClkAlign r s
  | .clkSteer r freq => opClkSteer r freq s
  | .clkOutSet r word => opClkOutSet r word s
  | .twinConfig r word mask => opTwinConfig r word mask s
  | .twinJoin r => opTwinJoin r s
  | .twinSwitch r force => opTwinSwitch r force s
  | .twinStatus r clear => opTwinStatus r clear s
  | .kilnRead r count => opKilnRead r count s
  | .kilnAck r mask => opKilnAck r mask s
  | .kilnClear r mask => opKilnClear r mask s
  | .kilnInject r src inst cls kind context dry => opKilnInject r src inst cls kind context dry s
  | .kilnLevelSet r cls kind level => opKilnLevelSet r cls kind level s
  | .kilnStatus r => opKilnStatus r s
  | .standbyEnter r => opStandbyEnter r s
  | .standbyLeave r => opStandbyLeave r s
  | .sysDormant r confirm => opSysDormant r confirm s
  | .updOpen r target offset length => opUpdOpen r target offset length s
  | .updWrite r session offset crc data => opUpdWrite r session offset crc data s
  | .updClose r session crc => opUpdClose r session crc s
  | .updAbort r session => opUpdAbort r session s
  | .updActivate r => opUpdActivate r s
  | .healthConfirm r => opHealthConfirm r s
  | .updStatus r => opUpdStatus r s
  | .setWrite r key data => opSetWrite r key data s
  | .setRead r key => opSetRead r key s
  | .sysBootSave r => opSysBootSave r s
  | _ => s

/-- The first parser that knows an opcode. -/
def firstKnown : List Parse → Parse
  | [] => .unknown
  | .unknown :: t => firstKnown t
  | x :: _ => x

/-- Checks 5 and 7: every opcode of the engine. -/
def parseAll (r : Req) (op : Nat) (p : List Byte) : Parse :=
  firstKnown [parseSystem r op p, parseRegs r op p, parseBake r op p, parseMix r op p, parsePort r op p, parseStage r op p, parseProt r op p,
    parseTrunk r op p, parseEth r op p, parseClock r op p, parseTwin r op p, parseKiln r op p, parseUpd r op p]

/-! ## Counters (R64, R65) -/

def up32 (n : Nat) : Nat := (n + 1) % 2 ^ 32

def countHcrc (ch : Nat) (s : State) : State :=
  if ch = 3 then s else bump (fHOST_ERR_HCRC ch) (setChan ch { chan s ch with dHcrc := up32 (chan s ch).dHcrc } s)
def countLen (ch : Nat) (s : State) : State :=
  if ch = 3 then s else bump (fHOST_ERR_LEN ch) (setChan ch { chan s ch with dLen := up32 (chan s ch).dLen } s)
def countDrop (ch : Nat) (s : State) : State :=
  if ch = 3 then s else bump (fHOST_ERR_DROP ch) (setChan ch { chan s ch with dDrop := up32 (chan s ch).dDrop } s)
def countSync (ch : Nat) (s : State) : State :=
  if ch = 3 then s else bump (fHOST_ERR_SYNC ch) (setChan ch { chan s ch with dSync := up32 (chan s ch).dSync } s)
def countFrag (ch : Nat) (s : State) : State := setChan ch { chan s ch with dFrag := up32 (chan s ch).dFrag } s

/-! ## The checks (R49) -/

/-- A stored reply for a retried packet (R41). DESIGN CHOICE (log entry 96): where two stored entries have the same TAG and retry key, the
oldest answers. -/
def replayHit (r : Req) (b : List Byte) (s : State) : Option (List Byte) :=
  if (r.ch = 1 ∨ r.ch = 2) ∧ (n1 b 8).testBit 3 then
    ((chan s r.ch).replay.find? (fun e => e.tag == r.tag && e.key == r.key)).map (·.bytes)
  else none

/-- Does the channel require a payload CRC (R64)? -/
def pcrcRequired (s : State) (ch : Nat) : Bool :=
  (ch == 1 && getF s fHOST_UDP1_PCRC_REQ == 1) || (ch == 2 && getF s fHOST_UDP2_PCRC_REQ == 1)

/-- Check 6: is the payload CRC wrong, or missing where it is required? -/
def badPayload (s : State) (r : Req) (b : List Byte) (len : Nat) : Bool :=
  if r.pcrc then n4 b (16 + len) != crc32 (sub b 16 len) else pcrcRequired s r.ch

/-- Checks 3 to 7, then the command. -/
def packetBody (r : Req) (b : List Byte) (s : State) : State :=
  let len := n2 b 6
  if 4096 < len ∨ b.length ≠ 16 + len + (if r.pcrc then 4 else 0) then headReply r b stBADLENGTH 1 true (countLen r.ch s)
  else if n1 b 9 ≠ r.ch.val then headReply r b stDENIED 4 true s
  else if n1 b 8 % 4 ≠ 0 then headReply r b stDENIED 5 true s
  else
    match parseAll r (n2 b 2) (sub b 16 len) with
    | .unknown => headReply r b stBADOPCODE 0 true s
    | .badLength =>
      if badPayload s r b len then headReply r b stBADCRC 2 true s else headReply r b stBADLENGTH 2 true (countLen r.ch s)
    | .cmd i => if badPayload s r b len then headReply r b stBADCRC 2 true s else doCommand i s

/-- A packet that a channel has received (R49). -/
def packet (c : Nat) (ch : Fin 4) (target : Option Word) (b : List Byte) (s : State) : State :=
  let r := reqOf c ch target b
  if n2 b 0 ≠ 0xA5C3 ∨ b.length < 2 then countSync ch s
  else if !headGood b then headReply r b stBADCRC 1 false (countHcrc ch s)
  else
    match replayHit r b s with
    | some bytes => sendUdp ch 4 bytes s
    | none => packetBody r b s

/-! ## Forwarded commands (R314, R320) -/

/-- An active that is asked to join names the target boundary of the standby's full commit (R320). -/
def answerJoin (s : State) : State :=
  sendCh3 (batch s + 2) 0x0204 (be4 (trayMask s.oven) ++ beWord (batch s + 2)) s

/-- Has the latch point of the boundary `target` passed at cycle `c` (R18)? -/
def tooLate (s : State) (c : Nat) (target : Word) : Bool :=
  match serialAhead target (batch s) with
  | some d => decide (d < if c < 101376 then 1 else 2)
  | none => true

/-- A command over channel 3: a standby applies it at its target boundary; one that comes too late, or that the engine cannot take,
ends READY (R314). -/
def forwarded (c : Nat) (target : Word) (b : List Byte) (s : State) : State :=
  let op := n2 b 2
  if role s = tACTIVE then (if op = 0x0901 then answerJoin s else s)
  else if role s ≠ tSTANDBY then s
  else if s.twin.join = 2 then (if op = 0x0204 then joinTarget target s else s)
  else if sync s = 0 then s
  else if tooLate s c target || !commandsLive s then loseSync 2 true s
  else packet c 3 (some target) b s

/-- FORWARDED_COMMAND (R314). -/
def execForwardedCommand (c : Nat) (target : Word) (bytes : List Byte) (s : State) : Host.Outcome State Fault Refusal :=
  runMem c (ifRunning (forwarded c target bytes)) s

end Sys2Proof.Machine
end

