-- ==== Sys2Proof/Machine/Transport.lean ====
section
/-! DEFINITION. The transports of the command channels: the QSPI target (R34 to R38), UDP datagrams (R39 to R42), the input buffers
during a Control reset or a pause (R61, R62), and the events that end those. -/
namespace Sys2Proof.Machine

open Sys2Proof

/-! ## QSPI (R34 to R38) -/

/-- RDY_IN: a PUT is accepted now (R36, R61, R62, R397). -/
def rdyIn (s : State) : Bool :=
  commandsLive s && !s.kiln.ctlReset && decide (((chan s 0).out.filter (·.reply)).length < 16) && decide ((chan s 0).inBuf.length < 4)

/-- The status byte (R35). -/
def statusByte (s : State) : Byte :=
  byteOf (b01 (rdyIn s) + 2 * b01 (!(chan s 0).out.isEmpty) + 4 * getF s fHOST_STAT_PAUSED + 16 * ((chan s 0).epoch % 16))

/-- READ_STATUS (R35). -/
def execReadStatus (c : Nat) (s : State) : Host.Outcome State Fault Refusal :=
  run c (ifRunning fun s => emit (.qspi [statusByte s]) s) s

/-- PUT: one packet, or ignored and counted in DROP while RDY_IN is 0 (R36). -/
def put (c : Nat) (bytes : List Byte) (s : State) : State :=
  if rdyIn s then packet c 0 none bytes s else countDrop 0 s

def execPut (c : Nat) (bytes : List Byte) (s : State) : Host.Outcome State Fault Refusal := runMem c (ifRunning (put c bytes)) s

/-- GET: the head item, which leaves once every byte of it has been clocked out: 8 dummy clocks, then two for each byte (R34, R35, R37).
A completion that leaves closes its handle (R52). -/
def get (clocks : Nat) (s : State) : State :=
  let n := (clocks - 8) / 2
  match (chan s 0).out with
  | [] => emit (.qspi (zeros n)) s
  | it :: rest =>
    let t := emit (.qspi (it.bytes.take n)) s
    if n < it.bytes.length then t
    else
      let u := setChan 0 { chan t 0 with out := rest } t
      match it.handle with
      | some h => delivered 0 h (n2 it.bytes 22) u
      | none => u

def execGet (c : Nat) (clocks : Nat) (s : State) : Host.Outcome State Fault Refusal := run c (ifRunning (get clocks)) s

/-- QSPI_BAD_INSTRUCTION: any other instruction byte is counted in SYNC (R35). -/
def badInstruction (i : Byte) (s : State) : State := if i = 0x05 ∨ i = 0x32 ∨ i = 0x6B then s else countSync 0 s

def execQspiBadInstruction (c : Nat) (instr : Byte) (s : State) : Host.Outcome State Fault Refusal :=
  run c (ifRunning (badInstruction instr)) s

/-! ## UDP (R39, R40, R61, R62) -/

/-- Does the engine keep what arrives for later: during a Control reset or a pause (R61, R62)? -/
def buffering (s : State) : Bool := s.kiln.ctlReset || getF s fHOST_STAT_PAUSED == 1

/-- The source of a packet whose header CRC passes becomes the channel's peer (R40). -/
def notePeer (ch : Nat) (d : Datagram) (s : State) : State :=
  if n2 d.bytes 0 = 0xA5C3 ∧ 16 ≤ d.bytes.length ∧ n2 d.bytes 14 = crc16 (d.bytes.take 14) then
    setChan ch { chan s ch with peer := some d.src } s
  else s

/-- A datagram waits in its channel's input buffer of 64 KiB, or is dropped and counted (R61, R62). -/
def bufferIn (ch : Nat) (b : List Byte) (s : State) : State :=
  if 65536 < ((chan s ch).inBuf.map (·.length)).sum + b.length then countDrop ch s
  else setChan ch { chan s ch with inBuf := (chan s ch).inBuf ++ [b] } s

/-- The channel of a number that `udpChan` gives. -/
def chanFin (n : Nat) : Fin 4 := if n = 1 then 1 else 2

/-- A datagram to a command port (R39). -/
def datagram (c : Nat) (d : Datagram) (s : State) : State :=
  match udpChan s d.mac d.port.toNat with
  | none => s
  | some ch =>
    let t := takeFrames d.mac d.port.toNat (max 1 d.frags) s
    if 4 < d.frags ∨ 4160 < d.bytes.length then countFrag ch t
    else if n2 d.bytes 0 ≠ 0xA5C3 ∨ d.bytes.length < 2 then countSync ch t
    else
      let u := notePeer ch d t
      if buffering u then bufferIn ch d.bytes u
      else if commandsLive u then packet c (chanFin ch) none d.bytes u
      else u

/-- UDP_DATAGRAM (R39 to R41). -/
def execUdpDatagram (c : Nat) (d : Datagram) (s : State) : Host.Outcome State Fault Refusal := runMem c (ifRunning (datagram c d)) s

/-- FRAG_TIMEOUT: a datagram not complete within 10 ms is discarded and counted (R39). -/
def fragTimeout (n port : Nat) (s : State) : State :=
  match udpChan s n port with
  | some ch => countFrag ch (takeFrames n port 4 s)
  | none => s

def execFragTimeout (c : Nat) (n : Nat) (port : Half) (s : State) : Host.Outcome State Fault Refusal :=
  run c (ifRunning (fragTimeout n port.toNat)) s

/-- COMPLETION_RESEND: a completion not acknowledged is sent again unchanged, on transmit queue 1 (R264); the interval doubles up to
1.28 s (R42). -/
def resendCompletion (ch : Nat) (seq : Nat) (s : State) : State :=
  let k := chan s ch
  match k.unacked.find? (fun u => u.seq == seq) with
  | none => s
  | some u =>
    sendUdp ch 1 u.bytes
      (setChan ch { k with dResend := up32 k.dResend,
                           unacked := k.unacked.map (fun v => if v.seq = seq then { v with wait := min 1280 (2 * v.wait) } else v) } s)

def execCompletionResend (c : Nat) (ch : Nat) (seq : Half) (s : State) : Host.Outcome State Fault Refusal :=
  run c (ifRunning (resendCompletion ch seq.toNat)) s

/-! ## What the buffers hold is taken (R61, R62) -/

/-- Take up to `n` buffered packets of a channel in order, while commands are processed. -/
def drain (c : Nat) (ch : Fin 4) : Nat → State → State
  | 0, s => s
  | n + 1, s =>
    match (chan s ch).inBuf with
    | [] => s
    | b :: rest =>
      if commandsLive s && !buffering s then drain c ch n (packet c ch none b (setChan ch { chan s ch with inBuf := rest } s)) else s

def drainAll (c : Nat) (s : State) : State :=
  let one (ch : Fin 4) (t : State) : State := drain c ch (chan t ch).inBuf.length t
  one 2 (one 1 (one 0 s))

/-- CONTROL_RESET_END: the supervisor runs again (R59 to R61, R347, R359). -/
def controlResetEnd (c : Nat) (s : State) : State :=
  if s.kiln.ctlReset then drainAll c (endControl (supervisorStart s)) else s

def execControlResetEnd (c : Nat) (s : State) : Host.Outcome State Fault Refusal := runMem c (ifRunning (controlResetEnd c)) s

/-- UPD_ACTIVATE_DONE: the pause ends (R62, R384). -/
def activateDone (c : Nat) (s : State) : State :=
  if s.ops.any (fun o => isActivate o.kind) then drainAll c (endActivation s) else s

def execUpdActivateDone (c : Nat) (s : State) : Host.Outcome State Fault Refusal := runMem c (ifRunning (activateDone c)) s

end Sys2Proof.Machine
end

