-- ==== Sys2Proof/Machine/Boundary.lean ====
section
/-! DEFINITION. The batch boundary (R17 to R20): the work of the batch that ends, the actions of R19 in their order, and the start of
the batch that begins. -/
namespace Sys2Proof.Machine

open Sys2Proof

/-! ## The batch that ends -/

/-- Every parameter's ramp has made the samples of the batch (R85). -/
def advanceParams (s : State) : State :=
  { s with params := s.params.filterMap fun e =>
      match e.2 with
      | some p => some (e.1, some { ramp := rampAdvance 8 p.ramp })
      | none => none }

/-- A bundle at the end of a batch: its crossfade has made 8 more samples, and a held write becomes due when it has ended (R86). -/
def advanceBundle (b : BundleSt) : BundleSt :=
  let x := if b.next.isSome then (if b.len ≤ b.pos + 8 then endBundleFade b else { b with pos := b.pos + 8 }) else b
  match x.next, x.held with
  | none, some (l, ws) => { x with next := some ws, len := l, pos := 0, held := none }
  | _, _ => x

def advanceBundles (s : State) : State :=
  let t := foldState (fun e u =>
    match e.2, bundleDef u.oven e.1 with
    | some b, some (_, d) => if b.next.isSome ∧ b.len ≤ b.pos + 8 then dropOldSet d b u else u
    | _, _ => u) s.bundles s
  { t with bundles := t.bundles.filterMap fun e =>
      match e.2 with
      | some b => some (e.1, some (advanceBundle b))
      | none => none }

/-- The words of every slot as the batch leaves them: streaming outputs play them on in the batch that begins (R30). -/
def keepOutputs (s : State) : State :=
  { s with outBuf := ((s.slots.map (fun e => e.1 / 8)).eraseDups).map (fun a => (a, (List.range 8).map (slotWord s a))) }

/-- Everything of the batch that ends: fixed units, output pipelines and modulator lanes; then outputs take its words, and inputs
bring theirs for the batch that begins ("the input collected during one batch is processed during the next"); and the ramps. -/
def endBatch (s : State) : State :=
  let a0 := runFixedTo 102399 s
  let a := foldState laneBoundary (List.range 8) (runPipes 16 (if clocksRun a0 then foldState deadlineCheck (List.range 128) a0 else a0))
  let b := keepOutputs (aesOutputs (ptpRclk a) (foldState asrcOutputs (List.range 8) a))
  let c := followStreams <| aesBoundary (ptpRclk b) (playBundles (deliverInputs (foldState portBoundary (List.range 8) b)))
  if clocksRun c then advanceBundles (advanceParams (advanceDelays (advanceDyns (advanceXps (advanceFades c))))) else c

/-! ## The writes latched for this boundary (R18, R20, R82) -/

/-- A latched write takes effect. -/
def applyStaged (w : StagedWrite) (s : State) : State :=
  match w with
  | .param id ramp v => applyParam id ramp v s
  | .bundle id ramp ws => applyBundle id ramp ws s
  | .xp src dst g ramp => applyXp src dst g ramp s
  | .route dst ramp es => applyRoute dst ramp es s
  | .delay line ramp d => applyDelay line ramp d s
  | .dyn inst mask v => applyDyn inst mask v s
  | .gate p action ramp mask => applyGate p action ramp mask s
  | .run n action => applyRun n action s
  | .stage n mask ws => latchStage n mask ws s
  | .prot n mask ws => latchProt n mask ws s
  | .aes owner f => applyAes owner f s
  | .train mask => applyTrain mask s
  | .sweep n => applySweep n s
  | .cal n tcal => applyCal n tcal s

/-- The place of a write in R19: parameter tables, crosspoints, dynamics and delay settings before port requests; outputs and streams
after them. -/
def stagedOrder : StagedWrite → Nat
  | .param _ _ _ => 0
  | .bundle _ _ _ => 0
  | .xp _ _ _ _ => 1
  | .route _ _ _ => 1
  | .delay _ _ _ => 2
  | .dyn _ _ _ => 2
  | .gate _ _ _ _ => 3
  | .run _ _ => 4
  | .stage _ _ _ => 4
  | .prot _ _ _ => 4
  | .aes _ _ => 4
  | .train _ => 4
  | .sweep _ => 4
  | .cal _ _ => 4

/-- What several writes of one boundary address, as far as the last one alone takes effect (R20); `none` where they add up. -/
def stagedPlace : StagedWrite → Option (Nat × Nat)
  | .param id _ _ => some (0, id)
  | .bundle id _ _ => some (1, id)
  | .delay line _ _ => some (2, line)
  | _ => none

/-- The channels of a port that a gate request names: all of them for a start and a stop. -/
def gateNames : StagedWrite → Nat → Nat
  | .gate p _ _ mask, n => if p = n then mask else 0
  | _, _ => 0

/-- A gate request as far as later ones of the same boundary leave it (R167): for the channels that none of them names; a start or a stop not at
all when another follows. -/
def restGate (w : StagedWrite) (later : List StagedWrite) : Option StagedWrite :=
  match w with
  | .gate p a ramp mask =>
    let again := later.any (fun v => match v with
      | .gate p2 a2 _ _ => p2 == p && decide (a2 ≤ 1)
      | _ => false)
    let left := maskAndNot mask (later.foldl (fun m v => m ||| gateNames v p) 0)
    if a ≤ 1 then (if again then none else some (.gate p a ramp left)) else if left = 0 then none else some (.gate p a ramp left)
  | _ => some w

/-- Only the last write latched to a place takes effect (R20). -/
def lastOnly : List StagedWrite → List StagedWrite
  | [] => []
  | w :: t => if (stagedPlace w).isSome && t.any (fun v => stagedPlace v == stagedPlace w) then lastOnly t else (restGate w t).toList ++ lastOnly t

/-- Has a write's boundary come? -/
def stagedDue (s : State) (x : Staged) : Bool := (serialAhead (batch s) x.due).isSome

/-- A crosspoint whose gain is 0 and whose last target latched is 0 does not exist (R136, R137). -/
def dropEmptyXps (s : State) : State :=
  { s with xps := s.xps.filter fun e =>
      match e.2 with
      | some r => !(fpIsZero r.target && fpIsZero (rampNow r))
      | none => false }

/-- Orders 4 to 6 of R19, and the latched settings of the other units. -/
def latchStaged (s : State) : State :=
  let now := lastOnly ((s.staged.filter (stagedDue s)).map (·.w))
  let t := { s with staged := s.staged.filter (fun x => !stagedDue s x) }
  let step (k : Nat) (u : State) : State := foldState applyStaged (now.filter (fun w => stagedOrder w == k)) u
  refreshMix (step 4 (step 3 (step 2 (dropEmptyXps (step 1 (placeBundles (driveParams 0 (step 0 t))))))))

/-! ## The boundary (R19) -/

/-- Order 1: the standby checks the batch, the active closes it (R315, R317). -/
def closeMirror (s : State) : State := if hasTwin s then twinBoundary (sendTwins (recordUnits s)) else s

/-- The batch index counts on (R17), and with it the boundary's second counter (R297); a joining standby takes the active's. -/
def countBatch (s : State) : State :=
  takePhase (clockBoundary (setF fSYS_BATCH_INDEX (batch s + 1).toNat s))

/-- Order 2: commits (those pending when Standby is entered have been aborted before, R352), then the mutes that begin or end here. -/
def commitOrder (s : State) : State := showFades <| moveMutes (if joinCommits s then joinCommit s else stepCommits s)

/-- Order 3: staged lengths in every core (R118). -/
def lengthOrder (s : State) : State := foldState reduceLengths (List.range 128) s

/-- The fade of TDM and trunk outputs (R342, R352): 8 samples done; after the safe state it rises over 64. -/
def stepTxFade (s : State) : State :=
  let r := rampAdvance 8 s.pwr.txFade
  let q : Ramp :=
    if getF s fKILN_STAT_SAFE = 1 then steady fpZero
    else if s.pwr.standby = .awake ∧ r.target = fpZero ∧ r.len = 0 then { start := fpZero, target := fpOne, len := 64, pos := 0 }
    else r
  { s with pwr := { s.pwr with txFade := q } }

/-- A retry whose precharge check has passed runs again at this boundary (R222). -/
def retryRun (n : Nat) (s : State) : State :=
  if outState s n = oPRECHARGE ∧ (prot s n).retrying ∧ (out_ s n).step = 8 then enterRun n s else s

/-- The batch that begins: nothing of it has run; stores of the last cycles are still to be seen (R98). -/
def beginBatch (s0 : State) : State :=
  let s := advancePtp s0
  { s with fixedAt := 0, pipeAt := 0, fresh := [], stores := s.stores.map (fun x => { x with seen := x.seen - 102400 }), kiln := { s.kiln with mixSent := false, decodeSent := 0 } }

/-- Outputs and their protection at a boundary (R209, R210, R213, R217, R222), in Standby too. -/
def outputsBoundary (s : State) : State :=
  if hasMod s then foldState (fun n t => protBoundary n (restPilot n (barSource n t))) (List.range 16)
    (foldState (fun n t => retryRun n (retryWaits n t)) (List.range 16) s)
  else s

/-- Order 7: the batch tick, while the clocks run. -/
def tickOrder (s : State) : State := if clocksRun s then tickCores s else s

def batchBoundary (s0 : State) : State :=
  let s1 := closeMirror (endBatch s0)
  let s2 := stepTxFade (standbyBoundary (countBatch s1))
  let s3 := lengthOrder (commitOrder s2)
  let s4 := outputsBoundary (latchStaged s3)
  let s5 := beginBatch s4
  let s6 := sendTrunks (trunkDeliver (batch s5) s5)
  heartbeatBoundary (updateBoundary (tickOrder s6))

/-- BATCH_BOUNDARY (R17 to R20). -/
def execBatchBoundary (s : State) : Host.Outcome State Fault Refusal := runMem 0 (ifRunning batchBoundary) s

end Sys2Proof.Machine
end

