-- ==== Sys2Proof/Machine/Dispatch.lean ====
section
/-! DEFINITION. The effect of each command on the machine: one arm for each row of the opcode table, each a call of its meaning. -/
namespace Sys2Proof.Machine

open Sys2Proof

def exec (i : Instr) (s : State) : Host.Outcome State Fault Refusal :=
  match i with
  | .readStatus c => Sys2Proof.Machine.execReadStatus c s
  | .put c bytes => Sys2Proof.Machine.execPut c bytes s
  | .get c clocks => Sys2Proof.Machine.execGet c clocks s
  | .qspiBadInstruction c instr => Sys2Proof.Machine.execQspiBadInstruction c instr s
  | .udpDatagram c d => Sys2Proof.Machine.execUdpDatagram c d s
  | .fragTimeout c mac port => Sys2Proof.Machine.execFragTimeout c mac port s
  | .completionResend c ch seq => Sys2Proof.Machine.execCompletionResend c ch seq s
  | .sysNop r => Sys2Proof.Machine.execSysNop r s
  | .sysInfo r => Sys2Proof.Machine.execSysInfo r s
  | .deviceReset r confirm => Sys2Proof.Machine.execDeviceReset r confirm s
  | .controlReset r => Sys2Proof.Machine.execControlReset r s
  | .sysAbort r handle => Sys2Proof.Machine.execSysAbort r handle s
  | .sysComplAck r handles => Sys2Proof.Machine.execSysComplAck r handles s
  | .sysResultRead r handle offset count => Sys2Proof.Machine.execSysResultRead r handle offset count s
  | .regRead r addr count => Sys2Proof.Machine.execRegRead r addr count s
  | .regWrite r addr words => Sys2Proof.Machine.execRegWrite r addr words s
  | .regModify r addr mask value => Sys2Proof.Machine.execRegModify r addr mask value s
  | .registerWrite c m addr value => Sys2Proof.Machine.execRegisterWrite c m addr value s
  | .diagEcho r bytes => Sys2Proof.Machine.execDiagEcho r bytes s
  | .diagCounters r clear => Sys2Proof.Machine.execDiagCounters r clear s
  | .diagRomCheck r => Sys2Proof.Machine.execDiagRomCheck r s
  | .diagRomCheckDone c computed => Sys2Proof.Machine.execDiagRomCheckDone c computed s
  | .diagScrub r region => Sys2Proof.Machine.execDiagScrub r region s
  | .diagScrubDone c region corrected uncorrectable first => Sys2Proof.Machine.execDiagScrubDone c region corrected uncorrectable first s
  | .batchBoundary => Sys2Proof.Machine.execBatchBoundary s
  | .preFadeEnd c => Sys2Proof.Machine.execPreFadeEnd c s
  | .fadeInEnd c tray => Sys2Proof.Machine.execFadeInEnd c tray s
  | .bakeBegin r total => Sys2Proof.Machine.execBakeBegin r total s
  | .bakeWrite r offset crc data => Sys2Proof.Machine.execBakeWrite r offset crc data s
  | .bakeEnd r => Sys2Proof.Machine.execBakeEnd r s
  | .bakeLoadFlash r offset => Sys2Proof.Machine.execBakeLoadFlash r offset s
  | .bakeLoadDone c => Sys2Proof.Machine.execBakeLoadDone c s
  | .bakeCommit r mask target => Sys2Proof.Machine.execBakeCommit r mask target s
  | .bakeStatus r => Sys2Proof.Machine.execBakeStatus r s
  | .bakeReport r index count => Sys2Proof.Machine.execBakeReport r index count s
  | .paramWrite r entries => Sys2Proof.Machine.execParamWrite r entries s
  | .paramRead r id => Sys2Proof.Machine.execParamRead r id s
  | .bundleWrite r id sections ramp coeffs => Sys2Proof.Machine.execBundleWrite r id sections ramp coeffs s
  | .bundleCrossfadeEnd c id => Sys2Proof.Machine.execBundleCrossfadeEnd c id s
  | .overrun c core => Sys2Proof.Machine.execOverrun c core s
  | .bundleIssue core ecc => Sys2Proof.Machine.execBundleIssue core ecc s
  | .xpSet r entries => Sys2Proof.Machine.execXpSet r entries s
  | .xpRead r src dst => Sys2Proof.Machine.execXpRead r src dst s
  | .routeSet r dst ramp entries => Sys2Proof.Machine.execRouteSet r dst ramp entries s
  | .routeLatency r src dst => Sys2Proof.Machine.execRouteLatency r src dst s
  | .xpRampEnd c src dst => Sys2Proof.Machine.execXpRampEnd c src dst s
  | .delaySet r entries => Sys2Proof.Machine.execDelaySet r entries s
  | .delayRead r line => Sys2Proof.Machine.execDelayRead r line s
  | .delayCrossfadeEnd c line => Sys2Proof.Machine.execDelayCrossfadeEnd c line s
  | .dynSet r inst mask f => Sys2Proof.Machine.execDynSet r inst mask f s
  | .dynRead r inst => Sys2Proof.Machine.execDynRead r inst s
  | .portStart r port ramp => Sys2Proof.Machine.execPortStart r port ramp s
  | .portStop r port ramp => Sys2Proof.Machine.execPortStop r port ramp s
  | .portMute r port ramp mask => Sys2Proof.Machine.execPortMute r port ramp mask s
  | .portUnmute r port ramp mask => Sys2Proof.Machine.execPortUnmute r port ramp mask s
  | .portStatus r port clear => Sys2Proof.Machine.execPortStatus r port clear s
  | .asrcRead r first count => Sys2Proof.Machine.execAsrcRead r first count s
  | .bundleStatus r bundle => Sys2Proof.Machine.execBundleStatus r bundle s
  | .saiFrame c port f => Sys2Proof.Machine.execSaiFrame c port f s
  | .glitch c port width => Sys2Proof.Machine.execGlitch c port width s
  | .rateClassified c port rate => Sys2Proof.Machine.execRateClassified c port rate s
  | .asrcLock c owner ratio fraction => Sys2Proof.Machine.execAsrcLock c owner ratio fraction s
  | .acquireTimeout c port => Sys2Proof.Machine.execAcquireTimeout c port s
  | .portLost c port => Sys2Proof.Machine.execPortLost c port s
  | .rateChange c port => Sys2Proof.Machine.execRateChange c port s
  | .portRateRepeat c port => Sys2Proof.Machine.execPortRateRepeat c port s
  | .zctoTimeout c port chan => Sys2Proof.Machine.execZctoTimeout c port chan s
  | .portUnderrun c owner => Sys2Proof.Machine.execPortUnderrun c owner s
  | .claimHoldExpiry c pair => Sys2Proof.Machine.execClaimHoldExpiry c pair s
  | .clrclaim c m port => Sys2Proof.Machine.execClrclaim c m port s
  | .stageTrain r mask => Sys2Proof.Machine.execStageTrain r mask s
  | .stageTrainDone c => Sys2Proof.Machine.execStageTrainDone c s
  | .trainTimeout c out => Sys2Proof.Machine.execTrainTimeout c out s
  | .linkTestEnd c out clean => Sys2Proof.Machine.execLinkTestEnd c out clean s
  | .prechargeTimeout c out => Sys2Proof.Machine.execPrechargeTimeout c out s
  | .prechargeCheckEnd c out => Sys2Proof.Machine.execPrechargeCheckEnd c out s
  | .stageRunRun r mask => Sys2Proof.Machine.execStageRunRun r mask s
  | .stageRunArm r mask => Sys2Proof.Machine.execStageRunArm r mask s
  | .stageRunOff r mask => Sys2Proof.Machine.execStageRunOff r mask s
  | .stageRunClearLatch r mask => Sys2Proof.Machine.execStageRunClearLatch r mask s
  | .stageSet r out mask words => Sys2Proof.Machine.execStageSet r out mask words s
  | .stageStatus r out clear => Sys2Proof.Machine.execStageStatus r out clear s
  | .stageSense r out => Sys2Proof.Machine.execStageSense r out s
  | .modulationPeriod c lane => Sys2Proof.Machine.execModulationPeriod c lane s
  | .returnFrame c lane f => Sys2Proof.Machine.execReturnFrame c lane f s
  | .glLost c lane => Sys2Proof.Machine.execGlLost c lane s
  | .fcDrift c out => Sys2Proof.Machine.execFcDrift c out s
  | .bus c lane => Sys2Proof.Machine.execBus c lane s
  | .softStartEnd c out => Sys2Proof.Machine.execSoftStartEnd c out s
  | .retryStart c out => Sys2Proof.Machine.execRetryStart c out s
  | .retryClear c out => Sys2Proof.Machine.execRetryClear c out s
  | .thermalCopy c => Sys2Proof.Machine.execThermalCopy c s
  | .measWindowEnd c out => Sys2Proof.Machine.execMeasWindowEnd c out s
  | .probeWindowEnd c out z38 current => Sys2Proof.Machine.execProbeWindowEnd c out z38 current s
  | .protSet r out mask words => Sys2Proof.Machine.execProtSet r out mask words s
  | .protStatus r out clear => Sys2Proof.Machine.execProtStatus r out clear s
  | .protSweep r out => Sys2Proof.Machine.execProtSweep r out s
  | .protSweepDone c out points pilotLow => Sys2Proof.Machine.execProtSweepDone c out points pilotLow s
  | .protCal r out tcal => Sys2Proof.Machine.execProtCal r out tcal s
  | .protCalDone c out => Sys2Proof.Machine.execProtCalDone c out s
  | .trunkFrame c lane f => Sys2Proof.Machine.execTrunkFrame c lane f s
  | .cdrLock c lane => Sys2Proof.Machine.execCdrLock c lane s
  | .ctleSearchEnd c lane errs => Sys2Proof.Machine.execCtleSearchEnd c lane errs s
  | .rangeTimeout c lane => Sys2Proof.Machine.execRangeTimeout c lane s
  | .capsResend c lane => Sys2Proof.Machine.execCapsResend c lane s
  | .trunkLost c lane => Sys2Proof.Machine.execTrunkLost c lane s
  | .trunkSlip c lane late => Sys2Proof.Machine.execTrunkSlip c lane late s
  | .hostMsgResend c lane => Sys2Proof.Machine.execHostMsgResend c lane s
  | .trunkHoldExpiry c lane => Sys2Proof.Machine.execTrunkHoldExpiry c lane s
  | .claimClearTimeout c lane => Sys2Proof.Machine.execClaimClearTimeout c lane s
  | .trunkEnable r mask => Sys2Proof.Machine.execTrunkEnable r mask s
  | .trunkDisable r mask => Sys2Proof.Machine.execTrunkDisable r mask s
  | .trunkRestart r mask => Sys2Proof.Machine.execTrunkRestart r mask s
  | .restart c m lane => Sys2Proof.Machine.execRestart c m lane s
  | .trunkSet r lane mask word => Sys2Proof.Machine.execTrunkSet r lane mask word s
  | .trunkStatus r lane clear => Sys2Proof.Machine.execTrunkStatus r lane clear s
  | .trunkRange r lane => Sys2Proof.Machine.execTrunkRange r lane s
  | .trunkMsgSend r lane bytes => Sys2Proof.Machine.execTrunkMsgSend r lane bytes s
  | .trunkMsgRead r => Sys2Proof.Machine.execTrunkMsgRead r s
  | .trunkClaimClr r mask => Sys2Proof.Machine.execTrunkClaimClr r mask s
  | .ethFrame c mac f => Sys2Proof.Machine.execEthFrame c mac f s
  | .pauseReceived c mac quanta => Sys2Proof.Machine.execPauseReceived c mac quanta s
  | .pauseExpiry c mac => Sys2Proof.Machine.execPauseExpiry c mac s
  | .pauseSend c mac halfElapsed => Sys2Proof.Machine.execPauseSend c mac halfElapsed s
  | .ethLink c mac up => Sys2Proof.Machine.execEthLink c mac up s
  | .lpiAssert c mac => Sys2Proof.Machine.execLpiAssert c mac s
  | .aesPacketSend c owner ptpTime => Sys2Proof.Machine.execAesPacketSend c owner ptpTime s
  | .aesPacketLate c owner => Sys2Proof.Machine.execAesPacketLate c owner s
  | .aesStreamSet r owner f => Sys2Proof.Machine.execAesStreamSet r owner f s
  | .aesStreamStatus r owner => Sys2Proof.Machine.execAesStreamStatus r owner s
  | .ethStatus r mac clear => Sys2Proof.Machine.execEthStatus r mac clear s
  | .clockUpdate c meas => Sys2Proof.Machine.execClockUpdate c meas s
  | .refLos c source => Sys2Proof.Machine.execRefLos c source s
  | .ppsBad c entry => Sys2Proof.Machine.execPpsBad c entry s
  | .clockLocked c => Sys2Proof.Machine.execClockLocked c s
  | .unlock c => Sys2Proof.Machine.execUnlock c s
  | .bankCopy c => Sys2Proof.Machine.execBankCopy c s
  | .openTimeout c => Sys2Proof.Machine.execOpenTimeout c s
  | .alignDone c => Sys2Proof.Machine.execAlignDone c s
  | .rootUnlock c => Sys2Proof.Machine.execRootUnlock c s
  | .clkTableSet r entry mask words => Sys2Proof.Machine.execClkTableSet r entry mask words s
  | .clkSelect r selmode manual loop alslew holdtau => Sys2Proof.Machine.execClkSelect r selmode manual loop alslew holdtau s
  | .clkStatus r clear => Sys2Proof.Machine.execClkStatus r clear s
  | .clkAlign r => Sys2Proof.Machine.execClkAlign r s
  | .clkSteer r freq => Sys2Proof.Machine.execClkSteer r freq s
  | .clkOutSet r word => Sys2Proof.Machine.execClkOutSet r word s
  | .twinFrame c lane f => Sys2Proof.Machine.execTwinFrame c lane f s
  | .mirrorApply c m => Sys2Proof.Machine.execMirrorApply c m s
  | .forwardedCommand c target bytes => Sys2Proof.Machine.execForwardedCommand c target bytes s
  | .refereeQuarter c a b => Sys2Proof.Machine.execRefereeQuarter c a b s
  | .refereeWord c w => Sys2Proof.Machine.execRefereeWord c w s
  | .twinWordSend c quarter => Sys2Proof.Machine.execTwinWordSend c quarter s
  | .refLost c => Sys2Proof.Machine.execRefLost c s
  | .twinConfig r word mask => Sys2Proof.Machine.execTwinConfig r word mask s
  | .twinJoin r => Sys2Proof.Machine.execTwinJoin r s
  | .twinSwitch r force => Sys2Proof.Machine.execTwinSwitch r force s
  | .twinSwitchTimeout c => Sys2Proof.Machine.execTwinSwitchTimeout c s
  | .twinStatus r clear => Sys2Proof.Machine.execTwinStatus r clear s
  | .shard c => Sys2Proof.Machine.execShard c s
  | .kilnRead r count => Sys2Proof.Machine.execKilnRead r count s
  | .kilnAck r mask => Sys2Proof.Machine.execKilnAck r mask s
  | .kilnAckRegister c m value => Sys2Proof.Machine.execKilnAckRegister c m value s
  | .kilnClear r mask => Sys2Proof.Machine.execKilnClear r mask s
  | .activeClear c m value => Sys2Proof.Machine.execActiveClear c m value s
  | .kilnLog c m => Sys2Proof.Machine.execKilnLog c m s
  | .kilnInject r src inst cls kind context dry => Sys2Proof.Machine.execKilnInject r src inst cls kind context dry s
  | .kilnLevelSet r cls kind level => Sys2Proof.Machine.execKilnLevelSet r cls kind level s
  | .kilnStatus r => Sys2Proof.Machine.execKilnStatus r s
  | .maskingWindowEnd c => Sys2Proof.Machine.execMaskingWindowEnd c s
  | .dip c rail => Sys2Proof.Machine.execDip c rail s
  | .dipEnd c => Sys2Proof.Machine.execDipEnd c s
  | .vkeepLow c => Sys2Proof.Machine.execVkeepLow c s
  | .tjWarn c tj => Sys2Proof.Machine.execTjWarn c tj s
  | .tjCrit c tj => Sys2Proof.Machine.execTjCrit c tj s
  | .coldReset => Sys2Proof.Machine.execColdReset s
  | .pinReset c => Sys2Proof.Machine.execPinReset c s
  | .brownOut c rail => Sys2Proof.Machine.execBrownOut c rail s
  | .watchdogExpiry c second => Sys2Proof.Machine.execWatchdogExpiry c second s
  | .softReset c => Sys2Proof.Machine.execSoftReset c s
  | .resetRelease => Sys2Proof.Machine.execResetRelease s
  | .controlResetEnd c => Sys2Proof.Machine.execControlResetEnd c s
  | .unitResetEnd c unit => Sys2Proof.Machine.execUnitResetEnd c unit s
  | .standbyEnter r => Sys2Proof.Machine.execStandbyEnter r s
  | .standbyLeave r => Sys2Proof.Machine.execStandbyLeave r s
  | .sysDormant r confirm => Sys2Proof.Machine.execSysDormant r confirm s
  | .dormantEntry c => Sys2Proof.Machine.execDormantEntry c s
  | .keepWake => Sys2Proof.Machine.execKeepWake s
  | .fabricTransfer c m q => Sys2Proof.Machine.execFabricTransfer c m q s
  | .sysWdog c m value => Sys2Proof.Machine.execSysWdog c m value s
  | .sysRemap c m value => Sys2Proof.Machine.execSysRemap c m value s
  | .fabHbeat c m h value => Sys2Proof.Machine.execFabHbeat c m h value s
  | .helperHang c h => Sys2Proof.Machine.execHelperHang c h s
  | .supervisorStart c => Sys2Proof.Machine.execSupervisorStart c s
  | .nvsGo c m value => Sys2Proof.Machine.execNvsGo c m value s
  | .updOpen r target offset length => Sys2Proof.Machine.execUpdOpen r target offset length s
  | .updWrite r session offset crc data => Sys2Proof.Machine.execUpdWrite r session offset crc data s
  | .updWriteDone c => Sys2Proof.Machine.execUpdWriteDone c s
  | .updClose r session crc => Sys2Proof.Machine.execUpdClose r session crc s
  | .updCloseDone c => Sys2Proof.Machine.execUpdCloseDone c s
  | .updAbort r session => Sys2Proof.Machine.execUpdAbort r session s
  | .sessionTimeout c => Sys2Proof.Machine.execSessionTimeout c s
  | .updActivate r => Sys2Proof.Machine.execUpdActivate r s
  | .updActivateDone c => Sys2Proof.Machine.execUpdActivateDone c s
  | .healthConfirm r => Sys2Proof.Machine.execHealthConfirm r s
  | .healthWindowEnd c => Sys2Proof.Machine.execHealthWindowEnd c s
  | .updStatus r => Sys2Proof.Machine.execUpdStatus r s
  | .setWrite r key data => Sys2Proof.Machine.execSetWrite r key data s
  | .setRead r key => Sys2Proof.Machine.execSetRead r key s
  | .sysBootSave r => Sys2Proof.Machine.execSysBootSave r s
  | .sysBootSaveDone c => Sys2Proof.Machine.execSysBootSaveDone c s
  | .lossOfLock c lane => Sys2Proof.Machine.execLossOfLock c lane s
  | .twinLaneLoss c lane => Sys2Proof.Machine.execTwinLaneLoss c lane s
  | .vkeepFall => Sys2Proof.Machine.execVkeepFall s
  | .rootLock c => Sys2Proof.Machine.execRootLock c s
  | .nvsLineWriteEnd c => Sys2Proof.Machine.execNvsLineWriteEnd c s
  | .tapReset c => Sys2Proof.Machine.execTapReset c s

end Sys2Proof.Machine
end

