-- ==== Sys2Proof/WellFormed.lean ====
section
/-! DEFINITION. Well-formed commands: every operand fits the field that carries it (R27, the packet cards), lists have the lengths
their cards allow, and an event's cycle lies in its batch (R17). -/
namespace Sys2Proof

/-- The DCLK cycles of a batch (R17). -/
def cycleOk (c : Nat) : Bool := decide (c < 102400)

/-- A request: its cycle lies in the batch, and only channel 3 carries a target batch (R314). -/
def reqOk (r : Req) : Bool := cycleOk r.c && (r.target.isNone || r.ch == 3)

def lenIn {α : Type} (l : List α) (lo hi : Nat) : Bool := decide (lo ≤ l.length) && decide (l.length ≤ hi)

/-- Is a command well formed? -/
def Instr.wf : Instr → Bool
  | .readStatus c => cycleOk c
  | .put c _ => cycleOk c
  | .get c _ => cycleOk c
  | .qspiBadInstruction c instr => cycleOk c && instr != 0x05 && instr != 0x32 && instr != 0x6B
  | .udpDatagram c _ => cycleOk c
  | .fragTimeout c _ _ => cycleOk c
  | .completionResend c _ _ => cycleOk c
  | .sysNop r => reqOk r
  | .sysInfo r => reqOk r
  | .deviceReset r _ => reqOk r
  | .controlReset r => reqOk r
  | .sysAbort r _ => reqOk r
  | .sysComplAck r handles => reqOk r && lenIn handles 1 16
  | .sysResultRead r _ offset count => reqOk r && decide (offset < 4294967296) && decide (count < 65536)
  | .regRead r _ count => reqOk r && decide (count < 65536)
  | .regWrite r _ words => reqOk r && lenIn words 1 256
  | .regModify r _ _ _ => reqOk r
  | .registerWrite c _ _ _ => cycleOk c
  | .diagEcho r bytes => reqOk r && lenIn bytes 0 4092
  | .diagCounters r clear => reqOk r && decide (clear < 256)
  | .diagRomCheck r => reqOk r
  | .diagRomCheckDone c _ => cycleOk c
  | .diagScrub r region => reqOk r && decide (region < 256)
  | .diagScrubDone c region _ _ _ => cycleOk c && decide (region < 256)
  | .batchBoundary => true
  | .preFadeEnd c => cycleOk c
  | .fadeInEnd c _ => cycleOk c
  | .bakeBegin r total => reqOk r && decide (total < 4294967296)
  | .bakeWrite r offset _ data => reqOk r && decide (offset < 4294967296) && lenIn data 1 4000
  | .bakeEnd r => reqOk r
  | .bakeLoadFlash r offset => reqOk r && decide (offset < 4294967296)
  | .bakeLoadDone c => cycleOk c
  | .bakeCommit r _ _ => reqOk r
  | .bakeStatus r => reqOk r
  | .bakeReport r index count => reqOk r && decide (index < 65536) && decide (count < 65536)
  | .paramWrite r entries => reqOk r && lenIn entries 1 255 && entries.all (fun e => decide (e.id < 65536) && decide (e.ramp < 65536))
  | .paramRead r id => reqOk r && decide (id < 65536)
  | .bundleWrite r id sections ramp coeffs => reqOk r && decide (id < 65536) && decide (1 ≤ sections) && decide (sections ≤ 8) && decide (ramp < 65536) && lenIn coeffs (5 * sections) (5 * sections)
  | .bundleCrossfadeEnd c id => cycleOk c && decide (id < 65536)
  | .overrun c _ => cycleOk c
  | .bundleIssue _ _ => true
  | .xpSet r entries => reqOk r && lenIn entries 1 255 && entries.all (fun e => decide (e.src < 65536) && decide (e.dst < 65536) && decide (e.ramp < 65536))
  | .xpRead r src dst => reqOk r && decide (src < 65536) && decide (dst < 65536)
  | .routeSet r dst ramp entries => reqOk r && decide (dst < 65536) && decide (ramp < 65536) && lenIn entries 0 255 && entries.all (fun e => decide (e.src < 65536))
  | .routeLatency r src dst => reqOk r && decide (src < 65536) && decide (dst < 65536)
  | .xpRampEnd c src dst => cycleOk c && decide (src < 65536) && decide (dst < 65536)
  | .delaySet r entries => reqOk r && lenIn entries 1 255 && entries.all (fun e => decide (e.line < 65536) && decide (e.ramp < 65536) && decide (e.delay < 4294967296))
  | .delayRead r line => reqOk r && decide (line < 65536)
  | .delayCrossfadeEnd c line => cycleOk c && decide (line < 65536)
  | .dynSet r inst mask f => reqOk r && decide (inst < 65536) && decide (mask < 65536) && decide (f.flags < 256) && decide (f.ramp < 65536)
  | .dynRead r inst => reqOk r && decide (inst < 65536)
  | .portStart r port ramp => reqOk r && decide (port < 256) && decide (ramp < 65536)
  | .portStop r port ramp => reqOk r && decide (port < 256) && decide (ramp < 65536)
  | .portMute r port ramp _ => reqOk r && decide (port < 256) && decide (ramp < 65536)
  | .portUnmute r port ramp _ => reqOk r && decide (port < 256) && decide (ramp < 65536)
  | .portStatus r port clear => reqOk r && decide (port < 256) && decide (clear < 256)
  | .asrcRead r first count => reqOk r && decide (first < 256) && decide (count < 256)
  | .bundleStatus r bundle => reqOk r && decide (bundle < 256)
  | .saiFrame c _ f => cycleOk c && lenIn f.words 0 32 && decide (f.pos < 8)
  | .glitch c _ _ => cycleOk c
  | .rateClassified c _ rate => cycleOk c && decide (rate ≤ 6)
  | .asrcLock c owner _ fraction => cycleOk c && decide (owner < 256) && decide (fraction < 25600)
  | .acquireTimeout c _ => cycleOk c
  | .portLost c _ => cycleOk c
  | .rateChange c _ => cycleOk c
  | .portRateRepeat c _ => cycleOk c
  | .zctoTimeout c _ _ => cycleOk c
  | .portUnderrun c owner => cycleOk c && decide (owner < 256)
  | .claimHoldExpiry c _ => cycleOk c
  | .clrclaim c _ _ => cycleOk c
  | .stageTrain r mask => reqOk r && decide (mask < 65536)
  | .stageTrainDone c => cycleOk c
  | .trainTimeout c _ => cycleOk c
  | .linkTestEnd c _ _ => cycleOk c
  | .prechargeTimeout c _ => cycleOk c
  | .prechargeCheckEnd c _ => cycleOk c
  | .stageRunRun r mask => reqOk r && decide (mask < 65536)
  | .stageRunArm r mask => reqOk r && decide (mask < 65536)
  | .stageRunOff r mask => reqOk r && decide (mask < 65536)
  | .stageRunClearLatch r mask => reqOk r && decide (mask < 65536)
  | .stageSet r out mask words => reqOk r && decide (out < 256) && decide (mask < 65536) && lenIn words 4 4
  | .stageStatus r out clear => reqOk r && decide (out < 256) && decide (clear < 256)
  | .stageSense r out => reqOk r && decide (out < 256)
  | .modulationPeriod c _ => cycleOk c
  | .returnFrame c _ f => cycleOk c && lenIn f.syms 60 60
  | .glLost c _ => cycleOk c
  | .fcDrift c _ => cycleOk c
  | .bus c _ => cycleOk c
  | .softStartEnd c _ => cycleOk c
  | .retryStart c _ => cycleOk c
  | .retryClear c _ => cycleOk c
  | .thermalCopy c => cycleOk c
  | .measWindowEnd c _ => cycleOk c
  | .probeWindowEnd c _ _ _ => cycleOk c
  | .protSet r out mask words => reqOk r && decide (out < 256) && decide (mask < 4294967296) && lenIn words 7 7
  | .protStatus r out clear => reqOk r && decide (out < 256) && decide (clear < 256)
  | .protSweep r out => reqOk r && decide (out < 256)
  | .protSweepDone c _ _ _ => cycleOk c
  | .protCal r out tcal => reqOk r && decide (out < 256) && decide (tcal < 256)
  | .protCalDone c _ => cycleOk c
  | .trunkFrame c _ f => cycleOk c && lenIn f.header 14 14 && f.payload.all (fun e => decide (e.1 < 16384))
  | .cdrLock c _ => cycleOk c
  | .ctleSearchEnd c _ errs => cycleOk c && lenIn errs 15 15
  | .rangeTimeout c _ => cycleOk c
  | .capsResend c _ => cycleOk c
  | .trunkLost c _ => cycleOk c
  | .trunkSlip c _ _ => cycleOk c
  | .hostMsgResend c _ => cycleOk c
  | .trunkHoldExpiry c _ => cycleOk c
  | .claimClearTimeout c _ => cycleOk c
  | .trunkEnable r mask => reqOk r && decide (mask < 256)
  | .trunkDisable r mask => reqOk r && decide (mask < 256)
  | .trunkRestart r mask => reqOk r && decide (mask < 256)
  | .restart c _ _ => cycleOk c
  | .trunkSet r lane mask _ => reqOk r && decide (lane < 256) && decide (mask < 65536)
  | .trunkStatus r lane clear => reqOk r && decide (lane < 256) && decide (clear < 256)
  | .trunkRange r lane => reqOk r && decide (lane < 256)
  | .trunkMsgSend r lane bytes => reqOk r && decide (lane < 256) && lenIn bytes 1 4000
  | .trunkMsgRead r => reqOk r
  | .trunkClaimClr r mask => reqOk r && decide (mask < 256)
  | .ethFrame c _ _ => cycleOk c
  | .pauseReceived c _ quanta => cycleOk c && decide (quanta < 65536)
  | .pauseExpiry c _ => cycleOk c
  | .pauseSend c _ _ => cycleOk c
  | .ethLink c _ _ => cycleOk c
  | .lpiAssert c _ => cycleOk c
  | .aesPacketSend c owner _ => cycleOk c && decide (owner < 256)
  | .aesPacketLate c owner => cycleOk c && decide (owner < 256)
  | .aesStreamSet r owner f => reqOk r && decide (owner < 256) && decide (f.enable < 256) && decide (f.pt < 256) && decide (f.udpPort < 65536) && decide (f.delay < 65536)
  | .aesStreamStatus r owner => reqOk r && decide (owner < 256)
  | .ethStatus r mac clear => reqOk r && decide (mac < 256) && decide (clear < 256)
  | .clockUpdate c meas => cycleOk c && meas.all (fun e => decide (e.source < 16))
  | .refLos c source => cycleOk c && decide (source < 16)
  | .ppsBad c _ => cycleOk c
  | .clockLocked c => cycleOk c
  | .unlock c => cycleOk c
  | .bankCopy c => cycleOk c
  | .openTimeout c => cycleOk c
  | .alignDone c => cycleOk c
  | .rootUnlock c => cycleOk c
  | .clkTableSet r entry mask words => reqOk r && decide (entry < 256) && decide (mask < 65536) && lenIn words 4 4
  | .clkSelect r selmode manual loop alslew holdtau => reqOk r && decide (selmode < 256) && decide (manual < 256) && decide (loop < 256) && decide (alslew < 65536) && decide (holdtau < 65536)
  | .clkStatus r clear => reqOk r && decide (clear < 256)
  | .clkAlign r => reqOk r
  | .clkSteer r _ => reqOk r
  | .clkOutSet r _ => reqOk r
  | .twinFrame c _ f => cycleOk c && lenIn f.header 12 12 && f.cells.all (fun b => lenIn b 69 69)
  | .mirrorApply c m => cycleOk c && decide (m.space < 256) && lenIn m.words 1 14
  | .forwardedCommand c _ _ => cycleOk c
  | .refereeQuarter c _ _ => cycleOk c
  | .refereeWord c w => cycleOk c && lenIn w 14 14
  | .twinWordSend c _ => cycleOk c
  | .refLost c => cycleOk c
  | .twinConfig r _ mask => reqOk r && decide (mask < 256)
  | .twinJoin r => reqOk r
  | .twinSwitch r force => reqOk r && decide (force < 256)
  | .twinSwitchTimeout c => cycleOk c
  | .twinStatus r clear => reqOk r && decide (clear < 256)
  | .shard c => cycleOk c
  | .kilnRead r count => reqOk r && decide (count < 65536)
  | .kilnAck r mask => reqOk r && decide (mask < 65536)
  | .kilnAckRegister c _ _ => cycleOk c
  | .kilnClear r mask => reqOk r && decide (mask < 65536)
  | .activeClear c _ _ => cycleOk c
  | .kilnLog c _ => cycleOk c
  | .kilnInject r src inst cls kind _ dry => reqOk r && decide (src < 256) && decide (inst < 256) && decide (cls < 256) && decide (kind < 256) && decide (dry < 256)
  | .kilnLevelSet r cls kind level => reqOk r && decide (cls < 256) && decide (kind < 256) && decide (level < 256)
  | .kilnStatus r => reqOk r
  | .maskingWindowEnd c => cycleOk c
  | .dip c _ => cycleOk c
  | .dipEnd c => cycleOk c
  | .vkeepLow c => cycleOk c
  | .tjWarn c _ => cycleOk c
  | .tjCrit c _ => cycleOk c
  | .coldReset => true
  | .pinReset c => cycleOk c
  | .brownOut c _ => cycleOk c
  | .watchdogExpiry c _ => cycleOk c
  | .softReset c => cycleOk c
  | .resetRelease => true
  | .controlResetEnd c => cycleOk c
  | .unitResetEnd c _ => cycleOk c
  | .standbyEnter r => reqOk r
  | .standbyLeave r => reqOk r
  | .sysDormant r _ => reqOk r
  | .dormantEntry c => cycleOk c
  | .keepWake => true
  | .fabricTransfer c _ q => cycleOk c && [1, 2, 4].contains q.size && [1, 4, 8, 16].contains q.beats
  | .sysWdog c _ _ => cycleOk c
  | .sysRemap c _ _ => cycleOk c
  | .fabHbeat c _ _ _ => cycleOk c
  | .helperHang c _ => cycleOk c
  | .supervisorStart c => cycleOk c
  | .nvsGo c _ _ => cycleOk c
  | .updOpen r target offset length => reqOk r && decide (target < 256) && decide (offset < 4294967296) && decide (length < 4294967296)
  | .updWrite r _ offset _ data => reqOk r && decide (offset < 4294967296) && lenIn data 1 4000
  | .updWriteDone c => cycleOk c
  | .updClose r _ _ => reqOk r
  | .updCloseDone c => cycleOk c
  | .updAbort r _ => reqOk r
  | .sessionTimeout c => cycleOk c
  | .updActivate r => reqOk r
  | .updActivateDone c => cycleOk c
  | .healthConfirm r => reqOk r
  | .healthWindowEnd c => cycleOk c
  | .updStatus r => reqOk r
  | .setWrite r key data => reqOk r && decide (key < 65536) && lenIn data 0 252
  | .setRead r key => reqOk r && decide (key < 65536)
  | .sysBootSave r => reqOk r
  | .sysBootSaveDone c => cycleOk c
  | .lossOfLock c _ => cycleOk c
  | .twinLaneLoss c _ => cycleOk c
  | .vkeepFall => true
  | .rootLock c => cycleOk c
  | .nvsLineWriteEnd c => cycleOk c
  | .tapReset c => cycleOk c

end Sys2Proof
end

