-- ==== Sys2Proof/Machine/Encode.lean ====
section
/-! DEFINITION. The host commands as packets carry them: each row's opcode and its payload, as the packet cards lay it out (R43 to R46).
The other rows are events and register accesses, which no packet carries. -/
namespace Sys2Proof.Machine

open Sys2Proof

/-- The request of a host command; `none` for an event. -/
def requestOf : Instr → Option Req
  | .readStatus _ => none
  | .put _ _ => none
  | .get _ _ => none
  | .qspiBadInstruction _ _ => none
  | .udpDatagram _ _ => none
  | .fragTimeout _ _ _ => none
  | .completionResend _ _ _ => none
  | .sysNop r => some r
  | .sysInfo r => some r
  | .deviceReset r _ => some r
  | .controlReset r => some r
  | .sysAbort r _ => some r
  | .sysComplAck r _ => some r
  | .sysResultRead r _ _ _ => some r
  | .regRead r _ _ => some r
  | .regWrite r _ _ => some r
  | .regModify r _ _ _ => some r
  | .registerWrite _ _ _ _ => none
  | .diagEcho r _ => some r
  | .diagCounters r _ => some r
  | .diagRomCheck r => some r
  | .diagRomCheckDone _ _ => none
  | .diagScrub r _ => some r
  | .diagScrubDone _ _ _ _ _ => none
  | .batchBoundary => none
  | .preFadeEnd _ => none
  | .fadeInEnd _ _ => none
  | .bakeBegin r _ => some r
  | .bakeWrite r _ _ _ => some r
  | .bakeEnd r => some r
  | .bakeLoadFlash r _ => some r
  | .bakeLoadDone _ => none
  | .bakeCommit r _ _ => some r
  | .bakeStatus r => some r
  | .bakeReport r _ _ => some r
  | .paramWrite r _ => some r
  | .paramRead r _ => some r
  | .bundleWrite r _ _ _ _ => some r
  | .bundleCrossfadeEnd _ _ => none
  | .overrun _ _ => none
  | .bundleIssue _ _ => none
  | .xpSet r _ => some r
  | .xpRead r _ _ => some r
  | .routeSet r _ _ _ => some r
  | .routeLatency r _ _ => some r
  | .xpRampEnd _ _ _ => none
  | .delaySet r _ => some r
  | .delayRead r _ => some r
  | .delayCrossfadeEnd _ _ => none
  | .dynSet r _ _ _ => some r
  | .dynRead r _ => some r
  | .portStart r _ _ => some r
  | .portStop r _ _ => some r
  | .portMute r _ _ _ => some r
  | .portUnmute r _ _ _ => some r
  | .portStatus r _ _ => some r
  | .asrcRead r _ _ => some r
  | .bundleStatus r _ => some r
  | .saiFrame _ _ _ => none
  | .glitch _ _ _ => none
  | .rateClassified _ _ _ => none
  | .asrcLock _ _ _ _ => none
  | .acquireTimeout _ _ => none
  | .portLost _ _ => none
  | .rateChange _ _ => none
  | .portRateRepeat _ _ => none
  | .zctoTimeout _ _ _ => none
  | .portUnderrun _ _ => none
  | .claimHoldExpiry _ _ => none
  | .clrclaim _ _ _ => none
  | .stageTrain r _ => some r
  | .stageTrainDone _ => none
  | .trainTimeout _ _ => none
  | .linkTestEnd _ _ _ => none
  | .prechargeTimeout _ _ => none
  | .prechargeCheckEnd _ _ => none
  | .stageRunRun r _ => some r
  | .stageRunArm r _ => some r
  | .stageRunOff r _ => some r
  | .stageRunClearLatch r _ => some r
  | .stageSet r _ _ _ => some r
  | .stageStatus r _ _ => some r
  | .stageSense r _ => some r
  | .modulationPeriod _ _ => none
  | .returnFrame _ _ _ => none
  | .glLost _ _ => none
  | .fcDrift _ _ => none
  | .bus _ _ => none
  | .softStartEnd _ _ => none
  | .retryStart _ _ => none
  | .retryClear _ _ => none
  | .thermalCopy _ => none
  | .measWindowEnd _ _ => none
  | .probeWindowEnd _ _ _ _ => none
  | .protSet r _ _ _ => some r
  | .protStatus r _ _ => some r
  | .protSweep r _ => some r
  | .protSweepDone _ _ _ _ => none
  | .protCal r _ _ => some r
  | .protCalDone _ _ => none
  | .trunkFrame _ _ _ => none
  | .cdrLock _ _ => none
  | .ctleSearchEnd _ _ _ => none
  | .rangeTimeout _ _ => none
  | .capsResend _ _ => none
  | .trunkLost _ _ => none
  | .trunkSlip _ _ _ => none
  | .hostMsgResend _ _ => none
  | .trunkHoldExpiry _ _ => none
  | .claimClearTimeout _ _ => none
  | .trunkEnable r _ => some r
  | .trunkDisable r _ => some r
  | .trunkRestart r _ => some r
  | .restart _ _ _ => none
  | .trunkSet r _ _ _ => some r
  | .trunkStatus r _ _ => some r
  | .trunkRange r _ => some r
  | .trunkMsgSend r _ _ => some r
  | .trunkMsgRead r => some r
  | .trunkClaimClr r _ => some r
  | .ethFrame _ _ _ => none
  | .pauseReceived _ _ _ => none
  | .pauseExpiry _ _ => none
  | .pauseSend _ _ _ => none
  | .ethLink _ _ _ => none
  | .lpiAssert _ _ => none
  | .aesPacketSend _ _ _ => none
  | .aesPacketLate _ _ => none
  | .aesStreamSet r _ _ => some r
  | .aesStreamStatus r _ => some r
  | .ethStatus r _ _ => some r
  | .clockUpdate _ _ => none
  | .refLos _ _ => none
  | .ppsBad _ _ => none
  | .clockLocked _ => none
  | .unlock _ => none
  | .bankCopy _ => none
  | .openTimeout _ => none
  | .alignDone _ => none
  | .rootUnlock _ => none
  | .clkTableSet r _ _ _ => some r
  | .clkSelect r _ _ _ _ _ => some r
  | .clkStatus r _ => some r
  | .clkAlign r => some r
  | .clkSteer r _ => some r
  | .clkOutSet r _ => some r
  | .twinFrame _ _ _ => none
  | .mirrorApply _ _ => none
  | .forwardedCommand _ _ _ => none
  | .refereeQuarter _ _ _ => none
  | .refereeWord _ _ => none
  | .twinWordSend _ _ => none
  | .refLost _ => none
  | .twinConfig r _ _ => some r
  | .twinJoin r => some r
  | .twinSwitch r _ => some r
  | .twinSwitchTimeout _ => none
  | .twinStatus r _ => some r
  | .shard _ => none
  | .kilnRead r _ => some r
  | .kilnAck r _ => some r
  | .kilnAckRegister _ _ _ => none
  | .kilnClear r _ => some r
  | .activeClear _ _ _ => none
  | .kilnLog _ _ => none
  | .kilnInject r _ _ _ _ _ _ => some r
  | .kilnLevelSet r _ _ _ => some r
  | .kilnStatus r => some r
  | .maskingWindowEnd _ => none
  | .dip _ _ => none
  | .dipEnd _ => none
  | .vkeepLow _ => none
  | .tjWarn _ _ => none
  | .tjCrit _ _ => none
  | .coldReset => none
  | .pinReset _ => none
  | .brownOut _ _ => none
  | .watchdogExpiry _ _ => none
  | .softReset _ => none
  | .resetRelease => none
  | .controlResetEnd _ => none
  | .unitResetEnd _ _ => none
  | .standbyEnter r => some r
  | .standbyLeave r => some r
  | .sysDormant r _ => some r
  | .dormantEntry _ => none
  | .keepWake => none
  | .fabricTransfer _ _ _ => none
  | .sysWdog _ _ _ => none
  | .sysRemap _ _ _ => none
  | .fabHbeat _ _ _ _ => none
  | .helperHang _ _ => none
  | .supervisorStart _ => none
  | .nvsGo _ _ _ => none
  | .updOpen r _ _ _ => some r
  | .updWrite r _ _ _ _ => some r
  | .updWriteDone _ => none
  | .updClose r _ _ => some r
  | .updCloseDone _ => none
  | .updAbort r _ => some r
  | .sessionTimeout _ => none
  | .updActivate r => some r
  | .updActivateDone _ => none
  | .healthConfirm r => some r
  | .healthWindowEnd _ => none
  | .updStatus r => some r
  | .setWrite r _ _ => some r
  | .setRead r _ => some r
  | .sysBootSave r => some r
  | .sysBootSaveDone _ => none
  | .lossOfLock _ _ => none
  | .twinLaneLoss _ _ => none
  | .vkeepFall => none
  | .rootLock _ => none
  | .nvsLineWriteEnd _ => none
  | .tapReset _ => none

/-- The opcode of a host command; 0xFFFF, which no row has, for an event. -/
def opcodeOf : Instr → Nat
  | .readStatus _ => 0xFFFF
  | .put _ _ => 0xFFFF
  | .get _ _ => 0xFFFF
  | .qspiBadInstruction _ _ => 0xFFFF
  | .udpDatagram _ _ => 0xFFFF
  | .fragTimeout _ _ _ => 0xFFFF
  | .completionResend _ _ _ => 0xFFFF
  | .sysNop _ => 0x0000
  | .sysInfo _ => 0x0001
  | .deviceReset _ _ => 0x0002
  | .controlReset _ => 0x0003
  | .sysAbort _ _ => 0x0004
  | .sysComplAck _ _ => 0x0005
  | .sysResultRead _ _ _ _ => 0x0006
  | .regRead _ _ _ => 0x0100
  | .regWrite _ _ _ => 0x0101
  | .regModify _ _ _ _ => 0x0102
  | .registerWrite _ _ _ _ => 0xFFFF
  | .diagEcho _ _ => 0x0C00
  | .diagCounters _ _ => 0x0C01
  | .diagRomCheck _ => 0x0C02
  | .diagRomCheckDone _ _ => 0xFFFF
  | .diagScrub _ _ => 0x0C03
  | .diagScrubDone _ _ _ _ _ => 0xFFFF
  | .batchBoundary => 0xFFFF
  | .preFadeEnd _ => 0xFFFF
  | .fadeInEnd _ _ => 0xFFFF
  | .bakeBegin _ _ => 0x0200
  | .bakeWrite _ _ _ _ => 0x0201
  | .bakeEnd _ => 0x0202
  | .bakeLoadFlash _ _ => 0x0203
  | .bakeLoadDone _ => 0xFFFF
  | .bakeCommit _ _ _ => 0x0204
  | .bakeStatus _ => 0x0205
  | .bakeReport _ _ _ => 0x0206
  | .paramWrite _ _ => 0x0210
  | .paramRead _ _ => 0x0211
  | .bundleWrite _ _ _ _ _ => 0x0212
  | .bundleCrossfadeEnd _ _ => 0xFFFF
  | .overrun _ _ => 0xFFFF
  | .bundleIssue _ _ => 0xFFFF
  | .xpSet _ _ => 0x0300
  | .xpRead _ _ _ => 0x0301
  | .routeSet _ _ _ _ => 0x0302
  | .routeLatency _ _ _ => 0x0303
  | .xpRampEnd _ _ _ => 0xFFFF
  | .delaySet _ _ => 0x0304
  | .delayRead _ _ => 0x0305
  | .delayCrossfadeEnd _ _ => 0xFFFF
  | .dynSet _ _ _ _ => 0x0400
  | .dynRead _ _ => 0x0401
  | .portStart _ _ _ => 0x0500
  | .portStop _ _ _ => 0x0500
  | .portMute _ _ _ _ => 0x0500
  | .portUnmute _ _ _ _ => 0x0500
  | .portStatus _ _ _ => 0x0501
  | .asrcRead _ _ _ => 0x0502
  | .bundleStatus _ _ => 0x0503
  | .saiFrame _ _ _ => 0xFFFF
  | .glitch _ _ _ => 0xFFFF
  | .rateClassified _ _ _ => 0xFFFF
  | .asrcLock _ _ _ _ => 0xFFFF
  | .acquireTimeout _ _ => 0xFFFF
  | .portLost _ _ => 0xFFFF
  | .rateChange _ _ => 0xFFFF
  | .portRateRepeat _ _ => 0xFFFF
  | .zctoTimeout _ _ _ => 0xFFFF
  | .portUnderrun _ _ => 0xFFFF
  | .claimHoldExpiry _ _ => 0xFFFF
  | .clrclaim _ _ _ => 0xFFFF
  | .stageTrain _ _ => 0x0600
  | .stageTrainDone _ => 0xFFFF
  | .trainTimeout _ _ => 0xFFFF
  | .linkTestEnd _ _ _ => 0xFFFF
  | .prechargeTimeout _ _ => 0xFFFF
  | .prechargeCheckEnd _ _ => 0xFFFF
  | .stageRunRun _ _ => 0x0601
  | .stageRunArm _ _ => 0x0601
  | .stageRunOff _ _ => 0x0601
  | .stageRunClearLatch _ _ => 0x0601
  | .stageSet _ _ _ _ => 0x0602
  | .stageStatus _ _ _ => 0x0603
  | .stageSense _ _ => 0x0604
  | .modulationPeriod _ _ => 0xFFFF
  | .returnFrame _ _ _ => 0xFFFF
  | .glLost _ _ => 0xFFFF
  | .fcDrift _ _ => 0xFFFF
  | .bus _ _ => 0xFFFF
  | .softStartEnd _ _ => 0xFFFF
  | .retryStart _ _ => 0xFFFF
  | .retryClear _ _ => 0xFFFF
  | .thermalCopy _ => 0xFFFF
  | .measWindowEnd _ _ => 0xFFFF
  | .probeWindowEnd _ _ _ _ => 0xFFFF
  | .protSet _ _ _ _ => 0x0610
  | .protStatus _ _ _ => 0x0611
  | .protSweep _ _ => 0x0612
  | .protSweepDone _ _ _ _ => 0xFFFF
  | .protCal _ _ _ => 0x0613
  | .protCalDone _ _ => 0xFFFF
  | .trunkFrame _ _ _ => 0xFFFF
  | .cdrLock _ _ => 0xFFFF
  | .ctleSearchEnd _ _ _ => 0xFFFF
  | .rangeTimeout _ _ => 0xFFFF
  | .capsResend _ _ => 0xFFFF
  | .trunkLost _ _ => 0xFFFF
  | .trunkSlip _ _ _ => 0xFFFF
  | .hostMsgResend _ _ => 0xFFFF
  | .trunkHoldExpiry _ _ => 0xFFFF
  | .claimClearTimeout _ _ => 0xFFFF
  | .trunkEnable _ _ => 0x0700
  | .trunkDisable _ _ => 0x0700
  | .trunkRestart _ _ => 0x0700
  | .restart _ _ _ => 0xFFFF
  | .trunkSet _ _ _ _ => 0x0701
  | .trunkStatus _ _ _ => 0x0702
  | .trunkRange _ _ => 0x0703
  | .trunkMsgSend _ _ _ => 0x0704
  | .trunkMsgRead _ => 0x0705
  | .trunkClaimClr _ _ => 0x0706
  | .ethFrame _ _ _ => 0xFFFF
  | .pauseReceived _ _ _ => 0xFFFF
  | .pauseExpiry _ _ => 0xFFFF
  | .pauseSend _ _ _ => 0xFFFF
  | .ethLink _ _ _ => 0xFFFF
  | .lpiAssert _ _ => 0xFFFF
  | .aesPacketSend _ _ _ => 0xFFFF
  | .aesPacketLate _ _ => 0xFFFF
  | .aesStreamSet _ _ _ => 0x0710
  | .aesStreamStatus _ _ => 0x0711
  | .ethStatus _ _ _ => 0x0712
  | .clockUpdate _ _ => 0xFFFF
  | .refLos _ _ => 0xFFFF
  | .ppsBad _ _ => 0xFFFF
  | .clockLocked _ => 0xFFFF
  | .unlock _ => 0xFFFF
  | .bankCopy _ => 0xFFFF
  | .openTimeout _ => 0xFFFF
  | .alignDone _ => 0xFFFF
  | .rootUnlock _ => 0xFFFF
  | .clkTableSet _ _ _ _ => 0x0800
  | .clkSelect _ _ _ _ _ _ => 0x0801
  | .clkStatus _ _ => 0x0802
  | .clkAlign _ => 0x0803
  | .clkSteer _ _ => 0x0804
  | .clkOutSet _ _ => 0x0805
  | .twinFrame _ _ _ => 0xFFFF
  | .mirrorApply _ _ => 0xFFFF
  | .forwardedCommand _ _ _ => 0xFFFF
  | .refereeQuarter _ _ _ => 0xFFFF
  | .refereeWord _ _ => 0xFFFF
  | .twinWordSend _ _ => 0xFFFF
  | .refLost _ => 0xFFFF
  | .twinConfig _ _ _ => 0x0900
  | .twinJoin _ => 0x0901
  | .twinSwitch _ _ => 0x0902
  | .twinSwitchTimeout _ => 0xFFFF
  | .twinStatus _ _ => 0x0903
  | .shard _ => 0xFFFF
  | .kilnRead _ _ => 0x0A00
  | .kilnAck _ _ => 0x0A01
  | .kilnAckRegister _ _ _ => 0xFFFF
  | .kilnClear _ _ => 0x0A02
  | .activeClear _ _ _ => 0xFFFF
  | .kilnLog _ _ => 0xFFFF
  | .kilnInject _ _ _ _ _ _ _ => 0x0A03
  | .kilnLevelSet _ _ _ _ => 0x0A04
  | .kilnStatus _ => 0x0A05
  | .maskingWindowEnd _ => 0xFFFF
  | .dip _ _ => 0xFFFF
  | .dipEnd _ => 0xFFFF
  | .vkeepLow _ => 0xFFFF
  | .tjWarn _ _ => 0xFFFF
  | .tjCrit _ _ => 0xFFFF
  | .coldReset => 0xFFFF
  | .pinReset _ => 0xFFFF
  | .brownOut _ _ => 0xFFFF
  | .watchdogExpiry _ _ => 0xFFFF
  | .softReset _ => 0xFFFF
  | .resetRelease => 0xFFFF
  | .controlResetEnd _ => 0xFFFF
  | .unitResetEnd _ _ => 0xFFFF
  | .standbyEnter _ => 0x0007
  | .standbyLeave _ => 0x0007
  | .sysDormant _ _ => 0x0008
  | .dormantEntry _ => 0xFFFF
  | .keepWake => 0xFFFF
  | .fabricTransfer _ _ _ => 0xFFFF
  | .sysWdog _ _ _ => 0xFFFF
  | .sysRemap _ _ _ => 0xFFFF
  | .fabHbeat _ _ _ _ => 0xFFFF
  | .helperHang _ _ => 0xFFFF
  | .supervisorStart _ => 0xFFFF
  | .nvsGo _ _ _ => 0xFFFF
  | .updOpen _ _ _ _ => 0x0B00
  | .updWrite _ _ _ _ _ => 0x0B01
  | .updWriteDone _ => 0xFFFF
  | .updClose _ _ _ => 0x0B02
  | .updCloseDone _ => 0xFFFF
  | .updAbort _ _ => 0x0B03
  | .sessionTimeout _ => 0xFFFF
  | .updActivate _ => 0x0B04
  | .updActivateDone _ => 0xFFFF
  | .healthConfirm _ => 0x0B05
  | .healthWindowEnd _ => 0xFFFF
  | .updStatus _ => 0x0B06
  | .setWrite _ _ _ => 0x0B10
  | .setRead _ _ => 0x0B11
  | .sysBootSave _ => 0x0009
  | .sysBootSaveDone _ => 0xFFFF
  | .lossOfLock _ _ => 0xFFFF
  | .twinLaneLoss _ _ => 0xFFFF
  | .vkeepFall => 0xFFFF
  | .rootLock _ => 0xFFFF
  | .nvsLineWriteEnd _ => 0xFFFF
  | .tapReset _ => 0xFFFF

/-- The payload of a host command. -/
def payloadOf : Instr → List Byte
  | .readStatus _ => []
  | .put _ _ => []
  | .get _ _ => []
  | .qspiBadInstruction _ _ => []
  | .udpDatagram _ _ => []
  | .fragTimeout _ _ _ => []
  | .completionResend _ _ _ => []
  | .sysNop _ => []
  | .sysInfo _ => []
  | .deviceReset _ confirm => be2 confirm.toNat ++ zeros 2
  | .controlReset _ => []
  | .sysAbort _ handle => beWord handle
  | .sysComplAck _ handles => be2 handles.length ++ zeros 2 ++ beWords handles
  | .sysResultRead _ handle offset count => beWord handle ++ be4 offset ++ be2 count ++ zeros 2
  | .regRead _ addr count => beWord addr ++ be2 count ++ zeros 2
  | .regWrite _ addr words => beWord addr ++ be2 words.length ++ zeros 2 ++ beWords words
  | .regModify _ addr mask value => beWord addr ++ beWord mask ++ beWord value
  | .registerWrite _ _ _ _ => []
  | .diagEcho _ bytes => bytes
  | .diagCounters _ clear => [byteOf clear] ++ zeros 3
  | .diagRomCheck _ => []
  | .diagRomCheckDone _ _ => []
  | .diagScrub _ region => [byteOf region] ++ zeros 3
  | .diagScrubDone _ _ _ _ _ => []
  | .batchBoundary => []
  | .preFadeEnd _ => []
  | .fadeInEnd _ _ => []
  | .bakeBegin _ total => be4 total
  | .bakeWrite _ offset crc data => be4 offset ++ be2 data.length ++ zeros 2 ++ beWord crc ++ data
  | .bakeEnd _ => []
  | .bakeLoadFlash _ offset => be4 offset
  | .bakeLoadDone _ => []
  | .bakeCommit _ mask target => beWord mask ++ beWord target
  | .bakeStatus _ => []
  | .bakeReport _ index count => be2 index ++ be2 count
  | .paramWrite _ entries => be2 entries.length ++ zeros 2 ++ entries.flatMap (fun e => be2 e.id ++ be2 e.ramp ++ beWord e.value)
  | .paramRead _ id => be2 id ++ zeros 2
  | .bundleWrite _ id sections ramp coeffs => be2 id ++ [byteOf sections, 0] ++ be2 ramp ++ zeros 2 ++ beWords coeffs
  | .bundleCrossfadeEnd _ _ => []
  | .overrun _ _ => []
  | .bundleIssue _ _ => []
  | .xpSet _ entries => be2 entries.length ++ zeros 2 ++ entries.flatMap (fun e => be2 e.src ++ be2 e.dst ++ beWord e.gain ++ be2 e.ramp ++ zeros 2)
  | .xpRead _ src dst => be2 src ++ be2 dst
  | .routeSet _ dst ramp entries => be2 dst ++ be2 entries.length ++ be2 ramp ++ zeros 2 ++ entries.flatMap (fun e => be2 e.src ++ zeros 2 ++ beWord e.gain)
  | .routeLatency _ src dst => be2 src ++ be2 dst
  | .xpRampEnd _ _ _ => []
  | .delaySet _ entries => be2 entries.length ++ zeros 2 ++ entries.flatMap (fun e => be2 e.line ++ be2 e.ramp ++ be4 e.delay)
  | .delayRead _ line => be2 line ++ zeros 2
  | .delayCrossfadeEnd _ _ => []
  | .dynSet _ inst mask f => be2 inst ++ be2 mask ++ beWord f.thresh ++ beWord f.ratio ++ beWord f.knee ++ beWord f.attack ++ beWord f.release ++ beWord f.makeup ++ [byteOf f.flags, 0] ++ be2 f.ramp
  | .dynRead _ inst => be2 inst ++ zeros 2
  | .portStart _ port ramp => [byteOf port, 0] ++ be2 ramp ++ zeros 4
  | .portStop _ port ramp => [byteOf port, 1] ++ be2 ramp ++ zeros 4
  | .portMute _ port ramp mask => [byteOf port, 2] ++ be2 ramp ++ beWord mask
  | .portUnmute _ port ramp mask => [byteOf port, 3] ++ be2 ramp ++ beWord mask
  | .portStatus _ port clear => [byteOf port, byteOf clear] ++ zeros 2
  | .asrcRead _ first count => [byteOf first, byteOf count] ++ zeros 2
  | .bundleStatus _ bundle => [byteOf bundle] ++ zeros 3
  | .saiFrame _ _ _ => []
  | .glitch _ _ _ => []
  | .rateClassified _ _ _ => []
  | .asrcLock _ _ _ _ => []
  | .acquireTimeout _ _ => []
  | .portLost _ _ => []
  | .rateChange _ _ => []
  | .portRateRepeat _ _ => []
  | .zctoTimeout _ _ _ => []
  | .portUnderrun _ _ => []
  | .claimHoldExpiry _ _ => []
  | .clrclaim _ _ _ => []
  | .stageTrain _ mask => be2 mask ++ zeros 2
  | .stageTrainDone _ => []
  | .trainTimeout _ _ => []
  | .linkTestEnd _ _ _ => []
  | .prechargeTimeout _ _ => []
  | .prechargeCheckEnd _ _ => []
  | .stageRunRun _ mask => be2 mask ++ [0, 0]
  | .stageRunArm _ mask => be2 mask ++ [1, 0]
  | .stageRunOff _ mask => be2 mask ++ [2, 0]
  | .stageRunClearLatch _ mask => be2 mask ++ [3, 0]
  | .stageSet _ out mask words => [byteOf out, 0] ++ be2 mask ++ beWords words
  | .stageStatus _ out clear => [byteOf out, byteOf clear] ++ zeros 2
  | .stageSense _ out => [byteOf out] ++ zeros 3
  | .modulationPeriod _ _ => []
  | .returnFrame _ _ _ => []
  | .glLost _ _ => []
  | .fcDrift _ _ => []
  | .bus _ _ => []
  | .softStartEnd _ _ => []
  | .retryStart _ _ => []
  | .retryClear _ _ => []
  | .thermalCopy _ => []
  | .measWindowEnd _ _ => []
  | .probeWindowEnd _ _ _ _ => []
  | .protSet _ out mask words => [byteOf out] ++ zeros 3 ++ be4 mask ++ beWords words
  | .protStatus _ out clear => [byteOf out, byteOf clear] ++ zeros 2
  | .protSweep _ out => [byteOf out] ++ zeros 3
  | .protSweepDone _ _ _ _ => []
  | .protCal _ out tcal => [byteOf out, byteOf tcal] ++ zeros 2
  | .protCalDone _ _ => []
  | .trunkFrame _ _ _ => []
  | .cdrLock _ _ => []
  | .ctleSearchEnd _ _ _ => []
  | .rangeTimeout _ _ => []
  | .capsResend _ _ => []
  | .trunkLost _ _ => []
  | .trunkSlip _ _ _ => []
  | .hostMsgResend _ _ => []
  | .trunkHoldExpiry _ _ => []
  | .claimClearTimeout _ _ => []
  | .trunkEnable _ mask => [byteOf mask, 0] ++ zeros 2
  | .trunkDisable _ mask => [byteOf mask, 1] ++ zeros 2
  | .trunkRestart _ mask => [byteOf mask, 2] ++ zeros 2
  | .restart _ _ _ => []
  | .trunkSet _ lane mask word => [byteOf lane, 0] ++ be2 mask ++ beWord word
  | .trunkStatus _ lane clear => [byteOf lane, byteOf clear] ++ zeros 2
  | .trunkRange _ lane => [byteOf lane] ++ zeros 3
  | .trunkMsgSend _ lane bytes => [byteOf lane, 0] ++ be2 bytes.length ++ bytes
  | .trunkMsgRead _ => []
  | .trunkClaimClr _ mask => [byteOf mask] ++ zeros 3
  | .ethFrame _ _ _ => []
  | .pauseReceived _ _ _ => []
  | .pauseExpiry _ _ => []
  | .pauseSend _ _ _ => []
  | .ethLink _ _ _ => []
  | .lpiAssert _ _ => []
  | .aesPacketSend _ _ _ => []
  | .aesPacketLate _ _ => []
  | .aesStreamSet _ owner f => [byteOf owner, byteOf f.enable, byteOf f.pt, 0] ++ beWord f.group ++ be2 f.udpPort ++ be2 f.delay ++ beWord f.rtpOff ++ beWord f.ssrc ++ zeros 4
  | .aesStreamStatus _ owner => [byteOf owner] ++ zeros 3
  | .ethStatus _ mac clear => [byteOf mac, byteOf clear] ++ zeros 2
  | .clockUpdate _ _ => []
  | .refLos _ _ => []
  | .ppsBad _ _ => []
  | .clockLocked _ => []
  | .unlock _ => []
  | .bankCopy _ => []
  | .openTimeout _ => []
  | .alignDone _ => []
  | .rootUnlock _ => []
  | .clkTableSet _ entry mask words => [byteOf entry, 0] ++ be2 mask ++ beWords words
  | .clkSelect _ selmode manual loop alslew holdtau => [byteOf selmode, byteOf manual, byteOf loop, 0] ++ be2 alslew ++ be2 holdtau
  | .clkStatus _ clear => [byteOf clear] ++ zeros 3
  | .clkAlign _ => []
  | .clkSteer _ freq => beWord freq
  | .clkOutSet _ word => beWord word
  | .twinFrame _ _ _ => []
  | .mirrorApply _ _ => []
  | .forwardedCommand _ _ _ => []
  | .refereeQuarter _ _ _ => []
  | .refereeWord _ _ => []
  | .twinWordSend _ _ => []
  | .refLost _ => []
  | .twinConfig _ word mask => beWord word ++ [byteOf mask] ++ zeros 3
  | .twinJoin _ => []
  | .twinSwitch _ force => [byteOf force] ++ zeros 3
  | .twinSwitchTimeout _ => []
  | .twinStatus _ clear => [byteOf clear] ++ zeros 3
  | .shard _ => []
  | .kilnRead _ count => be2 count ++ zeros 2
  | .kilnAck _ mask => be2 mask ++ zeros 2
  | .kilnAckRegister _ _ _ => []
  | .kilnClear _ mask => be2 mask ++ zeros 2
  | .activeClear _ _ _ => []
  | .kilnLog _ _ => []
  | .kilnInject _ src inst cls kind context dry => [byteOf src, byteOf inst, byteOf cls, byteOf kind] ++ beWord context ++ [byteOf dry] ++ zeros 3
  | .kilnLevelSet _ cls kind level => [byteOf cls, byteOf kind, byteOf level, 0]
  | .kilnStatus _ => []
  | .maskingWindowEnd _ => []
  | .dip _ _ => []
  | .dipEnd _ => []
  | .vkeepLow _ => []
  | .tjWarn _ _ => []
  | .tjCrit _ _ => []
  | .coldReset => []
  | .pinReset _ => []
  | .brownOut _ _ => []
  | .watchdogExpiry _ _ => []
  | .softReset _ => []
  | .resetRelease => []
  | .controlResetEnd _ => []
  | .unitResetEnd _ _ => []
  | .standbyEnter _ => [0] ++ zeros 3
  | .standbyLeave _ => [1] ++ zeros 3
  | .sysDormant _ confirm => be2 confirm.toNat ++ zeros 2
  | .dormantEntry _ => []
  | .keepWake => []
  | .fabricTransfer _ _ _ => []
  | .sysWdog _ _ _ => []
  | .sysRemap _ _ _ => []
  | .fabHbeat _ _ _ _ => []
  | .helperHang _ _ => []
  | .supervisorStart _ => []
  | .nvsGo _ _ _ => []
  | .updOpen _ target offset length => [byteOf target] ++ zeros 3 ++ be4 offset ++ be4 length
  | .updWrite _ session offset crc data => beWord session ++ be4 offset ++ be2 data.length ++ zeros 2 ++ beWord crc ++ data
  | .updWriteDone _ => []
  | .updClose _ session crc => beWord session ++ beWord crc
  | .updCloseDone _ => []
  | .updAbort _ session => beWord session
  | .sessionTimeout _ => []
  | .updActivate _ => []
  | .updActivateDone _ => []
  | .healthConfirm _ => []
  | .healthWindowEnd _ => []
  | .updStatus _ => []
  | .setWrite _ key data => be2 key ++ be2 data.length ++ data
  | .setRead _ key => be2 key ++ zeros 2
  | .sysBootSave _ => []
  | .sysBootSaveDone _ => []
  | .lossOfLock _ _ => []
  | .twinLaneLoss _ _ => []
  | .vkeepFall => []
  | .rootLock _ => []
  | .nvsLineWriteEnd _ => []
  | .tapReset _ => []

/-- The whole packet of a host command, with the flags PCRC of its request (R44 to R46). -/
def packetOf (r : Req) (i : Instr) : List Byte := makeItem (opcodeOf i) r.tag (if r.pcrc then 4 else 0) r.ch.val 0 (payloadOf i)

end Sys2Proof.Machine
end

