-- ==== Sys2Proof/Safety.lean ====
section
/-! DEFINITION. The words that statements use: when the engine runs and answers, what a command answers, what a reply, an accepted
handle and a staged write leave, and the forms that every step keeps. -/
namespace Sys2Proof.Machine

open Sys2Proof

/-! ## When commands act -/

/-- Out of reset, main rails up. -/
def Running (s : State) : Prop := s.pwr.phase = .run

/-- Host commands are executed: the supervisor runs, nothing is paused, and the ROM does not run alone (R61, R62, R385). -/
def Live (s : State) : Prop := commandsLive s = true ∧ getF s fUPD_STAT_ROMONLY = 0

/-- Commands that latch at a boundary are taken: not a standby's own, and not in Standby (R83, R352). -/
def Latches (r : Req) (s : State) : Prop := (getF s fTWIN_STAT_ROLE ≠ 2 ∨ r.ch = 3) ∧ inStandby s = false

/-- A handle is free (R52). -/
def HandleFree (r : Req) (s : State) : Prop := (chan s r.ch).handles.length < 64

/-! ## What a command answers -/

/-- A command answers a next state of which `p` holds. -/
def Yields (i : Instr) (s : State) (p : State → Prop) : Prop := ∃ t, exec i s = .next t ∧ p t

/-- What a command leaves as it was, whatever else it does. -/
def after (s t : State) : State := { t with pending := s.pending, fuses := s.fuses, mem := s.mem }

/-- The same for a command that may store to memory. -/
def afterMem (s t : State) : State := { t with pending := s.pending, fuses := s.fuses, mem := canonMem t.mem }

/-- A command has the effect `f`, from its cycle on, and stores to no memory. -/
def Ends (i : Instr) (c : Nat) (s : State) (f : State → State) : Prop := exec i s = .next (after s (f (begin_ c s)))

/-- A command has the effect `f`, from its cycle on. -/
def EndsMem (i : Instr) (c : Nat) (s : State) (f : State → State) : Prop := exec i s = .next (afterMem s (f (begin_ c s)))

/-! ## Replies, handles and staged writes -/

/-- The item of an immediate reply (R44, R47). -/
def replyItem (r : Req) (op status detail epoch : Nat) (result : List Byte) : List Byte :=
  makeItem op r.tag (if r.pcrc then 5 else 1) r.ch epoch ([byteOf status, byteOf detail, 0, 0] ++ result)

/-- The reply is on its way: at the end of the outbound queue of channel 0, after 4 zero bytes of that of channel 3 (log entry 27), or the
newest entry of a UDP channel's replay cache (R41, R55). -/
def Sent (r : Req) (op status detail : Nat) (result : List Byte) (s t : State) : Prop :=
  let b := replyItem r op status detail (chan s r.ch).epoch result
  (r.ch = 0 → (chan t 0).out = (chan s 0).out ++ [{ reply := true, bytes := b, handle := none }]) ∧
  (r.ch = 1 ∨ r.ch = 2 → (chan t r.ch).replay.getLast? = some { tag := r.tag, key := r.key, bytes := b }) ∧
  (r.ch = 3 → (chan t 3).out = (chan s 3).out ++ [{ reply := true, bytes := zeros 4 ++ b, handle := none }])

/-- OK with a result. -/
def Replied (r : Req) (op : Nat) (result : List Byte) (s t : State) : Prop := Sent r op stOK 0 result s t

/-- ACCEPTED: a handle is issued and open, and its operation runs (R50 to R52). -/
def Accepted (r : Req) (op : Nat) (kind : OpKind) (s t : State) : Prop :=
  Sent r op stACCEPTED 0 (beWord (nextHandle s r.ch)) s t ∧
  (chan t r.ch).handles = (chan s r.ch).handles ++
    [{ h := nextHandle s r.ch, opcode := op, tag := r.tag, gen := s.gen, stopped := false, done := false }] ∧
  t.ops = s.ops ++ [{ ch := r.ch, h := nextHandle s r.ch, kind := kind }]

/-- Writes wait for the boundary of R18. -/
def Staging (r : Req) (ws : List StagedWrite) (s t : State) : Prop :=
  t.staged = s.staged ++ ws.map (fun w => { due := dueOf r s, w := w })

/-- Two states agree on everything but the command channels, the wires, the MACs' queues and the LPI field of ETH_STAT. -/
def SameButReply (s t : State) : Prop :=
  t = { s with chans := t.chans, wire := t.wire, macs := t.macs, regs := t.regs } ∧
  ∀ f : Fld, f.key ≠ fETH_STAT_LPI.key → getF t f = getF s f

/-- Two states agree on everything but the command channels, the operations, the wires, the MACs' queues and the LPI field of ETH_STAT. -/
def SameButFinish (s t : State) : Prop :=
  t = { s with chans := t.chans, wire := t.wire, macs := t.macs, regs := t.regs, ops := t.ops } ∧
  ∀ f : Fld, f.key ≠ fETH_STAT_LPI.key → getF t f = getF s f

/-- A shard has entered its source's queue at the Kiln (R334, R337). -/
def Queued (src inst cls kind ctx : Nat) (t : State) : Prop :=
  ({ src := src, inst := inst, cls := cls, kind := kind, ctx := ctx } : Shard) ∈ t.kiln.waiting

/-- Fewer than 16 shards of a source wait (R337). -/
def Room (src : Nat) (s : State) : Prop := (s.kiln.waiting.filter (fun y => y.src == src)).length < 16

/-- No operation of this kind runs. -/
def Stopped (p : OpKind → Bool) (t : State) : Prop := t.ops.all (fun o => !p o.kind) = true

/-- Acknowledged classes (R343): UNACK and ESC of the classes of a mask are clear, those of the others and ACTIVE as they were. -/
def Acknowledged (m : Nat) (s t : State) : Prop :=
  getF t fKILN_STAT_ACTIVE = getF s fKILN_STAT_ACTIVE ∧
  ∀ k < 11, (m.testBit k = true → (getF t fKILN_STAT_UNACK).testBit k = false ∧ getF t (fKILN_CLS_ESC k) = 0) ∧
    (m.testBit k = false → (getF t fKILN_STAT_UNACK).testBit k = (getF s fKILN_STAT_UNACK).testBit k ∧
      getF t (fKILN_CLS_ESC k) = getF s (fKILN_CLS_ESC k))

/-- The engine is held in reset, with cause number `b` of SYS_RSTCAUSE alone set, and no channel, operation, oven, output or Kiln state
(R350, R351). -/
def HeldInReset (b : Nat) (t : State) : Prop :=
  t.pwr.phase = .held ∧ t.chans = [] ∧ t.ops = [] ∧ t.staged = [] ∧ t.oven = Bake.empty ∧ t.proof = Bake.empty ∧ t.commits = [] ∧
  t.outs = [] ∧ t.kiln = {} ∧ t.twin = {} ∧
  [fSYS_RSTCAUSE_COLD, fSYS_RSTCAUSE_PIN, fSYS_RSTCAUSE_BROWN, fSYS_RSTCAUSE_WDOG, fSYS_RSTCAUSE_SOFT, fSYS_RSTCAUSE_DORM].zipIdx.all
    (fun e => getF t e.1 == if e.2 = b then 1 else 0) = true

/-! ## What families of commands leave -/

/-- Every register field outside the named units (R372) is as it was. -/
def RegsKept (units : List Nat) (s t : State) : Prop := ∀ f : Fld, unitOfAddr (f.key / 32) ∉ units → getF t f = getF s f

/-- The Kiln has at most new shards waiting. -/
def OnlySends (s t : State) : Prop := t.kiln = { s.kiln with waiting := t.kiln.waiting }

/-- Commands that only answer, those with CLEAR 0 among them, and what the host does with completions. -/
def asks : Instr → Bool
  | .sysNop .. | .sysInfo .. | .sysResultRead .. | .sysComplAck .. | .diagEcho .. | .diagCounters .. | .bakeStatus .. | .bakeReport .. |
    .paramRead .. | .xpRead .. | .routeLatency .. | .delayRead .. | .dynRead .. | .portStatus _ _ 0 | .asrcRead .. | .bundleStatus .. |
    .stageStatus _ _ 0 | .stageSense .. | .protStatus _ _ 0 | .trunkStatus _ _ 0 | .aesStreamStatus .. | .ethStatus _ _ 0 |
    .clkStatus _ 0 | .twinStatus _ 0 | .kilnStatus .. | .updStatus .. | .setRead .. | .readStatus .. | .fragTimeout .. |
    .completionResend .. => true
  | _ => false

/-- Commands that stage writes for a boundary (R18). -/
def stages : Instr → Bool
  | .paramWrite .. | .bundleWrite .. | .xpSet .. | .routeSet .. | .delaySet .. | .dynSet .. | .portStart .. | .portStop .. |
    .portMute .. | .portUnmute .. | .stageRunRun .. | .stageRunArm .. | .stageRunOff .. | .stageRunClearLatch .. | .stageSet .. |
    .protSet .. | .aesStreamSet .. => true
  | _ => false

/-- Commands that begin an operation under a handle. -/
def starts : Instr → Bool
  | .diagRomCheck .. | .diagScrub .. | .bakeEnd .. | .bakeCommit .. | .trunkRange .. | .trunkMsgSend .. | .clkAlign .. | .twinJoin .. |
    .twinSwitch .. | .standbyEnter .. | .updClose .. => true
  | _ => false

/-- Events at the audio ports. -/
def portEvent : Instr → Bool
  | .portLost .. | .rateChange .. | .rateClassified .. | .asrcLock .. | .acquireTimeout .. | .portRateRepeat .. | .glitch .. |
    .zctoTimeout .. | .claimHoldExpiry .. | .clrclaim .. | .portUnderrun .. => true
  | _ => false

/-- Events at trays and cores. -/
def bakeEvent : Instr → Bool
  | .preFadeEnd .. | .fadeInEnd .. | .bundleCrossfadeEnd .. | .overrun .. => true
  | _ => false

/-- Events at stages and their protection. -/
def stageEvent : Instr → Bool
  | .returnFrame .. | .glLost .. | .bus .. | .fcDrift .. | .trainTimeout .. | .linkTestEnd .. | .prechargeTimeout .. |
    .prechargeCheckEnd .. | .softStartEnd .. | .retryStart .. | .retryClear .. | .measWindowEnd .. | .probeWindowEnd .. => true
  | _ => false

/-- Events on trunk and twin lanes. -/
def laneEvent : Instr → Bool
  | .cdrLock .. | .lossOfLock .. | .ctleSearchEnd .. | .capsResend .. | .rangeTimeout .. | .trunkLost .. | .trunkSlip .. |
    .hostMsgResend .. | .trunkHoldExpiry .. | .claimClearTimeout .. | .restart .. => true
  | _ => false

/-- Events at the MACs. -/
def macEvent : Instr → Bool
  | .aesPacketSend .. | .aesPacketLate .. | .pauseReceived .. | .pauseExpiry .. | .pauseSend .. | .ethLink .. | .lpiAssert .. => true
  | _ => false

/-- Events of the Clock Unit. -/
def clockEvent : Instr → Bool
  | .clockUpdate .. | .refLos .. | .ppsBad .. | .clockLocked .. | .unlock .. | .openTimeout .. | .alignDone .. | .rootUnlock .. |
    .rootLock .. => true
  | _ => false

/-- Events between a twin and its referee. -/
def refereeEvent : Instr → Bool
  | .twinWordSend .. | .refLost .. | .refereeQuarter .. => true
  | _ => false

/-- Events at the supplies, the sensors and the debug port. -/
def supplyEvent : Instr → Bool
  | .vkeepLow .. | .tjWarn .. | .tjCrit .. | .helperHang .. | .tapReset .. => true
  | _ => false

/-! ## Forms that every step keeps -/

/-- The memory of the control fabric's map stands in its canonical form. -/
def MemForm (s : State) : Prop := Memory.wf s.mem = true

/-- The commands that may store to the memory of the control fabric's map (R370). -/
def storesMem : Instr → Bool
  | .put .. | .udpDatagram .. | .regWrite .. | .regModify .. | .registerWrite .. | .batchBoundary .. | .bakeBegin .. |
    .bakeWrite .. | .bakeLoadFlash .. | .bakeLoadDone .. | .bankCopy .. | .bundleIssue .. | .fabricTransfer .. | .xpRampEnd .. |
    .delayCrossfadeEnd .. | .shard .. | .activeClear .. | .kilnClear .. | .kilnInject .. | .forwardedCommand .. | .saiFrame .. |
    .dipEnd .. | .watchdogExpiry .. | .standbyLeave .. | .dormantEntry .. | .thermalCopy .. | .nvsGo .. | .coldReset .. |
    .vkeepFall .. | .pinReset .. | .brownOut .. | .softReset .. | .resetRelease .. | .modulationPeriod .. |
    .controlResetEnd .. | .updActivateDone .. | .twinFrame .. | .mirrorApply .. | .supervisorStart .. | .updOpen .. |
    .updWrite .. | .updCloseDone .. | .updActivate .. | .healthConfirm .. | .setWrite .. | .sysBootSave .. => true
  | _ => false

end Sys2Proof.Machine
end

