-- ==== Sys2Proof/Certificates/Slice0/Obligations.lean ====
section
/-! DEFINITION. The statements for the provers: what the machine does at a step, the forms that every step keeps, the rules of the
specification that say what a command does, and for each family of commands what a command that takes effect leaves. A statement
whose docstring names no rule R… is the model's own. -/

open Sys2Proof Sys2Proof.Machine

/-! ## The step and what every command keeps -/

/-- A step takes the command at the front of the queue and has its effect with the rest of the queue. -/
def Obligations.StepRunsFrontCommand : Prop :=
  ∀ (i : Instr) (q : List Instr) (s : State), step { s with pending := i :: q } = exec i { s with pending := q }

/-- On an empty queue the block idles (the model's choice, log entry 28). -/
def Obligations.StepIdlesOnEmptyQueue : Prop :=
  ∀ s : State, s.pending = [] → step s = .next s

/-- No command stops the machine: every one answers a next state; and none changes the queue behind it or the fuses (R3). -/
def Obligations.CommandsAnswerAndKeepQueue : Prop :=
  (∀ (i : Instr) (s : State), ∃ t, exec i s = .next t) ∧
  (∀ (i : Instr) (s t : State), exec i s = .next t → t.pending = s.pending ∧ t.fuses = s.fuses)

/-- A step keeps the canonical form of memory. -/
def Obligations.StepKeepsMemoryForm : Prop :=
  ∀ s t : State, MemForm s → step s = .next t → MemForm t

/-- Memory after reset stands in its canonical form. -/
def Obligations.ResetMemoryIsCanonical : Prop :=
  MemForm State.reset

/-- A command outside `storesMem` leaves every byte of memory. -/
def Obligations.OnlyStoringCommandsChangeMemory : Prop :=
  ∀ (i : Instr) (s t : State), storesMem i = false → exec i s = .next t → ∀ a, memByte t a = memByte s a

/-- A check that fails sets the reply, and the command has no other effect (R49). -/
def Obligations.FirstFailingCheckReplies : Prop :=
  ∀ (r : Req) (op : Nat) (gs : List Guard) (k : State → State) (g : Guard) (s : State), Live s →
    gs.find? (fun x => x.bad) = some g →
    command r op gs k s = reply r op g.status g.detail [] s ∧
    Sent r op g.status g.detail [] s (command r op gs k s)

/-! ## Packets -/

/-- Every well-formed host command is what the engine reads from its own payload: no bit of it is dropped (R43 to R46, R416). -/
def Obligations.PacketsDecode : Prop :=
  ∀ (r : Req) (i : Instr), i.wf = true → requestOf i = some r → parseAll r (opcodeOf i) (payloadOf i) = .cmd i

/-- A packet that passes the checks of R49 is its command: PUT of the packet of a well-formed host command of channel 0 has that
command's effect (R34, R36, R44, R46). -/
def Obligations.PacketRunsCommand : Prop :=
  ∀ (c : Nat) (r : Req) (i : Instr) (s : State), Live s → rdyIn s = true →
    i.wf = true → requestOf i = some r → r.c = c → r.ch = 0 → r.target = none → r.key = BitVec.ofNat 16 (retryKey (packetOf r i)) →
    EndsMem (.put c (packetOf r i)) c s (doCommand i)

/-- A packet whose header CRC fails is answered BAD_CRC, DETAIL 1, and counted in HCRC, and has no other effect (R49, R64). -/
def Obligations.BadHeaderCrcReplies : Prop :=
  ∀ (c : Nat) (b : List Byte) (s : State), Running s → rdyIn s = true → n2 b 0 = 0xA5C3 → 16 ≤ b.length →
    n2 b 14 ≠ crc16 (b.take 14) →
    EndsMem (.put c b) c s (fun u => headReply (reqOf c 0 none b) b stBADCRC 1 false (countHcrc 0 u)) ∧
    ∃ t, exec (.put c b) s = .next t ∧
      (chan t 0).out = (chan s 0).out ++
        [⟨true, makeItem (n2 b 2) (h2 b 4) (if (n1 b 8).testBit 2 then 5 else 1) (n1 b 9) (chan s 0).epoch [6, 1, 0, 0], none⟩] ∧
      t.ops = s.ops ∧ t.staged = s.staged

/-! ## Transport and replies (chapter 02) -/

/-- The host's side of channel 0: RDY_IN is 1 only with a free place among the 4 packets of the input buffer and fewer than 16 immediate replies unread; a
PUT while RDY_IN is 0 is ignored and counted in DROP (R36). A GET removes the head item once every byte of it has been clocked out; one that
ends earlier leaves it, and one on an empty queue returns zeros (R37). Any other instruction byte is counted in SYNC, and READ_STATUS shifts
out the status byte (R34, R35). -/
def Obligations.QspiFramesComplete : Prop :=
  ((∀ s : State, rdyIn s = true → (chan s 0).inBuf.length < 4 ∧ ((chan s 0).out.filter (fun x => x.reply)).length < 16) ∧
   (∀ (op fl ch ep : Nat) (tag : Half) (p : List Byte),
     (makeItem op tag fl ch ep p).length = 16 + p.length + (if fl.testBit 2 then 4 else 0)) ∧
   (∀ (c : Nat) (b : List Byte) (s : State), Running s → rdyIn s = true → EndsMem (.put c b) c s (packet c 0 none b)) ∧
   (∀ (c : Nat) (b : List Byte) (s : State), Running s → rdyIn s = false →
     EndsMem (.put c b) c s (fun u => bump (fHOST_ERR_DROP 0) (setChan 0 { chan u 0 with dDrop := ((chan u 0).dDrop + 1) % 2 ^ 32 } u))) ∧
   (∀ (c n : Nat) (it : OutItem) (rest : List OutItem) (s : State), Running s → (chan s 0).out = it :: rest → it.bytes.length ≤ n →
     Yields (.get c (8 + 2 * n)) s (fun t => t.wire = [.qspi it.bytes] ∧ (chan t 0).out = rest ∧
       ∀ h, it.handle = some h → (chan t 0).handles = (chan s 0).handles.filter (fun x => !(x.h == h)))) ∧
   (∀ (c n : Nat) (s : State), Running s → (chan s 0).out = [] → Ends (.get c (8 + 2 * n)) c s (emit (.qspi (zeros n)))) ∧
   (∀ (c n : Nat) (it : OutItem) (rest : List OutItem) (s : State), Running s → (chan s 0).out = it :: rest → n < it.bytes.length →
     Ends (.get c (8 + 2 * n)) c s (emit (.qspi (it.bytes.take n)))) ∧
   (∀ (c : Nat) (i : Byte) (s : State), Running s → i ≠ 0x05 → i ≠ 0x32 → i ≠ 0x6B →
     Ends (.qspiBadInstruction c i) c s
       (fun u => bump (fHOST_ERR_SYNC 0) (setChan 0 { chan u 0 with dSync := ((chan u 0).dSync + 1) % 2 ^ 32 } u)))) ∧
  (∀ (c : Nat) (s : State), Running s → Ends (.readStatus c) c s (emit (.qspi [statusByte s])))

/-- Datagrams of the UDP channels: a whole one to a command port is a packet of its channel; one in too many fragments or too long,
and one whose fragments do not all come in time, is discarded and counted; a completion not acknowledged is sent again unchanged,
its interval doubled up to 1.28 s (R39 to R42). -/
def Obligations.DatagramsComplete : Prop :=
  (∀ (c : Nat) (d : Datagram) (ch : Nat) (s : State), Running s → udpChan s d.mac d.port.toNat = some ch → d.frags ≤ 4 →
    d.bytes.length ≤ 4160 → 2 ≤ d.bytes.length → n2 d.bytes 0 = 0xA5C3 →
    s.kiln.ctlReset = false → getF s fHOST_STAT_PAUSED = 0 → s.pwr.sup = true →
    EndsMem (.udpDatagram c d) c s (fun u =>
      packet c (chanFin ch) none d.bytes (notePeer ch d (takeFrames d.mac d.port.toNat (max 1 d.frags) u)))) ∧
  (∀ (c : Nat) (d : Datagram) (ch : Nat) (s : State), Running s → udpChan s d.mac d.port.toNat = some ch →
    4 < d.frags ∨ 4160 < d.bytes.length →
    EndsMem (.udpDatagram c d) c s (fun u => countFrag ch (takeFrames d.mac d.port.toNat (max 1 d.frags) u))) ∧
  (∀ (c : Nat) (m : Fin 2) (p : Half) (ch : Nat) (s : State), Running s → udpChan s m p.toNat = some ch →
    Yields (.fragTimeout c m p) s (fun t => (chan t ch).dFrag = ((chan s ch).dFrag + 1) % 2 ^ 32)) ∧
  (∀ (c : Nat) (ch : Fin 4) (seq : Half) (x : Unacked) (s : State), Running s →
    (chan s ch).unacked.find? (fun y => y.seq == seq.toNat) = some x →
    Ends (.completionResend c ch seq) c s (fun u => sendUdp ch 1 x.bytes
      (setChan ch { chan u ch with
        dResend := ((chan u ch).dResend + 1) % 2 ^ 32,
        unacked := (chan u ch).unacked.map (fun y => if y.seq = seq.toNat then { y with wait := min 1280 (2 * y.wait) } else y) } u)))

/-- Handles are numbered by their channel's counter: it is 1 after reset and after each reset that takes the whole engine, goes up by
one with each handle issued, and wraps from 0x3FFF_FFFF to 1; no handle is 0 (R51). -/
def Obligations.HandlesCount : Prop :=
  (∀ (ch : Fin 4) (s : State), (nextHandle s ch).toNat / 2 ^ 30 = ch ∧ (nextHandle s ch).toNat % 2 ^ 30 = issueCount s ch ∧
    1 ≤ issueCount s ch ∧ issueCount s ch ≤ 0x3FFFFFFF ∧ nextHandle s ch ≠ 0) ∧
  (∀ (r : Req) (op : Nat) (k : OpKind) (s : State),
    issueCount (accept r op k s) r.ch = if issueCount s r.ch = 0x3FFFFFFF then 1 else issueCount s r.ch + 1) ∧
  (∀ ch : Fin 4, issueCount State.reset ch = 1) ∧
  (∀ (i : Instr) (s : State),
    i = .coldReset ∨ (∃ c, i = .pinReset c ∧ poweredUp s = true) ∨ (∃ c, i = .watchdogExpiry c true ∧ Running s) ∨
      (∃ c, i = .softReset c ∧ Running s ∧ s.pwr.softDue = true) →
    Yields i s (fun t => ∀ ch : Fin 4, issueCount t ch = 1))

/-- A handle is open from its ACCEPTED reply; a completion put into the outbound queue leaves it open, and its delivery, by a full GET on
QSPI or by an acknowledgement on UDP, closes it. While 64 are open on a channel a handled command is answered BUSY and issues none
(R52). -/
def Obligations.HandlesOpenAndClose : Prop :=
  (∀ (r : Req) (op : Nat) (k : OpKind) (s : State),
    (chan (accept r op k s) r.ch).handles.any (fun x => x.h == nextHandle s r.ch) = true) ∧
  (∀ (ch : Nat) (k : Compl) (s : State), (chan (deliver ch k s) ch).handles = (chan s ch).handles) ∧
  (∀ (c n : Nat) (it : OutItem) (rest : List OutItem) (h : Word) (s : State), Running s → (chan s 0).out = it :: rest → it.handle = some h →
    (it.bytes.length ≤ n → Yields (.get c (8 + 2 * n)) s (fun t => (chan t 0).handles.any (fun x => x.h == h) = false)) ∧
    (n < it.bytes.length → Yields (.get c (8 + 2 * n)) s (fun t => (chan t 0).handles = (chan s 0).handles))) ∧
  (∀ (r : Req) (h : Word) (s : State), Live s → r.ch = 1 ∨ r.ch = 2 → (chan s r.ch).unacked.any (fun u => u.h == h) = true →
    Yields (.sysComplAck r [h]) s (fun t => (chan t r.ch).handles.any (fun x => x.h == h) = false)) ∧
  (∀ (r : Req) (s : State), Live s → 64 ≤ (chan s r.ch).handles.length →
    (∀ (k : Nat) (w v : Word) (b : List Byte) (i : Instr) (op : Nat),
      (i, op) ∈ [(Instr.diagRomCheck r, 0x0C02), (.diagScrub r k, 0x0C03), (.bakeEnd r, 0x0202), (.bakeCommit r w v, 0x0204),
        (.trunkRange r k, 0x0703), (.trunkMsgSend r k b, 0x0704), (.clkAlign r, 0x0803), (.standbyEnter r, 0x0007), (.updClose r w v, 0x0B02)] →
      Ends i r.c s (reply r op stBUSY 0 [])) ∧
    (∀ (o : Nat) (w v : Word) (b : List Byte) (i : Instr) (op : Nat),
      (i, op) ∈ [(Instr.bakeLoadFlash r o, 0x0203), (.standbyLeave r, 0x0007), (.updWrite r w o v b, 0x0B01), (.updActivate r, 0x0B04),
        (.sysBootSave r, 0x0009)] →
      EndsMem i r.c s (reply r op stBUSY 0 [])) ∧
    (hasMod s = true → ∀ m : Nat, Ends (.stageTrain r m) r.c s (reply r 0x0600 stBUSY 0 [])) ∧
    (hasProt s = true → ∀ o k : Nat, Ends (.protSweep r o) r.c s (reply r 0x0612 stBUSY 0 []) ∧
      Ends (.protCal r o k) r.c s (reply r 0x0613 stBUSY 0 [])) ∧
    (hasTwin s = true → ∀ k : Nat, Ends (.twinJoin r) r.c s (reply r 0x0901 stBUSY 0 []) ∧
      Ends (.twinSwitch r k) r.c s (reply r 0x0902 stBUSY 0 [])))

/-- A completion on QSPI is an item with COMPL and PCRC set that carries the completion record: the handle, its status, PRE for a handle
of an earlier epoch and RES for a stored result, the channel's SEQ, the batch in which the operation finished, the result's length and
its first 16 bytes; a longer result is stored whole (R53 to R55). -/
def Obligations.CompletionRecordLeaves : Prop :=
  (∀ (k : Compl) (x : HandleRec) (s : State), (chan s 0).handles.find? (fun y => y.h == k.h) = some x →
    (chan (deliver 0 k s) 0).out = (chan s 0).out ++ [⟨false, makeItem x.opcode x.tag 6 0 (chan s 0).epoch
      (beWord k.h ++ [byteOf k.status, byteOf ((if x.gen < s.gen then 1 else 0) + (if 16 < k.result.length then 2 else 0))] ++
        be2 (chan s 0).seq ++ beWord k.batch ++ be4 k.result.length ++ (k.result ++ zeros 16).take 16), some k.h⟩] ∧
    (chan (deliver 0 k s) 0).seq = (if (chan s 0).seq = 0xFFFF then 1 else (chan s 0).seq + 1) ∧
    (16 < k.result.length → (chan (deliver 0 k s) 0).results = (chan s 0).results ++ [⟨k.h, (chan s 0).seq, k.result, 64⟩])) ∧
  (∀ (ch : Nat) (h : Word) (st : Nat) (res : List Byte) (s : State), s.kiln.ctlReset = true →
    (chan s ch).handles.any (fun x => x.h == h && !x.done) = true →
    (chan (finish ch h st res s) ch).held = (chan s ch).held ++ [{ h := h, status := st, batch := batch s, result := res }])

/-! ## System, diagnostic and register commands -/

/-- The system and diagnostic commands (R42, R65): the queries reply what their cards list; SYS_ABORT of an open handle replies and stops its
operation; SYS_COMPL_ACK acknowledges the completions it names; the checks of the ROM and of ECC memory issue a handle each, and their ends
complete it with its result. -/
def Obligations.SystemCommandsComplete : Prop :=
  (∀ (r : Req) (s : State), Live s →
     Ends (.sysNop r) r.c s (replyOK r 0x0000 []) ∧
     Ends (.sysInfo r) r.c s (fun u => replyOK r 0x0001
       (be4 (peekReg u rSYS_ID) ++ be4 (peekReg u rSYS_CAPS) ++ be4 (peekReg u rSYS_RSTCAUSE) ++ be4 (peekReg u rSYS_ROMVER) ++
         be4 (peekReg u rSYS_OVLVER) ++ be4 (peekReg u rSYS_BATCH) ++ [byteOf (chan s r.ch).epoch, 0, 0, 0]) u) ∧
     (∀ (h : Word) (o n : Nat) (e : StoredResult), (chan s r.ch).results.find? (fun x => x.h == h) = some e →
       o ≤ e.bytes.length → n ≤ 4092 → o + n ≤ e.bytes.length →
       Ends (.sysResultRead r h o n) r.c s (replyOK r 0x0006 (sub e.bytes o n))) ∧
     (∀ b : List Byte, Ends (.diagEcho r b) r.c s (replyOK r 0x0C00 b)) ∧
     (∀ k : Nat, Ends (.diagCounters r k) r.c s (fun u =>
       let x := chan s r.ch
       replyOK r 0x0C01 (be4 x.dHcrc ++ be4 x.dLen ++ be4 x.dDrop ++ be4 x.dSync ++ be4 x.dFrag ++ be4 x.dResend)
         (if 1 ≤ k then setChan r.ch { x with dHcrc := 0, dLen := 0, dDrop := 0, dSync := 0, dFrag := 0, dResend := 0 } u else u)))) ∧
  (∀ (r : Req) (s : State), Live s →
     (∀ (h : Word) (o : Op), (chan s r.ch).handles.any (fun x => x.h == h) = true →
       s.ops.find? (fun x => x.ch == r.ch.val && x.h == h) = some o →
       Ends (.sysAbort r h) r.c s (fun u => abortOp o (replyOK r 0x0004 [] u))) ∧
     (∀ h : Word, (chan s r.ch).handles.any (fun x => x.h == h) = true →
       s.ops.find? (fun x => x.ch == r.ch.val && x.h == h) = none →
       Ends (.sysAbort r h) r.c s (replyOK r 0x0004 [])) ∧
     (∀ hs : List Word, Ends (.sysComplAck r hs) r.c s (fun u => replyOK r 0x0005 [] (foldState (acknowledgeHandle r.ch) hs u)))) ∧
  (∀ (o : Op) (s : State), o.kind = .updWrite ∨ o.kind = .romCheck ∨ o.kind = .bootSave →
     (abortOp o s).ops = s.ops.filter (fun x => !(x.h == o.h))) ∧
  ((∀ (r : Req) (s : State), Live s → HandleFree r s → Stopped isRomCheck s →
     Yields (.diagRomCheck r) s (Accepted r 0x0C02 .romCheck s)) ∧
   (∀ (r : Req) (k : Nat) (s : State), Live s → HandleFree r s → Stopped (isScrubOf (min k 2)) s →
     Yields (.diagScrub r k) s (Accepted r 0x0C03 (.scrub (min k 2) (getF s fPWR_STAT_DAMPER == 1)) s)) ∧
   (∀ (c : Nat) (w : Word) (s : State), Running s → s.ops.any (fun o => isRomCheck o.kind) = true →
     Ends (.diagRomCheckDone c w) c s (fun u =>
       finishAll isRomCheck (if w = Config.romCrc then stOK else stFAILED) (beWord w ++ beWord Config.romCrc)
         (if w = Config.romCrc then u else send 24 0 9 3 0 u)) ∧
     Yields (.diagRomCheckDone c w) s (Stopped isRomCheck)) ∧
   (∀ (c k n m : Nat) (w : Word) (s : State), Running s → s.ops.any (fun o => scrubRuns k o.kind) = true →
     Ends (.diagScrubDone c k n m w) c s (fun u =>
       finishAll (scrubRuns k) (if m = 0 then stOK else stFAILED) (be4 n ++ be4 m ++ beWord (if m = 0 then 0xFFFFFFFF else w))
         (if m = 0 then (if k = 1 then bumpN fNVS_CNT_CORR n u else u)
          else send (if k = 0 then 22 else if k = 1 then 17 else 23) 0 1 8 w.toNat (if k = 1 then bumpN fNVS_CNT_CORR n u else u))) ∧
     Yields (.diagScrubDone c k n m w) s (Stopped (scrubRuns k))))

/-- Every register of a run that decodes is read in order, RC fields clearing; every one of a run that decodes is written in order, and the words
as applied come back; REG_MODIFY writes the merged word (R9, R56, R65). A word of the register region that is no register: the default target
answers, records the access and counts it, and the command replies FAILED with its address (R65, R366). -/
def Obligations.RegisterCommandsComplete : Prop :=
  ((∀ (r : Req) (a : Word) (n : Nat) (s : State), Live s → inRegs (a.toNat / 4 * 4) = true →
     (regSpan (a.toNat / 4 * 4) (clampN 1 256 n)).all (regDecodes s) = true →
     Ends (.regRead r a n) r.c s (fun u =>
       let w := (regSpan (a.toNat / 4 * 4) (clampN 1 256 n)).foldl readStep { s := u, out := [], fail := none }
       replyOK r 0x0100 w.out w.s)) ∧
   (∀ (r : Req) (a w : Word) (s : State), Live s → inRegs (a.toNat / 4 * 4) = true → regDecodes s (a.toNat / 4 * 4) = true →
     EndsMem (.regWrite r a [w]) r.c s (fun u =>
       let t := busWrite .sup (a.toNat / 4 * 4) w.toNat u
       replyOK r 0x0101 (be4 (appliedWord t (a.toNat / 4 * 4))) t)) ∧
   (∀ (r : Req) (a m v : Word) (s : State), Live s → inRegs (a.toNat / 4 * 4) = true → regDecodes s (a.toNat / 4 * 4) = true →
     EndsMem (.regModify r a m v) r.c s (fun u =>
       let old := readWord u (a.toNat / 4 * 4)
       let t := busWrite .sup (a.toNat / 4 * 4) ((BitVec.ofNat 32 old &&& ~~~m) ||| (v &&& m)).toNat (afterRead (a.toNat / 4 * 4) u)
       replyOK r 0x0102 (be4 old ++ be4 (appliedWord t (a.toNat / 4 * 4))) t)) ∧
   (∀ (c : Nat) (m : Master) (a v : Word) (s : State), Running s → inRegs (a.toNat / 4 * 4) = true →
     regDecodes s (a.toNat / 4 * 4) = true → unitAbsent s (unitOfAddr (a.toNat / 4 * 4)) = false →
     EndsMem (.registerWrite c m a v) c s (writeReg m (a.toNat / 4 * 4) v.toNat))) ∧
  (∀ (r : Req) (a : Word) (s : State), Live s → inRegs (a.toNat / 4 * 4) = true → regDecodes s (a.toNat / 4 * 4) = false →
     Ends (.regRead r a 1) r.c s (fun u => reply r 0x0100 stFAILED 0 (be4 (a.toNat / 4 * 4)) (decodeError .sup (a.toNat / 4 * 4) false u)) ∧
     (∀ w : Word, EndsMem (.regWrite r a [w]) r.c s
       (fun u => reply r 0x0101 stFAILED 0 (be4 (a.toNat / 4 * 4)) (decodeError .sup (a.toNat / 4 * 4) true u))) ∧
     getF (decodeError .sup (a.toNat / 4 * 4) true s) fFAB_ERR_ADDR = a.toNat / 4 * 4)

/-- An absent unit's registers read 0 at every offset, whoever reads them, and writes to them are ignored; neither counts an error nor sends a
shard. The absent units are STAGE (11) and PROT (12) on -M, and TWIN (13) on -N (R7). -/
def Obligations.AbsentUnitsReadZero : Prop :=
  (∀ (u : Nat) (s : State), unitAbsent s u = true ↔ (s.fuses.variant = .m ∧ (u = 11 ∨ u = 12)) ∨ (s.fuses.variant = .n ∧ u = 13)) ∧
  (∀ (a v : Nat) (m : Master) (s : State), unitAbsent s (unitOfAddr a) = true →
    regDecodes s a = true ∧ readWord s a = 0 ∧ afterRead a s = s ∧ (inRegs a = true → busWrite m a v s = s)) ∧
  (∀ (r : Req) (a : Word) (s : State), Live s → inRegs (a.toNat / 4 * 4) = true → unitAbsent s (unitOfAddr (a.toNat / 4 * 4)) = true →
    Ends (.regRead r a 1) r.c s (replyOK r 0x0100 [0, 0, 0, 0]) ∧
    ∀ w : Word, EndsMem (.regWrite r a [w]) r.c s (replyOK r 0x0101 [0, 0, 0, 0]))

/-- How fields answer: a read clears exactly the fields of its register that are RC and changes nothing else of the register file; a
write stores in a field that is RW the value clamped to its Range, and takes from a field that is W1C the bits written 1; a
write-only field reads 0 (R9, R56). What a core adds in the very cycle of the access stays (R128). -/
def Obligations.RegisterFieldsAnswer : Prop :=
  (∀ (a : Nat) (s : State) (g : Fld), (∀ f ∈ fieldsOf a, (⟨a, f.lo, f.hi + 1 - f.lo⟩ : Fld).key ≠ g.key) →
    getF (clearRc a s) g = getF s g ∧ ∀ v, getF (writeFields a v s) g = getF s g) ∧
  (∀ (s : State) (a : Nat) (f : FieldRow), f.acc = .wo → showField s a f = 0) ∧
  (∀ (a v : Nat) (f : FieldRow) (s : State), f ∈ fieldsOf a → (fieldsOf a).Pairwise (fun x y => x.lo ≠ y.lo) →
    (f.acc = .rc → getF (clearRc a s) ⟨a, f.lo, f.hi + 1 - f.lo⟩ =
      min (freshCount s ⟨a, f.lo, f.hi + 1 - f.lo⟩) (getF s ⟨a, f.lo, f.hi + 1 - f.lo⟩) % 2 ^ (f.hi + 1 - f.lo)) ∧
    (f.acc = .rw → getF (writeFields a v s) ⟨a, f.lo, f.hi + 1 - f.lo⟩ = clampField f (bits v f.hi f.lo) % 2 ^ (f.hi + 1 - f.lo)) ∧
    (f.acc = .w1c → freshCount s ⟨a, f.lo, f.hi + 1 - f.lo⟩ = 0 → getF (writeFields a v s) ⟨a, f.lo, f.hi + 1 - f.lo⟩ =
      (getF s ⟨a, f.lo, f.hi + 1 - f.lo⟩ - (getF s ⟨a, f.lo, f.hi + 1 - f.lo⟩ &&& bits v f.hi f.lo)) % 2 ^ (f.hi + 1 - f.lo)) ∧
    (f.acc = .w1c → freshCount s ⟨a, f.lo, f.hi + 1 - f.lo⟩ ≠ 0 →
      getF (writeFields a v s) ⟨a, f.lo, f.hi + 1 - f.lo⟩ = getF s ⟨a, f.lo, f.hi + 1 - f.lo⟩))

/-! ## Baking and the live commands (chapters 01, 03) -/

/-- The proof is written: BAKE_BEGIN empties it and takes its size, BAKE_WRITE stores its bytes and leaves every other byte of memory, BAKE_END and
BAKE_LOAD_FLASH start its check under a handle, and the end of the check is the verdict on its bytes (R66 to R70, R93). BAKE_COMMIT of a valid
proof issues a handle and waits for its boundary; BAKE_STATUS and BAKE_REPORT answer (R76, R93). -/
def Obligations.BakeCommandsComplete : Prop :=
  ((∀ (r : Req) (n : Nat) (s : State), Live s → s.commits = [] → proofState s ≠ proofVERIFYING →
     EndsMem (.bakeBegin r n) r.c s (fun u =>
       replyOK r 0x0200 [] (setProofState proofWRITING { (emptyProof u) with proofTotal := clampN 64 8388608 n }))) ∧
   (∀ (r : Req) (o : Nat) (crc : Word) (d : List Byte) (s : State), Live s → proofState s = proofWRITING →
     crc32 d = crc.toNat → o + d.length ≤ s.proofTotal → MemForm s →
     Yields (.bakeWrite r o crc d) s (fun t => Replied r 0x0201 [] s t ∧ memBytes t (proofBase + o) d.length = d ∧
       (∀ a, a < proofBase + o ∨ proofBase + o + d.length ≤ a → memByte t a = memByte s a))) ∧
   (∀ (r : Req) (s : State), Live s → HandleFree r s → proofState s = proofWRITING →
     Ends (.bakeEnd r) r.c s (fun u => accept r 0x0202 (.bakeLoad none) (setProofState proofVERIFYING u))) ∧
   (∀ (r : Req) (o : Nat) (s : State), Live s → HandleFree r s → s.commits = [] → proofState s ≠ proofVERIFYING →
     EndsMem (.bakeLoadFlash r o) r.c s (fun u =>
       accept r 0x0203 (.bakeLoad (some (o / 4 * 4))) (setProofState proofVERIFYING (emptyProof u)))) ∧
   (∀ (c : Nat) (o : Op) (s : State), Running s → proofState s = proofVERIFYING → s.ops.find? (fun x => isBakeLoad x.kind) = some o →
     EndsMem (.bakeLoadDone c) c s (loadDone o))) ∧
  ((∀ (r : Req) (m target : Word) (s : State), Live s → Latches r s → HandleFree r s → proofState s = proofVALID →
     m.toNat &&& trayMask s.proof ≠ 0 → commitAllowed s (m.toNat &&& trayMask s.proof) = true →
     s.commits.foldl (fun k x => k ||| commitTrays s x.mask) 0 &&& commitTrays s (m.toNat &&& trayMask s.proof) = 0 →
     fadeMask s &&& commitTrays s (m.toNat &&& trayMask s.proof) = 0 → targetTooNear s target = false → joined s = false →
     Yields (.bakeCommit r m target) s (fun t => Accepted r 0x0204 .commit s t ∧ getF t fBAKE_STAT_PENDING = 1 ∧
       t.commits = s.commits ++ [⟨r.ch, nextHandle s r.ch, m.toNat &&& trayMask s.proof, commitStart r target s, none, []⟩])) ∧
   (∀ (r : Req) (s : State), Live s →
     Ends (.bakeStatus r) r.c s (fun u => replyOK r 0x0205 (be4 (peekReg u rBAKE_STAT) ++ be4 (peekReg u rBAKE_OVEN_ID) ++
       be4 (peekReg u rBAKE_PROOF_ID) ++ be4 (peekReg u rBAKE_LIVE) ++ be4 (peekReg u rBAKE_FADEMASK) ++ be4 (peekReg u rBAKE_MUTEMASK)) u)) ∧
   (∀ (r : Req) (i n : Nat) (s : State), Live s → ovenEmpty s = false →
     Ends (.bakeReport r i n) r.c s (replyOK r 0x0206
       (((s.oven.report.drop (min i (s.oven.report.length - 1))).take (clampN 1 255 n)).flatMap reportBytes))))

/-- PARAM_WRITE stages its entries with the values clamped to their ranges and replies them; PARAM_READ answers the target, and the
value and the samples left of the ramp at its cycle; BUNDLE_WRITE stages a set every section of which is good (R79, R83, R85, R86,
R93; what a read-back shows within a batch is log entry 3). -/
def Obligations.LiveWritesComplete : Prop :=
  (∀ (r : Req) (es : List ParamEntry) (vs : List ParamEntry) (s : State), Live s → Latches r s →
    (∀ e ∈ es, (paramDef s.oven e.id).isSome = true ∧ fpIsNaN e.value = false) →
    vs = es.map (fun e => match paramDef s.oven e.id with
      | some (_, d) => { e with value := clampParam d e.value, ramp := clampHi 1024 e.ramp }
      | none => e) →
    Ends (.paramWrite r es) r.c s (fun u => replyOK r 0x0210 (beWords (vs.map (·.value)))
      (stage r 0x0210 (be2 vs.length ++ [0, 0] ++ vs.flatMap (fun e => be2 e.id ++ be2 e.ramp ++ beWord e.value))
        (vs.map (fun e => .param e.id e.ramp e.value)) u))) ∧
  (∀ (r : Req) (id : Nat) (p : ParamSt) (s : State), Live s → (paramDef s.oven id).isSome = true → param s id = some p →
    Ends (.paramRead r id) r.c s (replyOK r 0x0211
      (beWord (paramTarget s id) ++ beWord (rampShown s r.c p.ramp).1 ++ be2 (rampShown s r.c p.ramp).2 ++ [0, 0]))) ∧
  (∀ (r : Req) (id n l : Nat) (ws : List Word) (t : TrayDef) (d : BundleDef) (s : State), Live s → Latches r s →
    bundleDef s.oven id = some (t, d) → d.sections = n → (sectionsOf ws n).all sectionGood = true →
    Ends (.bundleWrite r id n l ws) r.c s (fun u => replyOK r 0x0212 []
      (stage r 0x0212 (be2 id ++ [byteOf n, 0] ++ be2 (clampN 1 1024 l) ++ [0, 0] ++ beWords ws) [.bundle id (clampN 1 1024 l) ws] u)))

/-- A section is refused unless its poles lie inside the unit circle, |a2| < 1 and |a1| < 1 + a2 on exact values (words that are no numbers
are refused too, the model's reading, log entry 29). A bundle with a refused section is DENIED, DETAIL 7, with the index of the first one,
and counted; no section of it changes (R86, R87). -/
def Obligations.BadBundleIsDenied : Prop :=
  (∀ b0 b1 b2 a1 a2 : Word, (∀ w ∈ [b0, b1, b2, a1, a2], fpIsE255 w = false) →
    sectionGood [b0, b1, b2, a1, a2] = ((if (fpVal a2).m < 0 then (fpVal a2).neg else fpVal a2).lt ⟨1, 0⟩ &&
      (if (fpVal a1).m < 0 then (fpVal a1).neg else fpVal a1).lt (Dy.add ⟨1, 0⟩ (fpVal a2)))) ∧
  (∀ (r : Req) (id n l i : Nat) (ws : List Word) (t : TrayDef) (d : BundleDef) (s : State), Live s → Latches r s →
    bundleDef s.oven id = some (t, d) → d.sections = n → (sectionsOf ws n).findIdx? (fun c => !sectionGood c) = some i →
    Ends (.bundleWrite r id n l ws) r.c s (fun u => reply r 0x0212 stDENIED 7 [byteOf i, 0, 0, 0] (bump fBAKE_CNT_BUNDLE u)) ∧
    Yields (.bundleWrite r id n l ws) s (fun t => t.bundles = s.bundles ∧ t.staged = s.staged))

/-- The ends of fades: a pre-fade of a commit with at most a batch left has no sample left; a tray's fade-in ends; a bundle's
crossfade ends in its new set (R77, R78, R86, R87). -/
def Obligations.FadesEnd : Prop :=
  (∀ (c : Nat) (x : Commit) (k : Nat) (s : State), Running s → x ∈ s.commits → x.fade = some k → k ≤ 8 →
    Yields (.preFadeEnd c) s (fun t => { x with fade := some 0 } ∈ t.commits ∧ t.commits.length = s.commits.length)) ∧
  (∀ (c : Nat) (n : Fin 32) (s : State), Running s → 0 < (tray s n).fadeIn → (tray s n).fadeIn ≤ 8 →
    Yields (.fadeInEnd c n) s (fun t => tray t n = { tray s n with fadeIn := 0 })) ∧
  (∀ (c id : Nat) (b : BundleSt) (x : List Word) (o : TrayDef) (d : BundleDef) (s : State), Running s →
    bundleDef s.oven id = some (o, d) → bundle s id = some b → b.next = some x → b.len ≤ b.pos + 8 →
    Yields (.bundleCrossfadeEnd c id) s (fun t => bundle t id = some { b with cur := x, next := none, len := 0, pos := 0 }))

/-! ## Batches and DSP cores (chapters 01, 04) -/

/-- BATCH_BOUNDARY ends the batch that runs and begins the next, in the order of chapter 01; of the staged writes that name one setting the last
counts, and of a port's starts and stops the last (R12 to R20, R81, R167). An issued bundle of a core that has
cycles left executes at the core's own cycle, after the fixed units of the bake have come up to it; a memory error that is corrected counts, one
that is not is R99's (R89, R96, R99). A core that has not ended its scheduled work by its deadline is halted and its tray muted (R89, R90). -/
def Obligations.BatchesAndBundlesComplete : Prop :=
  ((∀ s : State, Running s → EndsMem .batchBoundary 0 s (fun u =>
     let closed := stepTxFade (standbyBoundary (countBatch (closeMirror (endBatch u))))
     let latched := latchStaged (lengthOrder (commitOrder closed))
     let begun := beginBatch (outputsBoundary latched)
     heartbeatBoundary (updateBoundary (tickOrder (sendTrunks (trunkDeliver (batch begun) begun)))))) ∧
   (∀ (l m : List StagedWrite) (w : StagedWrite), (stagedPlace w).isSome = true → (∀ v ∈ m, stagedPlace v ≠ stagedPlace w) →
     (lastOnly (l ++ w :: m)).filter (fun v => stagedPlace v == stagedPlace w) = [w]) ∧
   (∀ (l m : List StagedWrite) (n a k x : Nat) (startOrStop : StagedWrite → Bool),
     startOrStop = (fun v => match v with
       | .gate p b _ _ => p == n && decide (b ≤ 1)
       | _ => false) →
     a ≤ 1 → (∀ v ∈ m, gateNames v n = 0 ∧ startOrStop v = false) →
     (lastOnly (l ++ .gate n a k x :: m)).filter startOrStop = [.gate n a k x])) ∧
  (∀ (n : Fin 128) (s u : State), Running s → u = runFixedTo (core_ s n).cyc (begin_ (core_ s n).cyc s) →
     clocksRun u = true → (core_ u n).ctx = .sched ∨ (core_ u n).ctx = .back → (core_ u n).cyc < 102400 →
     (∀ t d, coreDef u.oven n = some (t, d) → scheduleOpen (core_ u n) = true → (core_ u n).cyc ≤ d.deadline) →
     EndsMem (.bundleIssue n .clean) (core_ s n).cyc s (fun x => issueBundle n (runFixedTo (core_ s n).cyc x)) ∧
     EndsMem (.bundleIssue n .corrected) (core_ s n).cyc s (fun x =>
       let y := issueBundle n (runFixedTo (core_ s n).cyc x)
       bump (fCORE_CNT_CORR n) (noteFresh (fCORE_CNT_CORR n) 1 y)) ∧
     EndsMem (.bundleIssue n .uncorrectable) (core_ s n).cyc s (fun x => uncorrectable n (runFixedTo (core_ s n).cyc x)) ∧
     Yields (.bundleIssue n .uncorrectable) s (fun t => (core_ t n).ctx = .halted ∧ getF t (fCORE_FLAGS_UECC n) = 1) ∧
     ((core_ u n).ctx = .sched → bundleAt u n (core_ u n).pc = 0 → (core_ u n).branch = none → (core_ u n).st % 32 < 4 →
       (core_ u n).flight = [] →
       Yields (.bundleIssue n .clean) s (fun t => (core_ t n).pc = ((core_ u n).pc + 1) % 2048 ∧
         (core_ t n).cyc = (core_ u n).cyc + 1 ∧ (core_ t n).ctx = .sched))) ∧
  (∀ (c : Nat) (n : Fin 128) (t : TrayDef) (d : CoreDef) (s : State), Running s → coreDef s.oven n = some (t, d) →
     scheduleOpen (core_ s n) = true → d.deadline ≤ c →
     Ends (.overrun c n) c s (overrunCore n) ∧
     Yields (.overrun c n) s (fun x => (core_ x n).ctx = .halted ∧ (core_ x n).bgOk = false ∧ (tray x t.num).hard = true ∧
       getF x fBAKE_STAT_MUTED = 1 ∧
       getF x fBAKE_CNT_OVERRUN = min (2 ^ fBAKE_CNT_OVERRUN.width - 1) (getF s fBAKE_CNT_OVERRUN + 1)))

/-- The step of a DSP core's pointer: without a buffer it wraps at 2^20; in a buffer it lands inside it, wherever it stood and however
large or negative the step (R116). -/
def Obligations.PointersStep : Prop :=
  (∀ (p b : Nat) (step : Int), postModify p b 0 step < 2 ^ 20 ∧ (2 : Int) ^ 20 ∣ (p : Int) + step - postModify p b 0 step) ∧
  (∀ (p b l : Nat) (step : Int), l ≠ 0 →
    ∃ d : Nat, d < l ∧ (l : Int) ∣ (p : Int) - b + step - d ∧ postModify p b l step = (b + d) % 2 ^ 20)

/-! ## Mix, delay and dynamics (chapter 05) -/

/-- XP_SET, ROUTE_SET and DELAY_SET stage their entries with values clamped and reply them, DYN_SET the instance's settings with the fields of MASK
replaced; the reads answer what stands (within a batch by the model's reading, log entry 3); the ends of a crosspoint's ramp to zero and of a
line's crossfade, once the units have come up to their cycle (R133 to R137, R143, R144, R147, R150 to R152). -/
def Obligations.MixCommandsComplete : Prop :=
  ((∀ (r : Req) (es vs : List XpEntry) (s : State), Live s → Latches r s →
     (∀ e ∈ es, (sourceDef s.oven e.src).isSome = true ∧ (destDef s.oven e.dst).isSome = true ∧ fpIsNaN e.gain = false) →
     vs = es.map (fun e => { e with gain := fpParam gainMin gainMax e.gain, ramp := clampHi 1024 e.ramp }) →
     overQuota s ((vs.filter (fun e => !fpIsZero e.gain)).map (fun e => xpKey e.src e.dst)) = false →
     Ends (.xpSet r es) r.c s (fun u => replyOK r 0x0300 (beWords (vs.map (·.gain)))
       (stage r 0x0300 (be2 vs.length ++ [0, 0] ++ vs.flatMap (fun e => be2 e.src ++ be2 e.dst ++ beWord e.gain ++ be2 e.ramp ++ [0, 0]))
         (vs.map (fun e => .xp e.src e.dst e.gain e.ramp)) u))) ∧
   (∀ (r : Req) (a b : Nat) (p : Ramp) (s : State), Live s → (sourceDef s.oven a).isSome = true → (destDef s.oven b).isSome = true →
     xp s a b = some p →
     Ends (.xpRead r a b) r.c s (replyOK r 0x0301
       (beWord (xpTarget s a b) ++ beWord (rampShown s r.c p).1 ++ be2 (rampShown s r.c p).2 ++ [0, 0]))) ∧
   (∀ (r : Req) (b l : Nat) (es vs : List RouteEntry) (old : List Staged) (s : State), Live s → Latches r s →
     (destDef s.oven b).isSome = true → (∀ e ∈ es, (sourceDef s.oven e.src).isSome = true ∧ fpIsNaN e.gain = false) →
     vs = es.map (fun e => { e with gain := fpParam gainMin gainMax e.gain }) →
     old = s.staged.filter (fun x => !(x.due == dueOf r s && (match x.w with
       | .route k _ _ => k == b
       | _ => false))) →
     overQuota { s with staged := old } ((vs.filter (fun e => !fpIsZero e.gain)).map (fun e => xpKey e.src b)) = false →
     Ends (.routeSet r b l es) r.c s (fun u => replyOK r 0x0302 (beWords (vs.map (·.gain)))
       (stage r 0x0302 (be2 b ++ be2 vs.length ++ be2 (clampHi 1024 l) ++ [0, 0] ++ vs.flatMap (fun e => be2 e.src ++ [0, 0] ++ beWord e.gain))
         [.route b (clampHi 1024 l) vs] { u with staged := old }))) ∧
   (∀ (r : Req) (es vs : List DelayEntry) (s : State), Live s → Latches r s →
     (∀ e ∈ es, (delayDef s.oven e.line).isSome = true) →
     vs = es.map (fun e => match delayDef s.oven e.line with
       | some (_, d) => { e with delay := min e.delay (delayMax d), ramp := clampHi 1024 e.ramp }
       | none => e) →
     Ends (.delaySet r es) r.c s (fun u => replyOK r 0x0304 (vs.flatMap (fun e => be4 e.delay))
       (stage r 0x0304 (be2 vs.length ++ [0, 0] ++ vs.flatMap (fun e => be2 e.line ++ be2 e.ramp ++ be4 e.delay))
         (vs.map (fun e => .delay e.line e.ramp e.delay)) u))) ∧
   (∀ (r : Req) (k : Nat) (t : TrayDef) (d : DelayDef) (x : DelaySt) (s : State), Live s → delayDef s.oven k = some (t, d) →
     delay s k = some x →
     Ends (.delayRead r k) r.c s (replyOK r 0x0305 (be4 (delayTarget s d) ++ be4 x.cur ++ be4 (delayMax d) ++
       [byteOf (if x.held.isSome then 2 else if x.next.isSome then 1 else 0), byteOf d.packing, 0, 0])))) ∧
  ((∀ (r : Req) (a b total : Nat) (e : ReportEntry) (f : Nat × Bool) (s : State), Live s → ovenEmpty s = false →
     hasMod s = true ∨ b < 0x8000 ∨ 0x800F < b →
     s.oven.report.find? (fun e => e.src == a && e.dst == b) = some e →
     f = (match delayDef s.oven e.line, delay s e.line with
       | some (_, d), some x => (delayFraction d (x.next.getD x.cur), x.next.isSome)
       | _, _ => (0, false)) →
     total = e.whole * 25600 + e.frac + f.1 + (if e.flags.testBit 0 then asrcFraction s a + asrcFraction s b else 0) +
       (if e.flags.testBit 1 then hopFraction s a else 0) →
     Ends (.routeLatency r a b) r.c s (replyOK r 0x0303 (be4 (total / 25600) ++ be2 (total % 25600) ++
       [byteOf e.passes, byteOf (b01 (e.flags.testBit 0) + 2 * b01 (e.flags.testBit 1) + 4 * b01 f.2)]))) ∧
   (∀ (c a b : Nat) (p : Ramp) (t : TrayDef) (d : DestDef) (s u : State), Running s → u = runFixedTo c (begin_ c s) →
     xp u a b = some p → destDef u.oven b = some (t, d) → rampLeft p ≤ 8 → fpIsZero p.target = true → t.windowEnd ≤ c →
     EndsMem (.xpRampEnd c a b) c s (fun x => refreshMix (setXp a b (some (steady p.target)) (runFixedTo c x)))) ∧
   (∀ (c k : Nat) (t : TrayDef) (d : DelayDef) (x : DelaySt) (s u : State), Running s → u = runFixedTo c (begin_ c s) →
     delayDef u.oven k = some (t, d) → delay u k = some x → x.next.isSome = true → x.len ≤ x.pos + rateSamples d.rate → d.cycle ≤ c →
     EndsMem (.delayCrossfadeEnd c k) c s (fun y => setDelay k (some (endDelayFade x)) (runFixedTo c y)))) ∧
  ((∀ (r : Req) (i m : Nat) (f : DynFields) (t : TrayDef) (d : DynDef) (s : State), Live s → Latches r s → dynAbsent s i = false →
     dynDef s.oven i = some (t, d) → anyNaN [f.thresh, f.ratio, f.knee, f.attack, f.release, f.makeup] = false →
     Ends (.dynSet r i m f) r.c s (fun u =>
       let o := applyFields d m f (dynTarget s d)
       replyOK r 0x0400 (dynBytes o) (stage r 0x0400 (be2 i ++ be2 m ++ dynBytes o) [.dyn i m o] u))) ∧
   (∀ (r : Req) (i : Nat) (t : TrayDef) (d : DynDef) (x : DynSt) (s : State), Live s → dynAbsent s i = false →
     dynDef s.oven i = some (t, d) → dyn s i = some x → isOutLim d = false →
     Ends (.dynRead r i) r.c s (replyOK r 0x0401
       (dynBytes (dynTarget s d) ++ beWord x.app ++ be2 d.look ++ [0, 0] ++ beWord 0x3F800000 ++ beWord 0x3F800000))) ∧
   (∀ (r : Req) (i : Nat) (t : TrayDef) (d : DynDef) (x : DynSt) (s : State), Live s → dynAbsent s i = false →
     dynDef s.oven i = some (t, d) → dyn s i = some x → isOutLim d = true →
     Ends (.dynRead r i) r.c s (replyOK r 0x0401
       (dynBytes (dynTarget s d) ++ beWord x.app ++ be2 d.look ++ [0, 0] ++ beWord (thermGain s (i - 0x800) s.pipeAt) ++
         beWord (headGain s (i - 0x800))))))

/-! ## Ports (chapter 06) -/

/-- PORT_START, PORT_STOP, PORT_MUTE and PORT_UNMUTE of a port in the oven stage the gate's action and reply it with the ramp clamped to 1,024; at
its boundary a start leaves OFF, a stop begins and keeps the state until its ramp has ended, and mutes show in PORT_MUTE; PORT_STATUS, ASRC_READ
and BUNDLE_STATUS answer, and CLEAR clears the port's counters (R155, R156, R162, R166, R167, R176). -/
def Obligations.PortCommandsComplete : Prop :=
  ((∀ (r : Req) (n l : Nat) (p : PortDef) (s : State), Live s → Latches r s → portDef s.oven (min n 7) = some p →
     Ends (.portStart r n l) r.c s (fun u => replyOK r 0x0500 ([0, 0] ++ be2 (min l 1024))
       (stage r 0x0500 ([byteOf (min n 7), 0] ++ be2 (min l 1024) ++ be4 0) [.gate (min n 7) 0 (min l 1024) (2 ^ 32 - 1)] u))) ∧
   (∀ (r : Req) (n l : Nat) (p : PortDef) (s : State), Live s → Latches r s → portDef s.oven (min n 7) = some p →
     Ends (.portStop r n l) r.c s (fun u => replyOK r 0x0500 ([1, 0] ++ be2 (min l 1024))
       (stage r 0x0500 ([byteOf (min n 7), 1] ++ be2 (min l 1024) ++ be4 0) [.gate (min n 7) 1 (min l 1024) (2 ^ 32 - 1)] u))) ∧
   (∀ (r : Req) (n l k : Nat) (m : Word) (p : PortDef) (s : State), Live s → Latches r s → portDef s.oven (min n 7) = some p →
     k = m.toNat % 2 ^ p.chans.length →
     Ends (.portMute r n l m) r.c s (fun u => replyOK r 0x0500 ([2, 0] ++ be2 (min l 1024))
       (stage r 0x0500 ([byteOf (min n 7), 2] ++ be2 (min l 1024) ++ be4 k) [.gate (min n 7) 2 (min l 1024) k] u))) ∧
   (∀ (r : Req) (n l k : Nat) (m : Word) (p : PortDef) (s : State), Live s → Latches r s → portDef s.oven (min n 7) = some p →
     k = m.toNat % 2 ^ p.chans.length →
     Ends (.portUnmute r n l m) r.c s (fun u => replyOK r 0x0500 ([3, 0] ++ be2 (min l 1024))
       (stage r 0x0500 ([byteOf (min n 7), 3] ++ be2 (min l 1024) ++ be4 k) [.gate (min n 7) 3 (min l 1024) k] u))) ∧
   (∀ (n : Fin 8) (l m : Nat) (p : PortDef) (s : State), portDef s.oven n = some p →
     (portState s n = pOFF → portState (applyGate n 0 l m s) n = (if p.master then pRUN else pDETECT)) ∧
     (portState s n ≠ pOFF → (port (applyGate n 1 l m s) n).stopping = true ∧ portState (applyGate n 1 l m s) n = portState s n) ∧
     (m < 2 ^ 32 → getF (applyGate n 2 l m s) (fPORT_MUTE_MUTED n) = getF s (fPORT_MUTE_MUTED n) ||| m ∧
       getF (applyGate n 3 l m s) (fPORT_MUTE_MUTED n) = maskAndNot (getF s (fPORT_MUTE_MUTED n)) m))) ∧
  (∀ (r : Req) (s : State), Live s →
     (∀ n k : Nat, Ends (.portStatus r n k) r.c s (fun u =>
       let t := replyOK r 0x0501 (be4 (peekReg u (rPORT_STS (min n 7))) ++ be4 (peekReg u (rPORT_CNT (min n 7))) ++
         be4 (peekReg u (rPORT_MUTE (min n 7))) ++ be4 (port u (min n 7)).ingress) u
       if 1 ≤ k then foldState (fun f => setF f 0) [fPORT_CNT_SAT (min n 7), fPORT_CNT_SLIP (min n 7), fPORT_CNT_GLITCHC (min n 7),
         fPORT_CNT_LOSTC (min n 7)] (setPort (min n 7) { port t (min n 7) with ingress := 0 } t) else t)) ∧
     (∀ f n : Nat, Ends (.asrcRead r f n) r.c s (fun u => replyOK r 0x0502 ((List.range (min (clampN 1 64 n) (64 - min f 63))).flatMap
       (fun i => be4 (peekReg u (rASRC_RATIO (min f 63 + i))) ++ be4 (peekReg u (rASRC_FRAC (min f 63 + i))))) u)) ∧
     (∀ (b : Nat) (a : AlignDef), alignDef s.oven (min b 7) = some a →
       Ends (.bundleStatus r b) r.c s (replyOK r 0x0503 (be4 (align_ s (min b 7)).playout ++ [byteOf a.members.length, 0, 0, 0] ++
         a.members.flatMap (fun o => [byteOf o, byteOf (if (stream s o).state = 4 then 1
           else if 0 < rampLeft (stream s o).fade ∧ (stream s o).fade.target = fpOne then 2 else 0)] ++ be2 (stream s o).under ++
           be4 (stream s o).stale)))))

/-- How a port's state moves: an input whose clock or frames fail in RUN goes LOST, counted and with PORT LOST sent; one whose rate
changes returns to DETECT; a detected rate that is the map's sends a direct port to ALIGN and any rate a converting one to ACQUIRE;
another rate on a direct port sends RATE; converters that lock are recorded, and those that do not in time send their port back
to DETECT (R157 to R164, R174). -/
def Obligations.PortStatesMove : Prop :=
  (∀ (c : Nat) (n : Fin 8) (p : PortDef) (s : State), Running s → portDef s.oven n = some p → p.master = false →
    portState s n = pRUN → Room 8 s →
    Yields (.portLost c n) s (fun t => portState t n = pLOST ∧ Queued 8 n 3 1 0 t ∧
      getF t (fPORT_CNT_LOSTC n) = min (2 ^ (fPORT_CNT_LOSTC n).width - 1) (getF s (fPORT_CNT_LOSTC n) + 1))) ∧
  (∀ (c : Nat) (n : Fin 8) (p : PortDef) (s : State), Running s → portDef s.oven n = some p → p.master = false →
    portState s n = pRUN → Room 8 s →
    Yields (.rateChange c n) s (fun t => portState t n = pDETECT ∧ getF t (fPORT_STS_RATE n) = 0 ∧ Queued 8 n 3 2 0 t)) ∧
  (∀ (c k : Nat) (n : Fin 8) (p : PortDef) (s : State), Running s → portDef s.oven n = some p → p.master = false →
    portState s n = pDETECT → 1 ≤ k → k ≤ 6 →
    (p.asrc = true → Yields (.rateClassified c n k) s (fun t => portState t n = pACQUIRE ∧ getF t (fPORT_STS_RATE n) = k)) ∧
    (p.asrc = false → k = p.rate → Yields (.rateClassified c n k) s (fun t => portState t n = pALIGN ∧ getF t (fPORT_STS_RATE n) = k)) ∧
    (p.asrc = false → k ≠ p.rate → Room 8 s →
      Yields (.rateClassified c n k) s (fun t => portState t n = pDETECT ∧ getF t (fPORT_STS_RATE n) = k ∧ Queued 8 n 3 2 0 t))) ∧
  (∀ (c f : Nat) (n : Fin 8) (w : Word) (s : State), Running s → portState s n = pACQUIRE →
    Yields (.asrcLock c n w f) s (fun t => (port t n).locked = true ∧
      ∀ k ∈ asrcChans s n, getF t (fASRC_RATIO_RATIO k) = w.toNat ∧ getF t (fASRC_FRAC_FRACTION k) = f % 25600 ∧
        getF t (fASRC_FRAC_LOCK k) = 1)) ∧
  (∀ (c f o : Nat) (w : Word) (s : State), Running s → 8 ≤ o → (stream s o).state ≠ 0 →
    Yields (.asrcLock c o w f) s (fun t => ∀ k ∈ asrcChans s o, getF t (fASRC_RATIO_RATIO k) = w.toNat ∧ getF t (fASRC_FRAC_LOCK k) = 1)) ∧
  (∀ (c : Nat) (n : Fin 8) (s : State), Running s → portState s n = pACQUIRE → (port s n).locked = false → Room 8 s →
    Yields (.acquireTimeout c n) s (fun t => portState t n = pDETECT ∧ getF t (fPORT_STS_RATE n) = 0 ∧ Queued 8 n 3 2 0 t)) ∧
  (∀ (c : Nat) (n : Fin 8) (p : PortDef) (s : State), Running s → portDef s.oven n = some p → p.master = false → p.asrc = false →
    portState s n = pDETECT → getF s (fPORT_STS_RATE n) ≠ 0 → getF s (fPORT_STS_RATE n) ≠ p.rate → Room 8 s →
    Yields (.portRateRepeat c n) s (fun t => portState t n = pDETECT ∧ Queued 8 n 3 2 0 t))

/-- What else happens at a port: a glitch shorter than the filter is counted and ignored; a gate that waited for a zero crossing too long ramps; a
claim pair that has held its silent member's last samples to the end fades out; CLRCLAIM forgets the higher claim; a stream without its sample
in time underruns; frame errors of an input are counted, and a frame that stands is the port's samples (R154, R156, R158, R162 to R174). -/
def Obligations.PortEventsComplete : Prop :=
  ((∀ (c w : Nat) (n : Fin 8) (s : State), Running s → w < getF s (fPORT_CTL_GLITCH n) →
     Ends (.glitch c n w) c s (bump (fPORT_CNT_GLITCHC n))) ∧
   (∀ (c l : Nat) (n : Fin 8) (k : Fin 32) (g : Word) (s : State), Running s → (gateOf (port s n) k).goal = some (g, l) →
     Yields (.zctoTimeout c n k) s (fun t =>
       gateOf (port t n) k = { gateOf (port s n) k with gain := rampTo g l (gateOf (port s n) k).gain, goal := none })) ∧
   (∀ (c : Nat) (k : Fin 4) (s : State), Running s → (pair s k).hold = true → (pair s k).fade.target ≠ fpZero →
     Yields (.claimHoldExpiry c k) s (fun t =>
       pair t k = { pair s k with held := 24, fade := { start := fpOne, target := fpZero, len := 48, pos := 0 } })) ∧
   (∀ (c : Nat) (m : Master) (n : Fin 8) (s : State), Running s →
     Yields (.clrclaim c m n) s (fun t => pair t (n / 2) = { pair s (n / 2) with high := 0 })) ∧
   (∀ (c o : Nat) (s : State), Running s → (stream s o).state = 3 → (stream s o).buf.any (fun e => e.1 / 64 == playPos s o) = false →
     Room 8 s →
     Yields (.portUnderrun c o) s (fun t => Queued 8 o 3 5 0 t ∧ stream t o = { stream s o with
       state := 4, under := min 65535 ((stream s o).under + 1), fade := { start := fpOne, target := fpZero, len := 16, pos := 0 } }))) ∧
  ((∀ (c : Nat) (n : Fin 8) (f : SaiFrame) (p : PortDef) (s u : State), Running s → u = runFixedTo c (begin_ c s) →
     portDef u.oven n = some p → portState u n = pRUN → f.fsGood = true ∨ p.master = true → p.asrc = false →
     EndsMem (.saiFrame c n f) c s (fun x =>
       let y := setPort n { port (runFixedTo c x) n with frameErrs := 0, wpos := f.wpos } (runFixedTo c x)
       inputFrame n p f (outputFrame n p f (shiftClaim n p (some (frameClaim p f)) y)))) ∧
   (∀ (c : Nat) (n : Fin 8) (f : SaiFrame) (p : PortDef) (s u : State), Running s → u = runFixedTo c (begin_ c s) →
     portDef u.oven n = some p → portState u n = pRUN → f.fsGood = true ∨ p.master = true → p.asrc = true →
     EndsMem (.saiFrame c n f) c s (fun x =>
       let y := setPort n { port (runFixedTo c x) n with frameErrs := 0, wpos := f.wpos } (runFixedTo c x)
       outputFrame n p f (asrcFrame n p f y))) ∧
   (∀ (c : Nat) (n : Fin 8) (f : SaiFrame) (p : PortDef) (s u : State), Running s → u = runFixedTo c (begin_ c s) →
     portDef u.oven n = some p → portState u n = pLOST → f.fsGood = true ∨ p.master = true →
     EndsMem (.saiFrame c n f) c s (fun x =>
       let y := runFixedTo c x
       setPortState n pDETECT (setF (fPORT_STS_RATE n) 0 (setPort n { port y n with frameErrs := 0, wpos := f.wpos } y)))) ∧
   (∀ (c : Nat) (n : Fin 8) (f : SaiFrame) (p : PortDef) (s u : State), Running s → u = runFixedTo c (begin_ c s) →
     portDef u.oven n = some p → portState u n ≠ pOFF → portState u n ≠ pRUN → f.fsGood = false → p.master = false →
     EndsMem (.saiFrame c n f) c s (fun x =>
       let y := runFixedTo c x
       bump (fPORT_CNT_GLITCHC n) (setPort n { port y n with frameErrs := (port y n).frameErrs + 1, wpos := f.wpos } y))) ∧
   (∀ (c : Nat) (n : Fin 8) (f : SaiFrame) (p : PortDef) (s u : State), Running s → u = runFixedTo c (begin_ c s) →
     portDef u.oven n = some p → portState u n = pRUN → f.fsGood = false → p.master = false → p.asrc = false →
     EndsMem (.saiFrame c n f) c s (fun x =>
       let z := runFixedTo c x
       let y := bump (fPORT_CNT_GLITCHC n) (setPort n { port z n with frameErrs := (port z n).frameErrs + 1, wpos := f.wpos } z)
       let w := inputFrame n p f (outputFrame n p f (shiftClaim n p (some (frameClaim p f)) y))
       if 2 ≤ (port z n).frameErrs then rateChanged n w else w)))

/-! ## Modulator, Gate Link and protection (chapters 07, 08) -/

/-- STAGE_TRAIN trains the outputs it names under a handle, which completes with a code for each once all have theirs; the four STAGE_RUN rows stage
their action for the outputs of the mask whose state it acts on, and reply that mask; at its boundary it moves each output; STAGE_SET stages the words with the fields of MASK
replaced; STAGE_STATUS and STAGE_SENSE answer (R193 to R195, R207, R222). -/
def Obligations.StageCommandsComplete : Prop :=
  ((∀ (r : Req) (m : Nat) (s : State), Live s → hasMod s = true → HandleFree r s → getF s fTWIN_STAT_ROLE ≠ 2 ∨ r.ch = 3 →
     m % 65536 ≠ 0 → (∀ n ∈ maskList 16 (m % 65536), outState s n ≠ oLATCHED) → m % 65536 &&& trainingLanes s = 0 →
     targeted r s = false →
     Ends (.stageTrain r m) r.c s (fun u => accept r 0x0600 (.train (m % 65536)) (foldState (beginTrain (m % 65536)) (maskList 16 (m % 65536)) u))) ∧
   (∀ (c m : Nat) (o : Op) (code : Nat → Nat) (s : State), Running s → s.ops.filter (fun x => isTrain x.kind) = [o] → o.kind = .train m →
     (maskList 16 m).all (trained s) = true → code = (fun n => if m.testBit n then ((out_ s n).code).getD 9 else 9) →
     Ends (.stageTrainDone c) c s (fun u =>
       finish o.ch o.h (if (maskList 16 m).all (fun n => code n == 0 || code n == 10) then stOK else stFAILED)
         ((List.range 16).map (fun n => byteOf (code n)))
         (foldState (fun n t => setOut n { out_ t n with code := none } t) (maskList 16 m) u)))) ∧
  ((∀ (r : Req) (m k : Nat) (ns : List Nat) (s : State), Live s → Latches r s → hasMod s = true → s.oven ≠ Bake.empty →
     ns = (maskList 16 (m % 65536)).filter (actsOn s 0) →
     k = ns.foldl (fun x n => x + 2 ^ n) 0 →
     Ends (.stageRunRun r m) r.c s (fun u => replyOK r 0x0601 (be2 k) (stage r 0x0601 (be2 k ++ [0, 0]) (ns.map (fun n => .run n 0)) u))) ∧
   (∀ (r : Req) (m k : Nat) (ns : List Nat) (s : State), Live s → Latches r s → hasMod s = true → ns = (maskList 16 (m % 65536)).filter (actsOn s 1) →
     k = ns.foldl (fun x n => x + 2 ^ n) 0 →
     Ends (.stageRunArm r m) r.c s (fun u => replyOK r 0x0601 (be2 k) (stage r 0x0601 (be2 k ++ [1, 0]) (ns.map (fun n => .run n 1)) u))) ∧
   (∀ (r : Req) (m k : Nat) (ns : List Nat) (s : State), Live s → Latches r s → hasMod s = true → ns = (maskList 16 (m % 65536)).filter (actsOn s 2) →
     k = ns.foldl (fun x n => x + 2 ^ n) 0 →
     Ends (.stageRunOff r m) r.c s (fun u => replyOK r 0x0601 (be2 k) (stage r 0x0601 (be2 k ++ [2, 0]) (ns.map (fun n => .run n 2)) u))) ∧
   (∀ (r : Req) (m k : Nat) (ns : List Nat) (s : State), Live s → Latches r s → hasMod s = true → ns = (maskList 16 (m % 65536)).filter (actsOn s 3) →
     k = ns.foldl (fun x n => x + 2 ^ n) 0 →
     Ends (.stageRunClearLatch r m) r.c s (fun u => replyOK r 0x0601 (be2 k) (stage r 0x0601 (be2 k ++ [3, 0]) (ns.map (fun n => .run n 3)) u))) ∧
   (∀ (n : Fin 16) (s : State),
     (outState s n = oARMED → (prot s n).sweeping = false → outState (applyRun n 0 s) n = oRUN ∧
       (out_ (applyRun n 0 s) n).soft = { start := fpZero, target := fpOne, len := 1024, pos := 0 }) ∧
     (outState s n = oRUN → (out_ (applyRun n 1 s) n).soft = rampTo fpZero 1024 (out_ s n).soft ∧ (out_ (applyRun n 1 s) n).toward = 4) ∧
     (outState s n = oSAFE → (prot s n).sweeping = false → outState (applyRun n 2 s) n = oOFF) ∧
     (outState s n = oLATCHED → outState (applyRun n 3 s) n = oOFF ∧ getF (applyRun n 3 s) (fPROT_RUN_RETRY n) = 0)) ∧
   (∀ (r : Req) (o m : Nat) (ws : List Word) (s : State), Live s → Latches r s → hasMod s = true →
     Ends (.stageSet r o m ws) r.c s (fun u =>
       let ap (n : Nat) : List Word := (applyWords (stageAddrs n) 0 m (ws.map (·.toNat)) (stageTarget s n)).map (BitVec.ofNat 32)
       replyOK r 0x0602 (beWords (ap ((outsNamed o).headD 0)))
         (stage r 0x0602 ([byteOf o, 0] ++ be2 m ++ beWords (ap ((outsNamed o).headD 0))) ((outsNamed o).map (fun n => .stage n m (ap n))) u))) ∧
   (∀ (r : Req) (o k : Nat) (s : State), Live s → hasMod s = true →
     Ends (.stageStatus r o k) r.c s (fun u =>
       (if 1 ≤ k then foldState (fun f => setF f 0) [fSTAGE_CNT_NSSAT (min o 15), fSTAGE_CNT_CLIP (min o 15), fSTAGE_CNT_LIMIT (min o 15),
         fSTAGE_CNT_CRCE (min o 15)] else id)
         (replyOK r 0x0603 (be4 (peekReg u (rSTAGE_STS (min o 15))) ++ be4 (peekReg u (rSTAGE_CNT (min o 15))) ++
           be4 (peekReg u (rSTAGE_LANE (laneOf (min o 15)))) ++
           (if getF u (fSTAGE_LANE_IDOK (laneOf (min o 15))) = 1 then ((gl u (laneOf (min o 15))).ident ++ zeros 32).take 32 else zeros 32)) u))) ∧
   (∀ (r : Req) (o : Nat) (s : State), Live s → hasMod s = true →
     Ends (.stageSense r o) r.c s (replyOK r 0x0604 (beWords ([(out_ s (min o 15)).vbus, (out_ s (min o 15)).vbf] ++
       (List.range 5).map (fun k => if k + 1 < cellsOf s (min o 15) then ((out_ s (min o 15)).fc[k]?).getD 0 else 0) ++
       [(out_ s (min o 15)).i1, (out_ s (min o 15)).v1, (out_ s (min o 15)).temp, headGain s (min o 15)]) ++
       [byteOf (getF s (fSTAGE_STS_ROT (min o 15))), 0, 0, 0]))))

/-- A modulation period runs the pipelines of its two outputs and sends its frame; a return frame that stands is taken, and one that does not is counted
for both outputs and sends GL_CRC; a lost link sends GL_LOST, clears the lane's LOCK and its outputs leave their pulses; a bus fault sends BUS and
puts every powered output of the lane out of RUN; drifting capacitors send FC_DRIFT (R178 to R193, R203, R204). -/
def Obligations.GateLinkCompletes : Prop :=
  ((∀ (c : Nat) (l : Fin 8) (s u : State), Running s → u = runFixedTo c (begin_ c s) → glLive u = true →
     EndsMem (.modulationPeriod c l) c s (fun x => modPeriod l (runFixedTo c x)) ∧
     Yields (.modulationPeriod c l) s (fun t => (gl t l).open_ = true)) ∧
   (∀ (c : Nat) (l : Fin 8) (f : ReturnFrame) (s : State), glLive s = true → returnOk f = true →
     Ends (.returnFrame c l f) c s (fun u =>
       let v := setGl l { gl u l with valid := true, miss := 0, ovt := (num f.syms 3 1).testBit 6 } u
       let w := if (num f.syms 3 1).testBit 6 && !(gl u l).ovt then send 11 (laneInst u l) 7 6 0 v else v
       takeMessage l f (takeLock l f.flight (foldState (fun n => takeChannel n f ((gl u l).period % 2 == 0)) (laneOuts l) w)))) ∧
   (∀ (c : Nat) (l : Fin 8) (f : ReturnFrame) (s : State), glLive s = true → returnOk f = false → Room 11 s →
     Yields (.returnFrame c l f) s (fun t => Queued 11 (laneInst s l) 7 1 0 t ∧ (gl t l).errs = (gl s l).errs + 1 ∧
       ∀ n ∈ laneOuts l, getF t (fSTAGE_CNT_CRCE n) = min (2 ^ (fSTAGE_CNT_CRCE n).width - 1) (getF s (fSTAGE_CNT_CRCE n) + 1)))) ∧
  ((∀ (c : Nat) (l : Fin 8) (s : State), glLive s = true → getF s (fSTAGE_LANE_LOCK l) = 1 → Room 11 s →
     Yields (.glLost c l) s (fun t => Queued 11 (laneInst s l) 7 10 0 t ∧ getF t (fSTAGE_LANE_LOCK l) = 0 ∧
       (∀ n ∈ laneOuts l, outState s n = oRUN ∨ outState s n = oARMED → outState t n = oSAFE))) ∧
   (∀ (c : Nat) (l : Fin 8) (s : State), glLive s = true → (laneOuts l).any (fun n => isPowered (outState s n)) = true → Room 11 s →
     Yields (.bus c l) s (fun t => Queued 11 (laneInst s l) 7 9 0 t ∧
       (∀ n ∈ laneOuts l, outState s n = oRUN ∨ outState s n = oARMED → outState t n = oSAFE))) ∧
   (∀ (c : Nat) (n : Fin 16) (s : State), glLive s = true → outState s n = oARMED ∨ outState s n = oRUN → Room 11 s →
     Yields (.fcDrift c n) s (Queued 11 n 7 7 0)))

/-- How training goes on: no answer in time is IDENT_FAIL with its code; a clean link with its bus in range begins the precharge, a
dirty one fails with code 3 and one out of range with code 5; a precharge too slow fails with code 6 and one that leaves a capacitor
out of band with code 7; one that stays in band ends in ARMED with code 0. The soft start at its end leaves RUN at full gain, or
where the output is bound (R193 to R195). -/
def Obligations.StageSequenceMoves : Prop :=
  (∀ (c : Nat) (n : Fin 16) (s : State), glLive s = true → outState s n = oIDENT → Room 11 s →
    Yields (.trainTimeout c n) s (fun t => outState t n = oOFF ∧ Queued 11 n 7 4 0 t ∧
      (out_ t n).code = some (if (out_ s n).step = 2 then 2 else if (out_ s n).step = 3 then 4 else 1))) ∧
  (∀ (c : Nat) (n : Fin 16) (s : State), glLive s = true → outState s n = oTEST → (gl s (laneOf n)).errs = 0 → busOk s n = true →
    Yields (.linkTestEnd c n true) s (fun t => outState t n = oPRECHARGE)) ∧
  (∀ (c : Nat) (n : Fin 16) (s : State), glLive s = true → outState s n = oTEST → Room 11 s →
    Yields (.linkTestEnd c n false) s (fun t => outState t n = oOFF ∧ (out_ t n).code = some 3 ∧ Queued 11 n 7 4 0 t)) ∧
  (∀ (c : Nat) (n : Fin 16) (s : State), glLive s = true → outState s n = oTEST → (gl s (laneOf n)).errs = 0 → busOk s n = false → Room 11 s →
    Yields (.linkTestEnd c n true) s (fun t => outState t n = oOFF ∧ (out_ t n).code = some 5 ∧ Queued 11 n 7 5 0 t)) ∧
  (∀ (c : Nat) (n : Fin 16) (s : State), glLive s = true → outState s n = oPRECHARGE → (out_ s n).pcCap ≠ 0 → Room 11 s →
    Yields (.prechargeTimeout c n) s (fun t => outState t n = oOFF ∧ (out_ t n).code = some 6 ∧ Queued 11 n 7 5 (out_ s n).pcCap t)) ∧
  (∀ (c : Nat) (n : Fin 16) (s : State), glLive s = true → outState s n = oPRECHARGE → (out_ s n).pcCap = 0 → (out_ s n).step ≠ 8 →
    (out_ s n).step ≠ 9 → capsInBand s n = true → (prot s n).retrying = false →
    Yields (.prechargeCheckEnd c n) s (fun t => outState t n = oARMED ∧ (out_ t n).code = some 0)) ∧
  (∀ (c : Nat) (n : Fin 16) (s : State), glLive s = true → outState s n = oPRECHARGE → (out_ s n).pcCap = 0 → (out_ s n).step ≠ 8 →
    (out_ s n).step = 9 ∨ capsInBand s n = false → Room 11 s →
    Yields (.prechargeCheckEnd c n) s (fun t => outState t n = oOFF ∧ (out_ t n).code = some 7 ∧ Queued 11 n 7 5 0 t)) ∧
  (∀ (c : Nat) (n : Fin 16) (s : State), glLive s = true → outState s n = oRUN → rampLeft (out_ s n).soft ≤ 16 →
    Yields (.softStartEnd c n) s (fun t =>
      ((out_ s n).toward = 0 → outState t n = oRUN ∧ (out_ t n).soft = steady (out_ s n).soft.target) ∧
      ((out_ s n).toward = 4 → outState t n = oARMED) ∧
      ((out_ s n).toward ≠ 0 → (out_ s n).toward ≠ 4 → outState t n = oOFF)))

/-- The protection commands: PROT_SET stages the words with the fields of MASK replaced, PROT_STATUS answers, PROT_SWEEP and PROT_CAL
begin under a handle (R210, R213, R219, R228). -/
def Obligations.ProtectionCommandsComplete : Prop :=
  (∀ (r : Req) (o m : Nat) (ws : List Word) (s : State), Live s → Latches r s → hasProt s = true →
    Ends (.protSet r o m ws) r.c s (fun u =>
      let ap (n : Nat) : List Word := (protApply s n m (ws.map (·.toNat)) (protTarget s n)).map (BitVec.ofNat 32)
      replyOK r 0x0610 (beWords (ap ((outsNamed o).headD 0)))
        (foldState (fun n t => stage r 0x0610 ([byteOf n, 0, 0, 0] ++ be4 m ++ beWords (ap n)) [.prot n m (ap n)] t) (outsNamed o) u))) ∧
  (∀ (r : Req) (o k : Nat) (s : State), Live s → hasProt s = true →
    Ends (.protStatus r o k) r.c s (fun u =>
      (if 1 ≤ k then clearProtCnt (min o 15) else id) (replyOK r 0x0611
        (be4 (peekReg u (rPROT_TEMP (min o 15))) ++ be4 (peekReg u (rPROT_MEAS (min o 15))) ++ be4 (peekReg u (rPROT_LOAD (min o 15))) ++
          be4 (peekReg u (rPROT_CNT (min o 15))) ++ be4 (peekReg u (rPROT_RUN (min o 15))) ++
          beWords [thermGain u (min o 15) u.pipeAt, (prot u (min o 15)).pf, (prot u (min o 15)).pss]) u))) ∧
  (∀ (r : Req) (o : Nat) (s : State), Live s → hasProt s = true → HandleFree r s → getF s fTWIN_STAT_ROLE ≠ 2 ∨ r.ch = 3 →
    outState s (min o 15) = oARMED → sweepsOn (min o 15) s = false → targeted r s = false →
    Ends (.protSweep r o) r.c s (fun u => accept r 0x0612 (.sweep (min o 15))
      (setProt (min o 15) { prot u (min o 15) with
        sweeping := true, sweepTrip := false, swPhase := 0, swStep := 0, swLock := {}, swPts := [], swLow := true } u))) ∧
  (∀ (r : Req) (o k : Nat) (s : State), Live s → hasProt s = true → HandleFree r s → getF s fTWIN_STAT_ROLE ≠ 2 ∨ r.ch = 3 →
    sourceBarred s (min o 15) = false → outState s (min o 15) = oRUN → calsOn (min o 15) s = false → targeted r s = false →
    Ends (.protCal r o k) r.c s (fun u => accept r 0x0613 (.cal (min o 15)) (aimPilot (min o 15) (dropWindow (min o 15)
      (setProt (min o 15) { prot u (min o 15) with cal := some (clampI (-40) 60 (signed 8 (k % 256)), [], 0) } u)))))

/-- A sweep ends with the class of its load, and the calibration with R0 from the mean of the first four good windows, or FAILED with fewer; a retry
precharges a cooled output that waits in SAFE and counts; an output that stayed in RUN forgets its retries; the thermal models are copied to
retention RAM (their places are log entry 19); a window's measurement corrects the model; and the probe takes its reference from its first ten
windows (R210, R213 to R228). -/
def Obligations.ProtectionEventsComplete : Prop :=
  ((∀ (c : Nat) (n : Fin 16) (s : State), Running s → (prot s n).sweeping = true →
     24 ≤ (prot s n).swPts.length ∨ (prot s n).sweepTrip = true →
     Yields (.protSweepDone c n () ()) s (fun t => Stopped (isSweepOf n) t ∧ (prot t n).sweeping = false ∧
       getF t (fPROT_LOAD_CLASS n) = classify (prot s n).swPts (prot s n).swLow (prot s n).sweepTrip)) ∧
   (∀ (c k : Nat) (n : Fin 16) (d : Int) (l : List Word) (s : State), Running s → (prot s n).cal = some (d, l, k) → 4 ≤ l.length →
     Yields (.protCalDone c n) s (fun t => Stopped (isCalOf n) t ∧ (prot t n).cal = none ∧
       (getF t (fPROT_TRK_R0 n) : Int) = clampI 500 65535 (fpToInt (fpMul (fpMean (l.take 4)) 0x447A0000) 0) ∧
       (prot t n).tc = fpOfInt d ∧ (prot t n).ts = fpOfInt d)) ∧
   (∀ (c k : Nat) (n : Fin 16) (d : Int) (l : List Word) (s : State), Running s → (prot s n).cal = some (d, l, k) → l.length < 4 → 8 ≤ k →
     Yields (.protCalDone c n) s (fun t => Stopped (isCalOf n) t ∧ (prot t n).cal = none ∧
       getF t (fPROT_TRK_R0 n) = getF s (fPROT_TRK_R0 n)))) ∧
  ((∀ (c : Nat) (n : Fin 16) (s : State), Running s → (prot s n).retryWait = true → outState s n = oSAFE → fpLt (prot s n).tc (pTmax s n) = true →
     s.upd.gHold = false →
     Yields (.retryStart c n) s (fun t => outState t n = oPRECHARGE ∧ (prot t n).retrying = true ∧ (prot t n).retryWait = false ∧
       getF t (fPROT_RUN_RETRY n) = (getF s (fPROT_RUN_RETRY n) + 1) % 2 ^ (fPROT_RUN_RETRY n).width)) ∧
   (∀ (c : Nat) (n : Fin 16) (s : State), Running s → outState s n = oRUN → Ends (.retryClear c n) c s (setF (fPROT_RUN_RETRY n) 0)) ∧
   (∀ (c : Nat) (s : State), Running s → hasProt s = true → MemForm s →
     Yields (.thermalCopy c) s (fun t => ∀ n < 16, memWord t (thermalAddr n) = (prot s n).tc.toNat ∧
       memWord t (thermalAddr n + 4) = (prot s n).ts.toNat)) ∧
   (∀ (c : Nat) (n : Fin 16) (s : State), Running s → (prot s n).wn ≠ 0 →
     Ends (.measWindowEnd c n) c s (measWindowEnd n) ∧ Yields (.measWindowEnd c n) s (fun t => (prot t n).wn = 0)) ∧
   (∀ (c : Nat) (n : Fin 16) (z : Word) (s : State), Running s → (getF s fPROT_PROBE_ACTIVE).testBit n = true → (prot s n).probe.n ≠ 0 →
     fpLt (lockAmp (prot s n).probe) 0x3A83126F = false → (prot s n).zref = none → z = probeZ (prot s n).probe →
     Yields (.probeWindowEnd c n () ()) s (fun t => (prot t n).zWins = (prot s n).zWins ++ [z] ∧ (prot t n).probe = {} ∧
       (prot t n).zref = if 10 ≤ (prot s n).zWins.length + 1 then some (fpMean ((prot s n).zWins ++ [z])) else none)) ∧
   (∀ (c : Nat) (n : Fin 16) (z z0 : Word) (s : State), Running s → (getF s fPROT_PROBE_ACTIVE).testBit n = true → (prot s n).probe.n ≠ 0 →
     fpLt (lockAmp (prot s n).probe) 0x3A83126F = false → (prot s n).zref = some z0 → z = probeZ (prot s n).probe →
     Yields (.probeWindowEnd c n () ()) s (fun t => (prot t n).probe = {} ∧
       (prot t n).lossRun = if fpLe (fpMul (fpRatio (getF s (fPROT_AMB_PROBEK n)) 10) z0) z then min 3 ((prot s n).lossRun + 1) else 0)))

/-! ## Trunk and Ethernet (chapters 09, 10) -/

/-- The trunk commands: TRUNK_ENABLE, its DISABLE and RESTART rows, TRUNK_SET, TRUNK_STATUS, TRUNK_MSG_READ and TRUNK_CLAIM_CLR answer
and act at once; TRUNK_RANGE and TRUNK_MSG_SEND begin under a handle on a lane that is UP (R237 to R241, R249, R252, R255). -/
def Obligations.TrunkCommandsComplete : Prop :=
  ∀ (r : Req) (s : State), Live s →
    (∀ m : Nat, Ends (.trunkEnable r m) r.c s (fun u =>
        replyOK r 0x0700 [byteOf ((maskList 8 m).foldl (fun k l => k + 2 ^ l) 0)]
          (foldState (fun l t => followEn l (setF (fTL_CTL_EN l) 1 t)) (maskList 8 m) u)) ∧
      Ends (.trunkDisable r m) r.c s (fun u =>
        replyOK r 0x0700 [byteOf ((maskList 8 m).foldl (fun k l => k + 2 ^ l) 0)]
          (foldState (fun l t => followEn l (setF (fTL_CTL_EN l) 0 t)) (maskList 8 m) u)) ∧
      Ends (.trunkRestart r m) r.c s (fun u =>
        let ls := (maskList 8 m).filter (fun l => getF s (fTL_CTL_EN l) == 1)
        replyOK r 0x0700 [byteOf (ls.foldl (fun k l => k + 2 ^ l) 0)] (foldState restartLane ls u)) ∧
      Ends (.trunkClaimClr r m) r.c s (fun u => replyOK r 0x0706 [] (foldState (fun l => setHigh l 0) (maskList 8 m) u))) ∧
    (∀ (l m : Nat) (w : Word), Ends (.trunkSet r l m w) r.c s (fun u =>
      let t := foldState (fun k t => followCtl k
        (storeWords [rTL_CTL k] (applyWords [rTL_CTL k] 0 (ctlMask m) [w.toNat] (heldWords t [rTL_CTL k])) t)) (lanesNamed l) u
      replyOK r 0x0701 (be4 (peekReg t (rTL_CTL ((lanesNamed l).headD 0)))) t)) ∧
    (∀ l k : Nat, Ends (.trunkStatus r l k) r.c s (fun u =>
      (if 1 ≤ k then foldState (fun f => setF f 0) [fTL_CNT_DOWN (min l 7), fTL_CNT_SLIP (min l 7), fTL_CNT_CODE (min l 7), fTL_CNT_CRCE (min l 7)] else id)
        (replyOK r 0x0702 (be4 (peekReg u (rTL_STS (min l 7))) ++ be4 (peekReg u (rTL_RANGE (min l 7))) ++ be4 (peekReg u (rTL_WAIT (min l 7))) ++
          be4 (peekReg u (rTL_OFFS (min l 7))) ++ be4 (peekReg u (rTL_PEER (min l 7))) ++ be4 (peekReg u (rTL_CNT (min l 7))) ++
          be4 (peekReg u (rTL_CLAIM (min l 7))) ++ be4 (lane u (min l 7)).ingress ++ ((lane u (min l 7)).capsRx ++ zeros 24).take 24) u))) ∧
    (∀ l : Nat, HandleFree r s → laneState s (min l 7) = lUP → (lane s (min l 7)).ranging = false →
      Ends (.trunkRange r l) r.c s (fun u =>
        accept r 0x0703 (.range (min l 7)) (setLane (min l 7) { lane u (min l 7) with ranging := true, exch := [] } u))) ∧
    (∀ (l : Nat) (b : List Byte), HandleFree r s → laneState s (min l 7) = lUP → (lane s (min l 7)).unacked.length < 16 →
      Ends (.trunkMsgSend r l b) r.c s (fun u =>
        let q := lane u (min l 7)
        accept r 0x0704 (.msgSend (min l 7) q.sendSeq) (setLane (min l 7) { q with
          sendSeq := seqUp q.sendSeq,
          unacked := q.unacked ++ [⟨q.sendSeq, b, 0, true, r.ch, nextHandle s r.ch⟩] } u))) ∧
    (s.msgs = [] → Ends (.trunkMsgRead r) r.c s (replyOK r 0x0705 (zeros 4))) ∧
    (∀ (l : Nat) (b : List Byte) (q : List (Nat × List Byte)), s.msgs = (l, b) :: q →
      Ends (.trunkMsgRead r) r.c s (fun u => replyOK r 0x0705 ([byteOf l, 0] ++ be2 b.length ++ b) { u with msgs := q }))

/-- A trunk frame whose header stands: with its payload CRC wrong it is counted and sends TRUNK_CRC; with a lower claim than the highest seen it is
ignored; a LIVE one on a lane that is UP waits for its batch, and its messages are taken. A slip moves OFFS by one and ranges anew; host messages
not acknowledged are sent again, and after eight times fail; the held sample has been held its full time; a highest claim not renewed is
forgotten; RESTART trains an enabled lane (R232 to R253). -/
def Obligations.TrunkFramesComplete : Prop :=
  (∀ (c : Nat) (l : Fin 8) (f : TrunkFrame) (s : State), laneLive s l = true → laneState s l = lUP → f.comma = true →
     f.header.length = 14 → num f.header 12 2 = crc16 (f.header.take 12) → num f.header 6 1 % 4 = 3 →
     (f.crcOk = false → Room 9 s → Yields (.trunkFrame c l f) s (fun t => Queued 9 l 3 6 0 t ∧
       getF t (fTL_CNT_CRCE l) = min (2 ^ (fTL_CNT_CRCE l).width - 1) (getF s (fTL_CNT_CRCE l) + 1) ∧ (lane t l).bad = (lane s l).bad + 1)) ∧
     (f.crcOk = true → f.kOk = true → claimHigher (getF s (fTL_CLAIM_HIGH l)) (num f.header 0 2) = true →
       Yields (.trunkFrame c l f) s (fun t => getF t (fTL_CLAIM_LAST l) = getF s (fTL_CLAIM_LAST l) ∧ (lane t l).buffered = (lane s l).buffered)) ∧
     (f.crcOk = true → f.kOk = true → claimHigher (getF s (fTL_CLAIM_HIGH l)) (num f.header 0 2) = false →
       Ends (.trunkFrame c l f) c s (fun u =>
         let claim := num f.header 0 2
         let v := setF (fTL_CLAIM_LAST l) claim (setHigh l claim (setF (fTL_PEER_NODE_ID l) (num f.header 8 4) (bumpN (fTL_CNT_CODE l) f.fillErrs (takeComma l true u))))
         foldState (takeMsg l f.det 3) (areaMsgs 1024 f.msgs) (bufferFrame l f claim (w4 f.header 2) v)))) ∧
  ((∀ (c : Nat) (l : Fin 8) (late : Bool) (s : State), laneLive s l = true → laneState s l = lUP → Room 9 s →
     Yields (.trunkSlip c l late) s (fun t => Queued 9 l 3 8 0 t ∧ (lane t l).ranging = true ∧
       getF t (fTL_OFFS_OFFS l) = (if late then (getF s (fTL_OFFS_OFFS l) + 1) % 2 ^ 32 else (getF s (fTL_OFFS_OFFS l) + (2 ^ 32 - 1)) % 2 ^ 32))) ∧
   (∀ (c : Nat) (l : Fin 8) (s : State), laneLive s l = true → laneState s l = lUP → Ends (.hostMsgResend c l) c s (hostResend l)) ∧
   (∀ (c : Nat) (l : Fin 8) (s : State), laneLive s l = true → laneState s l = lUP → (∀ m ∈ (lane s l).unacked, m.sends < 8) →
     Yields (.hostMsgResend c l) s (fun t => (lane t l).unacked = (lane s l).unacked.map (fun m => { m with due := true }))) ∧
   (∀ (c : Nat) (l : Fin 8) (s : State), laneLive s l = true → getF s (fTL_STS_HOLD l) = 1 → (lane s l).held < 24 →
     Yields (.trunkHoldExpiry c l) s (fun t => lane t l = { lane s l with held := 24 })) ∧
   (∀ (c : Nat) (l : Fin 8) (s : State), laneLive s l = true → Ends (.claimClearTimeout c l) c s (setHigh l 0) ∧
     Yields (.claimClearTimeout c l) s (fun t => getF t (fTL_CLAIM_HIGH l) = 0)) ∧
   (∀ (c : Nat) (m : Master) (l : Fin 8) (s : State), Running s → getF s (fTL_CTL_EN l) = 1 →
     Ends (.restart c m l) c s (trainLane l) ∧ Yields (.restart c m l) s (fun t => laneState t l = lTRAIN)))

/-- How a lane comes up and goes down: its clock recovery locks; a loss of lock in training begins it anew; the end of the equaliser
search enters RANGE; CAPS is sent again, and its first delay is reported; a ranging that is not answered fails; a loss in UP is counted,
sends LOST and trains anew (R237 to R241, R252, R254). -/
def Obligations.LaneBringUpMoves : Prop :=
  (∀ (c : Nat) (l : Fin 12) (s : State), laneLive s l = true → laneState s l ≠ lOFF → Ends (.cdrLock c l) c s (setLaneLock l true)) ∧
  (∀ (c : Nat) (l : Fin 12) (s : State), laneLive s l = true → lEQ ≤ laneState s l → laneState s l ≤ lCAPS →
    Yields (.lossOfLock c l) s (fun t => laneState t l = lTRAIN ∧ Stopped (onLane l) t)) ∧
  (∀ (c : Nat) (l : Fin 12) (e : List Nat) (s : State), laneLive s l = true → laneState s l = lEQ →
    Yields (.ctleSearchEnd c l e) s (fun t => laneState t l = lRANGE ∧ (lane t l).ranging = true)) ∧
  (∀ (c : Nat) (l : Fin 8) (e : List Nat) (s : State), laneLive s l = true → laneState s l = lEQ → getF s (fTL_CTL_CTLEAUTO l) = 0 →
    Yields (.ctleSearchEnd c ⟨l, by omega⟩ e) s (fun t => getF t (fTL_STS_CTLEF l) = getF s (fTL_CTL_CTLE l) % 2 ^ (fTL_STS_CTLEF l).width)) ∧
  (∀ (c : Nat) (l : Fin 8) (s : State), laneLive s l = true → laneState s l = lCAPS → (lane s l).capsShard = false → Room 9 s →
    Yields (.capsResend c ⟨l, by omega⟩) s (fun t => (lane t l).capsTx = true ∧ (lane t l).capsShard = true ∧ Queued 9 l 3 11 0 t)) ∧
  (∀ (c : Nat) (l : Fin 12) (s : State), laneLive s l = true → laneState s l = lCAPS → (lane s l).capsShard = true →
    Ends (.capsResend c l) c s (fun u => setLane l { lane u l with capsTx := true, capsShard := true } u)) ∧
  (∀ (c : Nat) (l : Fin 12) (s : State), laneLive s l = true → (lane s l).ranging = true → laneState s l = lRANGE → Room (laneSrc l) s →
    Yields (.rangeTimeout c l) s (fun t => laneState t l = lTRAIN ∧ Queued (laneSrc l) (laneNo l) 3 10 0 t)) ∧
  (∀ (c : Nat) (l : Fin 12) (s : State), laneLive s l = true → (lane s l).ranging = true → laneState s l ≠ lRANGE → Room (laneSrc l) s →
    Yields (.rangeTimeout c l) s (fun t => Queued (laneSrc l) (laneNo l) 3 10 0 t ∧ (lane t l).ranging = false ∧ laneState t l = laneState s l)) ∧
  (∀ (c : Nat) (l : Fin 8) (s : State), laneLive s l = true → laneState s l = lUP → Room 9 s →
    Yields (.trunkLost c l) s (fun t => laneState t l = lTRAIN ∧ Queued 9 l 3 9 0 t ∧ Stopped (onLane l) t ∧
      getF t (fTL_CNT_DOWN l) = min (2 ^ (fTL_CNT_DOWN l).width - 1) (getF s (fTL_CNT_DOWN l) + 1)))

/-- A received frame on a MAC whose link is up: one too short, too long, with a bad FCS or of another VLAN is dropped and counted; a PAUSE is taken; a
frame for which the buffer has no room, or that nothing takes, is counted; any other is dispatched. A PAUSE received stops transmission, its end
lets the queued frames go, highest queue first; PAUSE is sent again at half its time; a link that comes up is shown, and one that goes sends
ETH_LINK; an idle MAC asserts LPI (R256 to R266, R275). -/
def Obligations.EthernetComplete : Prop :=
  (∀ (c : Nat) (n : Fin 2) (f : EthFrame) (s : State), Running s → macUp s n = true →
     (f.len ≤ 63 → Ends (.ethFrame c n f) c s (bump (fETH_CNT_RUNT n))) ∧
     (63 < f.len → maxFrame s n f.vid.isSome < f.len → Ends (.ethFrame c n f) c s (bump (fETH_CNT_LONG n))) ∧
     (63 < f.len → f.len ≤ maxFrame s n f.vid.isSome →
       (f.fcsOk = false → Ends (.ethFrame c n f) c s (bump (fETH_CNT_FCS n))) ∧
       (f.fcsOk = true → vidGood s n f.vid = false → Ends (.ethFrame c n f) c s (bump (fETH_CNT2_FILT n))) ∧
       (f.fcsOk = true → vidGood s n f.vid = true →
         (∀ q, f.body = .pause q → Ends (.ethFrame c n f) c s (takePause n q)) ∧
         ((∀ q, f.body ≠ .pause q) →
           (262144 < rxBytes (mac s n) + f.len → Ends (.ethFrame c n f) c s (bump (fETH_CNT_OVF n))) ∧
           (rxBytes (mac s n) + f.len ≤ 262144 → dispatches s n f.body = false → Ends (.ethFrame c n f) c s (bump (fETH_CNT2_FILT n))) ∧
           (rxBytes (mac s n) + f.len ≤ 262144 → dispatches s n f.body = true → Ends (.ethFrame c n f) c s (fun u =>
             let t := dispatch n f.len f.body (fillNow n (rxBytes (mac s n) + f.len) u)
             fillNow n (rxBytes (mac t n)) t)))))) ∧
  ((∀ (c q : Nat) (n : Fin 2) (s : State), Running s → macUp s n = true → getF s (fETH_CTL_RXPAUSE n) = 1 → q ≠ 0 →
     negotiates s n = false ∨ (mac s n).pauseOk = true →
     Yields (.pauseReceived c n q) s (fun t => (mac t n).paused = true ∧
       getF t (fETH_CNT2_PRX n) = min (2 ^ (fETH_CNT2_PRX n).width - 1) (getF s (fETH_CNT2_PRX n) + 1))) ∧
   (∀ (c : Nat) (n : Fin 2) (s : State), Running s → (mac s n).paused = true →
     Ends (.pauseExpiry c n) c s (fun u => foldState (putTx n)
       ([7, 6, 5, 4, 3, 2, 1, 0].flatMap (fun k => (mac s n).txq.filter (fun i => i.queue == k)))
       (setMac n { mac u n with paused := false, txq := [] } u))) ∧
   (∀ (c : Nat) (n : Fin 2) (s : State), Running s → macUp s n = true → (mac s n).asserted = true →
     getF s (fETH_WM_LOW n) * 262144 < rxBytes (mac s n) * 100 →
     Ends (.pauseSend c n true) c s (sendPause n (getF s (fETH_WM_PQUANTA n))) ∧
     Yields (.pauseSend c n true) s (fun t => t.wire = [.pause n (getF s (fETH_WM_PQUANTA n))])) ∧
   (∀ (c : Nat) (n : Fin 2) (s : State), Running s → getF s (fETH_CTL_EN n) = 1 → getF s (fETH_CTL_MODE n) ≠ 0 → s.kiln.resets = [] →
     ∀ full pause : Bool, full = true ∨ negotiates s n = false →
       Yields (.ethLink c n ⟨true, full, pause⟩) s (fun t => macUp t n = true ∧ (mac t n).pauseOk = pause)) ∧
   (∀ (c : Nat) (n : Fin 2) (pause : Bool) (s : State), Running s → negotiates s n = true → macUp s n = false →
     Yields (.ethLink c n ⟨true, false, pause⟩) s (fun t => macUp t n = false)) ∧
   (∀ (c : Nat) (n : Fin 2) (full pause : Bool) (s : State), Running s → macUp s n = true →
     Ends (.ethLink c n ⟨false, full, pause⟩) c s (fun u => send 10 n 3 13 0 (loseMacLink n u))) ∧
   (∀ (c : Nat) (n : Fin 2) (s : State), Running s → lpiAllowed s n = true →
     Yields (.lpiAssert c n) s (fun t => (getF t fETH_STAT_LPI).testBit n = true)))

/-- Received frames are accepted by length: 63 bytes or less is a runt whatever its FCS; with JUMBO 0 an untagged frame above 1,518 and a
tagged one above 1,522, and any above 9,216, is LONG, whatever its FCS; one of accepted length with a bad FCS counts in FCS. None of
them leaves anything else (R260). -/
def Obligations.FrameLengthsAreChecked : Prop :=
  ∀ (c : Nat) (n : Fin 2) (f : EthFrame) (s : State), Running s → macUp s n = true →
    (f.len ≤ 63 → Ends (.ethFrame c n f) c s (bump (fETH_CNT_RUNT n))) ∧
    (getF s (fETH_CTL_JUMBO n) = 0 → f.vid = none → 1519 ≤ f.len → Ends (.ethFrame c n f) c s (bump (fETH_CNT_LONG n))) ∧
    (getF s (fETH_CTL_JUMBO n) = 0 → f.vid ≠ none → 1523 ≤ f.len → Ends (.ethFrame c n f) c s (bump (fETH_CNT_LONG n))) ∧
    (9217 ≤ f.len → Ends (.ethFrame c n f) c s (bump (fETH_CNT_LONG n))) ∧
    (64 ≤ f.len → f.len ≤ (if getF s (fETH_CTL_JUMBO n) = 1 then 9216 else if f.vid = none then 1518 else 1522) →
      (f.fcsOk = false → Ends (.ethFrame c n f) c s (bump (fETH_CNT_FCS n))) ∧
      (f.fcsOk = true → Yields (.ethFrame c n f) s (fun t => ∀ g ∈ [fETH_CNT_RUNT n, fETH_CNT_LONG n, fETH_CNT_FCS n], getF t g = getF s g)))

/-- AES67 streams: AES_STREAM_SET stages the clamped settings and AES_STREAM_STATUS and ETH_STATUS answer; a packet goes out with its
number and time advanced, and one that could not go before its next is dropped and counted (R267 to R274, R277). -/
def Obligations.AesStreamsComplete : Prop :=
  (∀ (r : Req) (o : Nat) (f : AesFields) (a : AesDef) (s : State), Live s → Latches r s → aesDef s.oven o = some a →
    Ends (.aesStreamSet r o f) r.c s (fun u =>
      replyOK r 0x0710 (aesBytes o (clampAes a f)) (stage r 0x0710 (aesBytes o (clampAes a f)) [.aes o (clampAes a f)] u))) ∧
  (∀ (r : Req) (o : Nat) (a : AesDef) (s : State), Live s → aesDef s.oven o = some a →
    Ends (.aesStreamStatus r o) r.c s (replyOK r 0x0711 ([byteOf (stream s o).state, 0, 0, 0] ++ be4 (stream s o).packets ++
      be4 (stream s o).gaps ++ be4 (stream s o).stale ++ be4 (stream s o).early ++ beWord (stream s o).lastTs))) ∧
  (∀ (r : Req) (n k : Nat) (s : State), Live s →
    Ends (.ethStatus r n k) r.c s (fun u =>
      (if 1 ≤ k then foldState (fun f => setF f 0) [fETH_CNT_RUNT (min n 1), fETH_CNT_LONG (min n 1), fETH_CNT_FCS (min n 1), fETH_CNT_OVF (min n 1),
        fETH_CNT2_PTX (min n 1), fETH_CNT2_PRX (min n 1), fETH_CNT2_FILT (min n 1), fETH_CNT2_LATE (min n 1), fETH_FILL_PEAK (min n 1)] else id)
        (replyOK r 0x0712 (be4 (peekReg u (rETH_CTL (min n 1))) ++ be4 (peekReg u (rETH_WM (min n 1))) ++ be4 (peekReg u (rETH_EEE (min n 1))) ++
          be4 (peekReg u (rETH_FILL (min n 1))) ++ be4 (peekReg u (rETH_CNT (min n 1))) ++ be4 (peekReg u (rETH_CNT2 (min n 1))) ++
          be2 (mac u (min n 1)).twReq ++ [0, 0]) u))) ∧
  (∀ (c o p : Nat) (a : AesDef) (s : State), Running s → aesDef s.oven o = some a → isTx o = true → streamOn s o = true → aesSends s = true →
    macUp s a.mac = true →
    Yields (.aesPacketSend c o p) s (fun t => stream t o = { stream s o with
      seq := ((stream s o).seq + 1) % 65536, packets := ((stream s o).packets + 1) % 2 ^ 32,
      lastTs := BitVec.ofNat 32 (p / aesPeriod a + (stream s o).set.rtpOff.toNat) })) ∧
  (∀ (c o k : Nat) (a : AesDef) (s : State), Running s → aesDef s.oven o = some a →
    (mac s a.mac).txq.findIdx? (fun i => i.owner == some o) = some k →
    Yields (.aesPacketLate c o) s (fun t => (mac t a.mac).txq = (mac s a.mac).txq.eraseIdx k ∧
      getF t (fETH_CNT2_LATE a.mac) = min (2 ^ (fETH_CNT2_LATE a.mac).width - 1) (getF s (fETH_CNT2_LATE a.mac) + 1)))

/-! ## Clock Unit and twins (chapters 11, 12) -/

/-- The clock commands: CLK_TABLE_SET and CLK_SELECT store settings clamped and follow them, CLK_STATUS answers, CLK_ALIGN begins under a
handle, CLK_STEER sets the DCO's word, CLK_OUT_SET the outputs (R278, R289 to R303). -/
def Obligations.ClockCommandsComplete : Prop :=
  (∀ (r : Req) (e m : Nat) (ws : List Word) (raw new : List Nat) (s : State), Live s →
    hasTwin s = true ∨ (m.testBit 1 && bits (ws.headD 0).toNat 5 1 == 12) = false →
    raw = applyWords (clkAddrs (min e 15)) 0 m (ws.map (·.toNat)) (heldWords s (clkAddrs (min e 15))) →
    new = (match raw with
      | cfg :: lim :: t => clampCfg cfg :: clampLim lim :: t
      | l => l) →
    Ends (.clkTableSet r e m ws) r.c s (fun u => replyOK r 0x0800 (new.flatMap be4)
      (followCfg (min e 15) ((heldWords s (clkAddrs (min e 15))).headD 0) (storeWords (clkAddrs (min e 15)) new u)))) ∧
  (∀ (r : Req) (sm man lp sl tau : Nat) (s : State), Live s →
    Ends (.clkSelect r sm man lp sl tau) r.c s (fun u => replyOK r 0x0801
      ([byteOf (min sm 3), byteOf (min man 15), byteOf (min lp 1), 0] ++ be2 (clampN 1 100 sl) ++ be2 (clampN 10 3600 tau))
      (followCtlWord (getF s fCLK_CTL_LOOP) (setF fCLK_CTL_SELMODE (min sm 3) (setF fCLK_CTL_MANUAL (min man 15)
        (setF fCLK_CTL_LOOP (min lp 1) (setF fCLK_CTL_ALSLEW (clampN 1 100 sl) (setF fCLK_CTL_HOLDTAU (clampN 10 3600 tau) u)))))))) ∧
  (∀ (r : Req) (k : Nat) (s : State), Live s →
    Ends (.clkStatus r k) r.c s (fun u => (if 1 ≤ k then clearClkCnt else id) (replyOK r 0x0802
      (([rCLK_STAT, rCLK_CTL, rCLK_OUT, rCLK_FREQ, rCLK_BANK, rCLK_PHASE, rCLK_PHERR, rCLK_CNT] ++ (List.range 16).map (fun e => rCLK_STS e)).flatMap
        (fun a => be4 (peekReg u a))) u))) ∧
  (∀ (r : Req) (e : Nat) (s : State), Live s → HandleFree r s → getF s fTWIN_STAT_ROLE ≠ 2 → selected s = some e → alignKind s e ≠ .none →
    clkState s = kLOCKED → (isPps s e = true → (ent s e).pps = true) → getF s fCLK_STAT_ALIGNING = 0 →
    Ends (.clkAlign r) r.c s (fun u => accept r 0x0803 (.align (getFI s fCLK_PHASE_PHASE)) (setF fCLK_STAT_ALIGNING 1 u))) ∧
  (∀ (r : Req) (w : Word) (s : State), Live s → getF s fCLK_CTL_LOOP ≠ 0 ∨ getF s fCLK_CTL_SELMODE = 3 →
    Ends (.clkSteer r w) r.c s (fun u =>
      let v := clampI (-500000000) 500000000 w.toInt
      replyOK r 0x0804 (be4 (unsigned 32 v))
        (if getF s fCLK_CTL_SELMODE = 3 then setFI fCLK_FREQ_FREQ v u else setF fCLK_STAT_STATE kOPEN (setFI fCLK_FREQ_FREQ v u)))) ∧
  (∀ (r : Req) (w : Word) (s : State), Live s →
    Ends (.clkOutSet r w) r.c s (fun u =>
      let t := storeWords [rCLK_OUT] (applyWords [rCLK_OUT] 0 0xF [w.toNat] (heldWords u [rCLK_OUT])) u
      replyOK r 0x0805 (be4 (peekReg t rCLK_OUT)) t))

/-- The Clock Unit's own events: every 100 ms the entries, the selection, the loop and the bank are updated; a lost source is NOSIG and
counted, and the selection follows; a bad PPS edge sends PPS_BAD; the loop locks and unlocks; the bank's word is copied to retention
RAM; a steered clock left alone banks itself; an alignment ends at phase 0; the root loop loses its lock and regains it (R281 to
R293, R298 to R303). -/
def Obligations.ClockEventsComplete : Prop :=
  (∀ (c : Nat) (ms : List ClkMeas) (s : State), clkLive s = true → Ends (.clockUpdate c ms) c s (clockUpdate ms)) ∧
  (∀ (c src e : Nat) (s : State), clkLive s = true → entOfSource s src = some e →
    Ends (.refLos c src) c s (fun u => reselect (loseEnt e (if src = 13 then setF fETH_STAT_PTPLOCK 0 u else u)))) ∧
  (∀ (e : Nat) (s : State), entState s e ≠ eOFF → entState s e ≠ eNOSIG → selected s ≠ some e → Room 2 s →
    entState (loseEnt e s) e = eNOSIG ∧ Queued 2 e 4 2 0 (loseEnt e s) ∧ (ent (loseEnt e s) e).good = 0) ∧
  (∀ (c : Nat) (e : Fin 16) (s : State), clkLive s = true → acting s e = true → isPps s e = true → Room 2 s →
    Yields (.ppsBad c e) s (fun t => Queued 2 e 4 9 0 t ∧
      ent t e = { ent s e with pps := false, ppsOk := 0, phi := (ent t e).phi })) ∧
  (∀ (c : Nat) (s : State), clkLive s = true → clkState s = kLOCKING → Ends (.clockLocked c) c s (setF fCLK_STAT_STATE kLOCKED)) ∧
  (∀ (c : Nat) (s : State), clkLive s = true → clkState s = kLOCKED → Room 2 s →
    Yields (.unlock c) s (fun t => clkState t = kLOCKING ∧ Queued 2 (getF s fCLK_STAT_SEL) 4 8 0 t)) ∧
  (∀ (c : Nat) (s : State), Running s → MemForm s → Yields (.bankCopy c) s (fun t => memWord t bankAddr = getF s fCLK_BANK_BANK % 2 ^ 32 ∧
    ∀ a, a < bankAddr ∨ bankAddr + 4 ≤ a → memByte t a = memByte s a)) ∧
  (∀ (c : Nat) (s : State), clkLive s = true → clkState s = kOPEN → Room 2 s →
    Yields (.openTimeout c) s (fun t => clkState t = kBANKED ∧ Queued 2 0 4 11 0 t)) ∧
  (∀ (c e : Nat) (s : State), clkLive s = true → selected s = some e → getF s fCLK_STAT_ALIGNING = 1 →
    Ends (.alignDone c) c s alignDone ∧ Yields (.alignDone c) s (fun t => getF t fCLK_STAT_ALIGNING = 0 ∧ getF t fCLK_PHASE_PHASE = 0 ∧
      (ent t e).phase = 0 ∧ Stopped isAlign t)) ∧
  (∀ (c : Nat) (s : State), Running s → getF s fCLK_STAT_ROOTLOCK = 1 → Room 2 s →
    Yields (.rootUnlock c) s (fun t => getF t fCLK_STAT_ROOTLOCK = 0 ∧ Queued 2 0 4 14 0 t)) ∧
  (∀ (c : Nat) (s : State), Running s → Ends (.rootLock c) c s (setF fCLK_STAT_ROOTLOCK 1))

/-- TWIN_CONFIG stores the fields of MASK and follows the role where R305 allows it; TWIN_JOIN and TWIN_SWITCH begin under a handle; TWIN_STATUS
answers. A frame of the pair on a lane that is UP shows the peer and brings its cells; a mirror record is applied by a synchronised standby (its
SPACE codes are log entry 18); a forwarded command on time is a packet of channel 3, and one that comes too late ends the standby's READY; a lane
that is lost sends TWIN_LANE (R305 to R320, R328, R333). -/
def Obligations.TwinsComplete : Prop :=
  ((∀ (r : Req) (w : Word) (m : Nat) (new : List Nat) (s : State), Live s → hasTwin s = true →
     new = applyWords [rTWIN_CFG] 0 m [w.toNat] (heldWords s [rTWIN_CFG]) →
     (m.testBit 0 = true → roleRefused s (new.headD 0 % 4) = false) → role s ≠ tSTANDBY ∨ sync s = 0 →
     Ends (.twinConfig r w m) r.c s (fun u =>
       let t := (if m.testBit 0 then followRole (new.headD 0 % 4) else id) (storeWords [rTWIN_CFG] new u)
       replyOK r 0x0900 (be4 (getF t fTWIN_CFG_ROLE + 4 * getF t fTWIN_CFG_SIDE + 8 * getF t fTWIN_CFG_AUTOJOIN + 16 * getF t fTWIN_CFG_PREFER +
         65536 * getF t fTWIN_CFG_PAIRID)) t)) ∧
   (∀ (r : Req) (s : State), Live s → hasTwin s = true → HandleFree r s → joinOk s = true → s.twin.join = 0 →
     Yields (.twinJoin r) s (fun t => Accepted r 0x0901 .join s t ∧ t.twin = { s.twin with join := 1, rejoin := false })) ∧
   (∀ (r : Req) (k : Nat) (s : State), Live s → hasTwin s = true → HandleFree r s → inPair s = true → 2 ≤ switchSync s →
     switchSync s ≠ 3 ∨ k ≠ 0 →
     Yields (.twinSwitch r k) s (fun t => Accepted r 0x0902 .switch s t ∧ t.twin.swreq = 4 ∧ t.twin.force = decide (1 ≤ k))) ∧
   (∀ (r : Req) (k : Nat) (s : State), Live s → hasTwin s = true →
     Ends (.twinStatus r k) r.c s (fun u =>
       (if 1 ≤ k then foldState (fun f => setF f 0) [fTWIN_CNT_DIVERGE, fTWIN_CNT_MISS, fTWIN_CNT_GRANT, fTWIN_CNT_SYNCLOSS, fTWIN_MIRPK_PEAK] else id)
         (replyOK r 0x0903 ([rTWIN_STAT, rTWIN_CFG, rTWIN_CLAIM, rTWIN_MIR, rTWIN_MIRPK, rTWIN_COPY, rTWIN_CNT].flatMap
           (fun a => be4 (peekReg u a)) ++ (if role u = tREFEREE then be4 (peekReg u (rTWIN_SIDE 0)) ++ be4 (peekReg u (rTWIN_SIDE 1)) else [])) u)))) ∧
  ((∀ (c : Nat) (l : Fin 4) (f : TwinFrame) (s : State), laneLive s (8 + l) = true → laneState s (8 + l) = lUP → f.comma = true →
     f.header.length = 12 → num f.header 10 2 = crc16 (f.header.take 10) → num f.header 8 2 = getF s fTWIN_CFG_PAIRID →
     num f.header 6 1 % 4 = l →
     EndsMem (.twinFrame c l f) c s (fun u =>
       let v := foldState (takeMsg (8 + l) f.det 2) (areaMsgs 1024 f.msgs) (takeTwinHeader f.header (takeComma (8 + l) true u))
       if laneState v (8 + l) = lUP then foldState takeCell f.cells v else v)) ∧
   (∀ (c : Nat) (m : MirrorRec) (s : State), Running s → hasTwin s = true → role s = tSTANDBY → sync s ≠ 0 →
     EndsMem (.mirrorApply c m) c s (foldState (fun e t => applyWordDecl m.space (m.addr.toNat + e.2) e.1 t) m.words.zipIdx)) ∧
   (∀ (c : Nat) (w : Word) (b : List Byte) (s : State), Running s → role s = tSTANDBY → s.twin.join ≠ 2 → sync s ≠ 0 →
     (tooLate s c w = false → commandsLive s = true → EndsMem (.forwardedCommand c w b) c s (packet c 3 (some w) b)) ∧
     (tooLate s c w = true → EndsMem (.forwardedCommand c w b) c s (loseSync 2 true) ∧
       Yields (.forwardedCommand c w b) s (fun t => sync t = 0))) ∧
   (∀ (c : Nat) (l : Fin 4) (s : State), laneLive s (8 + l) = true → laneState s (8 + l) = lUP → Room 13 s → role s ≠ tACTIVE →
     Yields (.twinLaneLoss c l) s (fun t => laneState t (8 + l) = lTRAIN ∧ Queued 13 l 10 7 0 t)))

/-- The referee's words: a twin and a referee send theirs each quarter; a twin without one for too long sends REF_LOST once; a valid
word shows its claim, and grants or ends the ACTIVE role; a referee judges each quarter from both sides; a switch that no grant
answers fails (R322 to R328, R333). -/
def Obligations.RefereeWordsComplete : Prop :=
  (∀ (c : Nat) (q : Fin 4) (s : State), Running s → hasRef s = true → inPair s = true →
    Yields (.twinWordSend c q) s (fun t => t.wire = [.referee 0 (twinWord s q)] ∧ t.twin.swreq = s.twin.swreq - 1 ∧ t.twin.gotWord = false ∧
      t.twin.missed = s.twin.missed + (if s.twin.gotWord then 0 else 1))) ∧
  (∀ (c : Nat) (q : Fin 4) (s : State), Running s → hasRef s = true → inPair s = false → role s = tREFEREE →
    Yields (.twinWordSend c q) s (fun t => t.wire = [.referee 0 (refereeWordOf s q), .referee 1 (refereeWordOf s q)] ∧
      t.twin.seq = (s.twin.seq + 1) % 65536 ∧ t.twin.grant = s.twin.grant - 1)) ∧
  (∀ (c : Nat) (s : State), Running s → hasRef s = true → inPair s = true → s.twin.lostSent = false → Room 13 s →
    Yields (.refLost c) s (fun t => getF t fTWIN_STAT_REFOK = 0 ∧ t.twin.lostSent = true ∧ Queued 13 0 10 6 0 t)) ∧
  (∀ (c : Nat) (w : List Byte) (s : State), Running s → hasRef s = true → inPair s = true → wordValid s w = true →
    Ends (.refereeWord c w) c s (takeRefereeWord w) ∧
    Yields (.refereeWord c w) s (fun t => getF t fTWIN_STAT_REFOK = 1 ∧ t.twin.gotWord = true ∧ t.twin.missed = 0)) ∧
  (∀ (c : Nat) (w : List Byte) (s : State), Running s → hasRef s = true → wordValid s w = true → (num w 2 1).testBit 1 = true →
    (num w 2 1 % 2 = getF s fTWIN_CFG_SIDE → (num w 2 1).testBit 2 = true → role s = tSTANDBY →
      Yields (.refereeWord c w) s (fun t => role t = tACTIVE ∧ getF t fTWIN_CLAIM_CLAIM = num w 0 2)) ∧
    (num w 2 1 % 2 ≠ getF s fTWIN_CFG_SIDE → role s = tACTIVE →
      Yields (.refereeWord c w) s (fun t => role t = tSTANDBY ∧ sync t = 0))) ∧
  (∀ (c : Nat) (a b : Option (List Byte)) (s : State), Running s → hasRef s = true → role s = tREFEREE →
    (∀ o, s.twin.owner = some o → Ends (.refereeQuarter c a b) c s (fun x => refereeOwned o (sideOk s a) (sideOk s b) (takeSide 1 b (takeSide 0 a x)))) ∧
    (s.twin.owner = none → Ends (.refereeQuarter c a b) c s (fun x => refereeFree (sideOk s a) (sideOk s b) (takeSide 1 b (takeSide 0 a x))))) ∧
  (∀ (c : Nat) (s : State), Running s → Ends (.twinSwitchTimeout c) c s (finishAll isSwitch stFAILED []) ∧
    Yields (.twinSwitchTimeout c) s (Stopped isSwitch))

/-- On a STANDBY the commands that must reach both twins at once are answered DENIED, DETAIL 8, on channels 0 to 2. The active stages them
for a boundary that both reach and sends them, with it, over channel 3; a command from channel 3 takes effect at the boundary it
names (R150, R206, R227). -/
def Obligations.TwinsShareCommands : Prop :=
  (∀ (r : Req) (s : State), Live s → getF s fTWIN_STAT_ROLE = 2 → r.ch ≠ 3 →
    (∀ (xs : List XpEntry) (b l : Nat) (rs : List RouteEntry) (ds : List DelayEntry),
      Ends (.xpSet r xs) r.c s (reply r 0x0300 stDENIED 8 []) ∧ Ends (.routeSet r b l rs) r.c s (reply r 0x0302 stDENIED 8 []) ∧
      Ends (.delaySet r ds) r.c s (reply r 0x0304 stDENIED 8 [])) ∧
    (∀ (k m : Nat) (f : DynFields), dynAbsent s k = false → Ends (.dynSet r k m f) r.c s (reply r 0x0400 stDENIED 8 [])) ∧
    (∀ (m o : Nat) (ws : List Word), hasMod s = true →
      (HandleFree r s → Ends (.stageTrain r m) r.c s (reply r 0x0600 stDENIED 8 [])) ∧
      (∀ i ∈ [Instr.stageRunRun r m, .stageRunArm r m, .stageRunOff r m, .stageRunClearLatch r m], Ends i r.c s (reply r 0x0601 stDENIED 8 [])) ∧
      Ends (.stageSet r o m ws) r.c s (reply r 0x0602 stDENIED 8 [])) ∧
    (∀ (m o k : Nat) (ws : List Word), hasProt s = true →
      Ends (.protSet r o m ws) r.c s (reply r 0x0610 stDENIED 8 []) ∧
      (HandleFree r s → Ends (.protSweep r o) r.c s (reply r 0x0612 stDENIED 8 []) ∧ Ends (.protCal r o k) r.c s (reply r 0x0613 stDENIED 8 [])))) ∧
  (∀ (r : Req) (op : Nat) (p : List Byte) (ws : List StagedWrite) (s : State),
    (stage r op p ws s).staged = s.staged ++ ws.map (fun w => { due := dueOf r s, w := w }) ∧
    (joined s = true → r.target = none → (stage r op p ws s).wire = s.wire ++ [.ch3 (dueOf r s) op p]) ∧
    (∀ d : Word, r.target = some d → dueOf r s = d ∧ (stage r op p ws s).wire = s.wire)) ∧
  (∀ (r : Req) (m : Nat) (s : State), Live s → hasMod s = true → HandleFree r s → getF s fTWIN_STAT_ROLE ≠ 2 ∨ r.ch = 3 → m % 65536 ≠ 0 →
    (∀ n ∈ maskList 16 (m % 65536), outState s n ≠ oLATCHED) → m % 65536 &&& trainingLanes s = 0 → targeted r s = true →
    Ends (.stageTrain r m) r.c s (fun u =>
      accept r 0x0600 (.train (m % 65536)) (stage r 0x0600 (be2 (m % 65536) ++ [0, 0]) [.train (m % 65536)] u))) ∧
  (∀ (r : Req) (o : Nat) (s : State), Live s → hasProt s = true → HandleFree r s → getF s fTWIN_STAT_ROLE ≠ 2 ∨ r.ch = 3 →
    targeted r s = true →
    (outState s (min o 15) = oARMED → sweepsOn (min o 15) s = false →
      Ends (.protSweep r o) r.c s (fun u =>
        accept r 0x0612 (.sweep (min o 15)) (stage r 0x0612 [byteOf (min o 15), 0, 0, 0] [.sweep (min o 15)] u))) ∧
    (∀ k : Nat, sourceBarred s (min o 15) = false → outState s (min o 15) = oRUN → calsOn (min o 15) s = false →
      Ends (.protCal r o k) r.c s (fun u =>
        let v := clampI (-40) 60 (signed 8 (k % 256))
        accept r 0x0613 (.cal (min o 15)) (stage r 0x0613 [byteOf (min o 15), byteOf (BitVec.ofInt 8 v).toNat, 0, 0] [.cal (min o 15) v] u))))

/-! ## Kiln, supplies, resets and power states (chapter 13) -/

/-- Each source holds up to 16 waiting shards; one that finds its source's queue full is lost and counted in KILN_CNT.DROP. The Kiln takes one
shard at a time, of the lowest source, within a source a real one before an injected one, and reacts to it (R337, R340 to R342). -/
def Obligations.ShardsAreTaken : Prop :=
  (∀ (x : Shard) (s : State), 16 ≤ (s.kiln.waiting.filter (fun y => y.src == x.src)).length → enqueue x s = bump fKILN_CNT_DROP s) ∧
  (∀ (x : Shard) (s : State), (s.kiln.waiting.filter (fun y => y.src == x.src)).length < 16 →
    enqueue x s = { s with kiln := { s.kiln with waiting := s.kiln.waiting ++ [x] } }) ∧
  (∀ (c : Nat) (x : Shard) (s : State), Running s → nextShard s = some x →
    EndsMem (.shard c) c s (fun u => takeShard x (dropWaiting x u))) ∧
  (∀ (x : Shard) (s : State), nextShard s = some x →
    x ∈ s.kiln.waiting ∧ (∀ y ∈ s.kiln.waiting, x.src ≤ y.src) ∧
    (x.inj = true → ∀ y ∈ s.kiln.waiting, y.src = x.src → y.inj = true)) ∧
  (∀ s : State, nextShard s = none → s.kiln.waiting = [])

/-- The Kiln's commands and registers: reading takes entries from the log and LOST with them, acknowledging and clearing name classes, an injected shard
is taken at once and shown as logged, a kind's level is set (levels fixed at 5 stay), and status answers (R336 to R344, R357, R358).
Acknowledgement, by command and by register, clears UNACK and ESC of the classes it names, leaves the others', and leaves ACTIVE (R343). -/
def Obligations.KilnCommandsComplete : Prop :=
  ((∀ (r : Req) (s : State), Live s →
     (∀ n : Nat, Ends (.kilnRead r n) r.c s (fun u =>
       let es := s.kiln.log.take (clampN 1 255 n)
       replyOK r 0x0A00 (be2 es.length ++ be2 (getF s fKILN_LOGSTAT_LOST) ++ es.flatMap entryBytes)
         (setF fKILN_LOGSTAT_LOST 0 { u with kiln := { u.kiln with log := u.kiln.log.drop es.length, logPos := 0 } }))) ∧
     (∀ m : Nat, Ends (.kilnAck r m) r.c s (fun u =>
         replyOK r 0x0A01 (be2 (getF (acknowledge (m % 2 ^ 11) u) fKILN_STAT_UNACK) ++ [0, 0]) (acknowledge (m % 2 ^ 11) u)) ∧
       EndsMem (.kilnClear r m) r.c s (fun u =>
         let o := clearClasses (m % 2 ^ 11) u
         replyOK r 0x0A02 (be2 o.cleared ++ be2 (o.refused.foldl (fun k e => k + 2 ^ e.1) 0) ++ o.refused.flatMap (fun e => [byteOf e.1, byteOf e.2])) o.s)) ∧
     (∀ (k n l : Nat), kindDefined k n = true →
       Yields (.kilnLevelSet r k n l) s (fun t =>
         let v := if defaultLevel (k * 256 + n) = 5 then 5 else min l 5
         kindLevel t k n = v ∧ Replied r 0x0A04 [byteOf v, 0, 0, 0] s t)) ∧
     Ends (.kilnStatus r) r.c s (fun u => replyOK r 0x0A05
       (([rKILN_STAT, rKILN_LOGSTAT, rKILN_CNT, rKILN_LASTH, rKILN_LASTL, rPWR_STAT].flatMap (fun a => be4 (peekReg u a))) ++
         (List.range 11).flatMap (fun c => (List.range (kindLevels c).length).map (fun k => byteOf (kindLevel u c (k + 1))))) u)) ∧
   (∀ (r : Req) (src i k n d : Nat) (w : Word) (x : Shard) (s : State), Live s → unitAbsent s (min src 24) = false →
     kindDefined (min k 10) n = true →
     x = { inj := true, dry := decide (1 ≤ d), src := min src 24, inst := i, cls := min k 10, kind := n, ctx := w.toNat } →
     EndsMem (.kilnInject r src i k n w d) r.c s (fun u =>
       let t := takeShard x (drainSource x.src u)
       replyOK r 0x0A03 (shardBytes (match t.kiln.log.reverse.find? (fun e => e.shard.inj && e.seq == (drainSource x.src u).kiln.seq) with
         | some e => e.shard
         | none => x)) t)) ∧
   (∀ (c : Nat) (m : Master) (v : Word) (s : State), Running s →
     Ends (.kilnAckRegister c m v) c s (acknowledge (v.toNat % 2 ^ 11)) ∧
     EndsMem (.activeClear c m v) c s (fun u => (clearClasses (v.toNat % 2 ^ 11) u).s)) ∧
   (∀ (c : Nat) (m : Master) (s : State), Running s →
     Yields (.kilnLog c m) s (fun t => t.wire = [.fabric [BitVec.ofNat 32 (logWord s)] false 0] ∧
       (s.kiln.log ≠ [] → s.kiln.logPos < 3 → t.kiln.log = s.kiln.log ∧ t.kiln.logPos = s.kiln.logPos + 1) ∧
       (3 ≤ s.kiln.logPos → t.kiln.log = s.kiln.log.drop 1)))) ∧
  ((∀ (r : Req) (m : Nat) (s : State), Live s → Yields (.kilnAck r m) s (Acknowledged m s)) ∧
   (∀ (c : Nat) (a : Master) (v : Word) (s : State), Running s → Yields (.kilnAckRegister c a v) s (Acknowledged v.toNat s)))

/-- A dip with the Damper off shows its rail, turns the Damper on, counts, stops an NVS write and sends DIP; its end takes all of that back and writes
what was held; a low Keep battery and a hot die send their shards, the die's once until it has cooled (its re-arm points are the model's, log entry
30). STANDBY_ENTER and STANDBY_LEAVE begin under a handle and show in PWR_STAT at once, SYS_DORMANT in Standby is taken and DORMANT_ENTRY leaves
only the Keep domain powered, and KEEP_WAKE raises KEEP_PWREN (R348 to R355, R358, R360). -/
def Obligations.SuppliesAndPowerComplete : Prop :=
  ((∀ (c : Nat) (n : Fin 6) (s : State), Running s → getF s fPWR_STAT_DAMPER = 0 → Room 16 s →
     Yields (.dip c n) s (fun t => getF t fPWR_STAT_DAMPER = 1 ∧ (getF t fPWR_STAT_WARN).testBit n = true ∧ getF t fNVS_STAT_BUSY = 0 ∧
       Queued 16 0 5 1 n t ∧ getF t fPWR_CNT_DIPS = min (2 ^ fPWR_CNT_DIPS.width - 1) (getF s fPWR_CNT_DIPS + 1))) ∧
   (∀ (c : Nat) (s : State), Running s → getF s fPWR_STAT_DAMPER = 1 → Room 16 s →
     Yields (.dipEnd c) s (fun t => getF t fPWR_STAT_DAMPER = 0 ∧ Queued 16 0 5 2 0 t ∧
       getF t fPWR_STAT_WARN = getF s fPWR_STAT_WARN / 64 * 64 % 2 ^ fPWR_STAT_WARN.width ∧
       (s.kiln.standing = [] → t.pwr.held = []))) ∧
   (∀ (c : Nat) (s : State), Running s → Room 16 s →
     Yields (.vkeepLow c) s (fun t => (getF t fPWR_STAT_WARN).testBit 6 = true ∧ Queued 16 0 5 3 0 t)) ∧
   (∀ (c : Nat) (j : Int) (s : State), Running s → 1050 < j → s.pwr.tjWarned = false → Room 16 s →
     Yields (.tjWarn c j) s (fun t => t.pwr.tjWarned = true ∧ Queued 16 0 6 5 0 t)) ∧
   (∀ (c : Nat) (j : Int) (s : State), Running s → j ≤ 1000 → Yields (.tjWarn c j) s (fun t => t.pwr.tjWarned = false)) ∧
   (∀ (c : Nat) (j : Int) (s : State), Running s → 1200 < j → s.pwr.tjCrit = false → Room 16 s →
     Yields (.tjCrit c j) s (fun t => t.pwr.tjCrit = true ∧ Queued 16 0 6 6 0 t)) ∧
   (∀ (c : Nat) (j : Int) (s : State), Running s → j ≤ 1150 → Yields (.tjCrit c j) s (fun t => t.pwr.tjCrit = false))) ∧
  ((∀ (r : Req) (s : State), Live s → HandleFree r s → getF s fPWR_STAT_STANDBY = 0 →
     Yields (.standbyEnter r) s (fun t => Accepted r 0x0007 .standbyEnter s t ∧ getF t fPWR_STAT_STANDBY = 1 ∧
       (s.pwr.standby = .awake → t.pwr.standby = .entering 100))) ∧
   (∀ (r : Req) (s : State), Live s → HandleFree r s → getF s fPWR_STAT_STANDBY = 1 →
     Yields (.standbyLeave r) s (fun t => Accepted r 0x0007 .standbyLeave s t ∧ getF t fPWR_STAT_STANDBY = 0 ∧
       (s.pwr.standby = .gated → t.pwr.standby = .leaving))) ∧
   (∀ (r : Req) (s : State), Live s → getF s fPWR_STAT_STANDBY = 1 →
     Ends (.sysDormant r 0xD5E7) r.c s (fun u => replyOK r 0x0008 [] { u with pwr := { u.pwr with dormDue := true } })) ∧
   (∀ (c : Nat) (s : State), Running s → s.pwr.dormDue = true → getF s fPWR_STAT_STANDBY = 1 →
     Yields (.dormantEntry c) s (fun t => t.pwr.phase = .dormant ∧ t.pwr.keepPwren = false)) ∧
   (∀ s : State, s.pwr.phase = .dormant → Yields .keepWake s (fun t => t.pwr = { s.pwr with keepPwren := true })))

/-- Resets that take the whole engine: each leaves it held in reset, with the field of SYS_RSTCAUSE of its cause alone, and no command
channel, oven, output or Kiln state; RESET_RELEASE lets the engine run (R350, R351, R355). -/
def Obligations.FullResetsComplete : Prop :=
  (∀ s : State, Yields .coldReset s (HeldInReset 0)) ∧
  (∀ (c : Nat) (s : State), poweredUp s = true → Yields (.pinReset c) s (HeldInReset 1)) ∧
  (∀ (c : Nat) (n : Fin 6) (s : State), poweredUp s = true → Yields (.brownOut c n) s (HeldInReset 2)) ∧
  (∀ (c : Nat) (s : State), Running s → Yields (.watchdogExpiry c true) s (HeldInReset 3)) ∧
  (∀ (c : Nat) (s : State), Running s → s.pwr.softDue = true → Yields (.softReset c) s (HeldInReset 4)) ∧
  (∀ s : State, s.pwr.phase = .held → Yields .resetRelease s (fun t => t.pwr = { s.pwr with phase := .run })) ∧
  (∀ s : State, s.pwr.phase = .dormant → Yields .resetRelease s (fun t => t.pwr.phase = .run ∧ getF t fSYS_RSTCAUSE_DORM = 1)) ∧
  (∀ s : State, Yields .vkeepFall s (fun t => t.pwr.phase = .keepLow)) ∧
  (∀ (r : Req) (s : State), Live s →
    Ends (.deviceReset r 0xD5E7) r.c s (fun u => replyOK r 0x0002 [] { u with pwr := { u.pwr with softDue := true } }))

/-- The control resets: CONTROL_RESET and the watchdog's first expiry reset the Control domain and open its window, and its end takes
what waited; a Unit reset and a masking window end (R59 to R61, R341 to R347, R359). -/
def Obligations.ControlResetsComplete : Prop :=
  (∀ (r : Req) (s : State), Live s → s.kiln.ctlReset = false →
    Ends (.controlReset r) r.c s (fun u => startControl (replyOK r 0x0003 [byteOf (chan s r.ch).epoch, 0, 0, 0] u)) ∧
    Yields (.controlReset r) s (fun t => t.kiln.ctlReset = true ∧ t.clk.frozen = true)) ∧
  (∀ (c : Nat) (s : State), Running s → s.kiln.ctlReset = false →
    EndsMem (.watchdogExpiry c false) c s (fun u =>
      setF fSYS_RSTCAUSE_CWDOG 1 (startControl (takeShard { src := 18, inst := 0, cls := 9, kind := 1, ctx := 0 }
        (drainSource 18 { u with pwr := { u.pwr with wdog := 0 } }))))) ∧
  (∀ (c : Nat) (s : State), Running s → s.kiln.ctlReset = true →
    EndsMem (.controlResetEnd c) c s (fun u => drainAll c (endControl (supervisorStart u)))) ∧
  (∀ (c : Nat) (n : Fin 18) (x : UnitReset) (s : State), Running s → s.kiln.resets.find? (fun u => u.unit == n.val) = some x →
    Ends (.unitResetEnd c n) c s (endUnitReset n) ∧
    Yields (.unitResetEnd c n) s (fun t => t.kiln.resets.any (fun u => u.unit == n.val) = false)) ∧
  (∀ (c : Nat) (w : Window) (q : List Window) (s : State), Running s → s.kiln.windows = w :: q → w.ended = true →
    Yields (.maskingWindowEnd c) s (fun t => t.kiln.windows = q))

/-- In Standby the commands that latch at a boundary are answered NOT_NOW, DETAIL 14, and do nothing else (R352). -/
def Obligations.StandbyBarsLatching : Prop :=
  ∀ (r : Req) (s : State), Live s → getF s fTWIN_STAT_ROLE ≠ 2 ∨ r.ch = 3 → inStandby s = true →
    (∀ (n l : Nat) (m : Word), (portDef s.oven (min n 7)).isSome = true →
      ∀ i ∈ [Instr.portStart r n l, .portStop r n l, .portMute r n l m, .portUnmute r n l m], Ends i r.c s (reply r 0x0500 stNOTNOW 14 [])) ∧
    (∀ (o m : Nat) (ws : List Word), (hasMod s = true → Ends (.stageSet r o m ws) r.c s (reply r 0x0602 stNOTNOW 14 [])) ∧
      (hasProt s = true → Ends (.protSet r o m ws) r.c s (reply r 0x0610 stNOTNOW 14 []))) ∧
    (∀ (o : Nat) (f : AesFields), (aesDef s.oven o).isSome = true → Ends (.aesStreamSet r o f) r.c s (reply r 0x0710 stNOTNOW 14 [])) ∧
    (∀ es : List DelayEntry, (∀ e ∈ es, (delayDef s.oven e.line).isSome = true) →
      Ends (.delaySet r es) r.c s (reply r 0x0304 stNOTNOW 14 [])) ∧
    (∀ es : List ParamEntry, (∀ e ∈ es, (paramDef s.oven e.id).isSome = true ∧ fpIsNaN e.value = false) →
      Ends (.paramWrite r es) r.c s (reply r 0x0210 stNOTNOW 14 []))

/-! ## Control fabric, NVS and update (chapters 14, 15) -/

/-- The fabric and the supervisor: a transfer that no lock, no rival and no reset of the unit holds back is done and leaves the grant with its master; the
watchdog's key restarts it, SYS_REMAP and a helper's heartbeat are stored, a helper that hangs is reported, a TAP reset ends a lock of
the debug master, and the ROM starts the supervisor (R359 to R369, R385). -/
def Obligations.FabricAndSupervisorComplete : Prop :=
  (∀ (c : Nat) (m : Master) (q : FabReq) (s : State), Running s →
    (∀ x y, beatTarget m (q.addr.toNat / (if q.size = 1 ∨ q.size = 2 then q.size else 4) * (if q.size = 1 ∨ q.size = 2 then q.size else 4))
      q.write (if q.size = 1 ∨ q.size = 2 then q.size else 4) s = some (x, y) → lockedOut s m x = false ∧ grantOf s x (m :: q.rivals) = some m ∧
        (x = .reg → s.kiln.resets.any (fun u => u.unit == unitOfAddr y) = false)) →
    EndsMem (.fabricTransfer c m q) c s (fabricTransfer m q) ∧
    Yields (.fabricTransfer c m q) s (fun t => ∃ w e k, t.wire.getLast? = some (.fabric w e k))) ∧
  (∀ (c : Nat) (m : Master) (v : Word) (s : State), Running s → v.toNat % 65536 = 0xA5F0 →
    Yields (.sysWdog c m v) s (fun t => t.pwr = { s.pwr with wdog := 0 })) ∧
  (∀ (c : Nat) (m : Master) (v : Word) (s : State), Running s → Ends (.sysRemap c m v) c s (setF fSYS_REMAP_WRAM (v.toNat % 2))) ∧
  (∀ (c : Nat) (m : Master) (h : Fin 3) (v : Word) (s : State), Running s → getF s (fFAB_HBEAT_COUNT h) ≠ v.toNat % 65536 →
    Yields (.fabHbeat c m h v) s (fun t => getF t (fFAB_HBEAT_COUNT h) = v.toNat % 65536 ∧ getT 0 t.pwr.hbeat h = 0 ∧ (h : Nat) ∉ t.pwr.hlpStop)) ∧
  (∀ (c : Nat) (h : Fin 3) (s : State), Running s → (h : Nat) ∉ s.pwr.hlpStop → Room (19 + h) s →
    Yields (.helperHang c h) s (Queued (19 + h) h 9 2 0)) ∧
  (∀ (c a : Nat) (s : State), Running s → s.lock = some (.dbg, a) → Room 15 s →
    Yields (.tapReset c) s (fun t => t.lock = none ∧ Queued 15 0 8 2 a t)) ∧
  (∀ (c : Nat) (k : Start) (s : State), Running s → startDue s = some k → EndsMem (.supervisorStart c) c s (romStart k))

/-- NVS lines and settings: a write of NVS_GO by a master that may write its line stores it, the write ends, SYS_BOOT_SAVE and SET_WRITE
write records, SET_READ answers them (R348, R376 to R378, R391, R392). -/
def Obligations.NvsAndSettingsComplete : Prop :=
  (∀ (c : Nat) (m : Master) (v : Word) (s : State), Running s → v.toNat % 2 = 1 → getF s fNVS_STAT_BUSY = 0 →
    m = .sup ∨ 6208 ≤ getF s fNVS_LINE_LINE → nvsHeld s = false →
    EndsMem (.nvsGo c m v) c s (fun u => setF fNVS_STAT_BUSY 1 (writeNvs (.line (nvsBase + 64 * getF s fNVS_LINE_LINE) (nvsLine s)) u))) ∧
  (∀ (c : Nat) (m : Master) (v : Word) (s : State), Running s → v.toNat % 2 = 1 →
    getF s fNVS_STAT_BUSY = 1 ∨ (m ≠ .sup ∧ getF s fNVS_LINE_LINE < 6208) →
    EndsMem (.nvsGo c m v) c s (bump fNVS_CNT_REJ)) ∧
  (∀ (c : Nat) (s : State), Running s → Ends (.nvsLineWriteEnd c) c s (setF fNVS_STAT_BUSY 0)) ∧
  (∀ (r : Req) (k : Nat) (d : List Byte) (s : State), Live s → 0x8000 ≤ k → nvsHeld s = false →
    EndsMem (.setWrite r k d) r.c s (fun u => replyOK r 0x0B10 [] (writeNvs (.record (areaInUse s) { key := k, fmt := 0, data := d }) u))) ∧
  (∀ (r : Req) (k : Nat) (s : State), Live s →
    Ends (.setRead r k) r.c s (replyOK r 0x0B11 (be2 (recordAt s k).length ++ [0, 0] ++ recordAt s k))) ∧
  (∀ (r : Req) (s : State), Live s → HandleFree r s → nvsHeld s = false → Stopped isBootSave s →
    EndsMem (.sysBootSave r) r.c s (fun u =>
      accept r 0x0009 .bootSave (foldState (fun x t => nvsWrite (.record (areaInUse t) x) t) (bootRecords s) u))) ∧
  (∀ (c : Nat) (s : State), Running s → nvsHeld s = false →
    Ends (.sysBootSaveDone c) c s (finishAll isBootSave stOK (be2 bootRegs.length ++ [0, 0])) ∧
    Yields (.sysBootSaveDone c) s (Stopped isBootSave))

/-- UPD_OPEN opens a session on the data area or, emptying it, on the inactive bank; UPD_WRITE programs bytes that lie in the session and were not written
before; UPD_CLOSE checks the whole; an abort or a timeout gives the session up. UPD_ACTIVATE of a complete bank begins under a handle and pauses the
commands, its end resumes them; HEALTH_CONFIRM keeps the image, and a window that ends unconfirmed resets the control domain; UPD_STATUS answers
(R62, R381 to R392). -/
def Obligations.UpdatesComplete : Prop :=
  ((∀ (r : Req) (k o n : Nat) (s : State), Live s → s.upd.session = none → 1 ≤ k →
     EndsMem (.updOpen r k o n) r.c s (fun u =>
       let a := clampN 0x800000 (s.upd.flashSize - 1) o / 65536 * 65536
       replyOK r 0x0B00 (beWord (BitVec.ofNat 32 s.upd.nextId)) (openSession r true (flashBase + a) (min n (s.upd.flashSize - a)) u))) ∧
   (∀ (r : Req) (o n : Nat) (s : State), Live s → s.upd.session = none → getF s fUPD_STAT_HPEND = 0 →
     EndsMem (.updOpen r 0 o n) r.c s (fun u =>
       let b := bankBase (otherBank (activeBank s))
       replyOK r 0x0B00 (beWord (BitVec.ofNat 32 s.upd.nextId)) (setF fUPD_STAT_INACT 0 (dropVersion (eraseSector ((b - flashBase) / 65536)
         (openSession r false b (clampN 608 0x400000 n) u)))))) ∧
   (∀ (r : Req) (id : Word) (o : Nat) (crc : Word) (d : List Byte) (x : Session) (s : State), Live s → HandleFree r s →
     sessionOf s r id = some x → BitVec.ofNat 32 (crc32 d) = crc → o + d.length ≤ x.len → x.written.any (rangesMeet (o, d.length)) = false →
     EndsMem (.updWrite r id o crc d) r.c s (fun u => accept r 0x0B01 .updWrite (program x o d u))) ∧
   (∀ (c : Nat) (o : Op) (s : State), Running s → s.ops.find? (fun x => isUpdWrite x.kind) = some o →
     Ends (.updWriteDone c) c s (finish o.ch o.h stOK [])) ∧
   (∀ (r : Req) (id crc : Word) (x : Session) (s : State), Live s → HandleFree r s → sessionOf s r id = some x → Stopped isUpdClose s →
     Ends (.updClose r id crc) r.c s (fun u => accept r 0x0B02 (.updClose crc) (if x.data then u else setF fUPD_STAT_INACT 2 u))) ∧
   (∀ (c : Nat) (crc : Word) (o : Op) (x : Session) (s : State), Running s → s.upd.session = some x →
     s.ops.find? (fun y => isUpdClose y.kind) = some o → o.kind = .updClose crc →
     EndsMem (.updCloseDone c) c s (closeDone o crc x)) ∧
   (∀ (r : Req) (id : Word) (x : Session) (s : State), Live s → sessionOf s r id = some x →
     Ends (.updAbort r id) r.c s (fun u => abandonSession (replyOK r 0x0B03 [] u)) ∧
     Yields (.updAbort r id) s (fun t => t.upd.session = none ∧ Stopped (fun k => isUpdWrite k || isUpdClose k) t)) ∧
   (∀ (c : Nat) (x : Session) (s : State), Running s → s.upd.session = some x →
     Yields (.sessionTimeout c) s (fun t => t.upd.session = none ∧ Stopped (fun k => isUpdWrite k || isUpdClose k) t))) ∧
  ((∀ (r : Req) (s : State), Live s → HandleFree r s → getF s fUPD_STAT_INACT = 3 → getF s fUPD_STAT_HPEND = 0 → activateBars s = false →
     getF s fPWR_STAT_DAMPER = 0 →
     ovenEmpty s = true ∨ s.oven.libMin.toNat ≤ partVersion (manifest s (otherBank (activeBank s))) 5 →
     Yields (.updActivate r) s (fun t => Accepted r 0x0B04 .activate s t ∧ getF t fHOST_STAT_PAUSED = 1 ∧ getF t fUPD_STAT_HPEND = 1)) ∧
   (∀ (c : Nat) (s : State), Running s → s.ops.any (fun o => isActivate o.kind) = true →
     EndsMem (.updActivateDone c) c s (fun u => drainAll c (endActivation u))) ∧
   (∀ (r : Req) (s : State), Live s → getF s fUPD_STAT_HPEND = 2 → getF s fUPD_STAT_MIG ≠ 3 →
     Yields (.healthConfirm r) s (fun t => Replied r 0x0B05 [] s t ∧ getF t fUPD_STAT_HPEND = 0 ∧ getF t fUPD_BOOT_HLEFT = 0)) ∧
   (∀ (c : Nat) (s : State), Running s → getF s fUPD_STAT_HPEND = 2 → s.kiln.ctlReset = false →
     Yields (.healthWindowEnd c) s (fun t => t.kiln.ctlReset = true ∧ t.upd.fb = if getF s fUPD_STAT_MIG = 3 then 5 else 1)) ∧
   (∀ (r : Req) (s : State), Live s →
     Ends (.updStatus r) r.c s (fun u => replyOK r 0x0B06 (be4 (peekReg u rUPD_STAT) ++ be4 (peekReg u rUPD_VERA) ++ be4 (peekReg u rUPD_VERB) ++
       be4 (peekReg u rUPD_BOOT) ++ be4 (peekReg u rNVS_STAT)) u)))

/-! ## Words, and what families of commands leave -/

/-- The words the engine makes and takes: the two CRCs give their check values and stand where an item carries them (R45); claims compare by
serial-number arithmetic with 0 below all, and the next after 65,535 is 1 (R306); the ingress check replaces NaN and infinities and
flushes subnormals (R26); a ramp moves linearly from the present value, sample by sample, to its target (R85, R135); a staging write
takes effect at the next boundary until 1,024 cycles before it, and one later after (R18). -/
def Obligations.WordsFollowTheirRules : Prop :=
  (crc16 [0x31, 0x32, 0x33, 0x34, 0x35, 0x36, 0x37, 0x38, 0x39] = 0x29B1 ∧
    crc32 [0x31, 0x32, 0x33, 0x34, 0x35, 0x36, 0x37, 0x38, 0x39] = 0xCBF43926) ∧
  (∀ (op fl ch ep : Nat) (tag : Half) (p : List Byte),
    n2 (makeItem op tag fl ch ep p) 14 = crc16 ((makeItem op tag fl ch ep p).take 14) ∧
    (makeItem op tag fl ch ep p).drop 16 = p ++ (if fl.testBit 2 then be4 (crc32 p) else [])) ∧
  (∀ a b : Nat, a < 65536 → b < 65536 →
    (claimHigher a b = true ↔ a ≠ 0 ∧ (b = 0 ∨ (1 ≤ (a + 65536 - b) % 65536 ∧ (a + 65536 - b) % 65536 ≤ 32767))) ∧
    claimNext a = (if a = 65535 then 1 else a + 1)) ∧
  (∀ w : Word, (fpExp w = 255 → ingress w = ⟨0, true⟩) ∧
    (fpExp w = 0 → ingress w = ⟨if fpSign w then 0x80000000 else 0, false⟩) ∧
    (fpExp w ≠ 0 → fpExp w ≠ 255 → ingress w = ⟨w, false⟩)) ∧
  (∀ (t : Word) (l n : Nat) (p : Ramp),
    rampSample (rampTo t l p) n = (if l ≤ n + 1 then t else fpAdd (rampNow p) (fpMul (fpSub t (rampNow p)) (fpRatio ((n : Int) + 1) l))) ∧
    rampNow (rampAdvance (n + 1) p) = rampSample p n) ∧
  (∀ (r : Req) (s : State), r.target = none → joined s = false →
    (r.c < 102400 - 1024 → dueOf r s = batch s + 1) ∧ (102400 - 1024 ≤ r.c → dueOf r s = batch s + 2))

/-- What host commands leave: one that only answers changes the channels, the wires and the MACs' queues alone; one that stages writes,
also the staged writes; one that begins an operation, also the operations and its own unit's settings. -/
def Obligations.HostCommandsLeave : Prop :=
  (∀ (i : Instr) (s t : State), asks i = true → exec i s = .next t → SameButReply { s with cycle := t.cycle, fresh := t.fresh } t) ∧
  (∀ (i : Instr) (s t : State), stages i = true → exec i s = .next t →
    t = { s with cycle := t.cycle, wire := t.wire, fresh := t.fresh, regs := t.regs, chans := t.chans, macs := t.macs, staged := t.staged } ∧
    RegsKept [4, 6, 10] s t) ∧
  (∀ (i : Instr) (s t : State), starts i = true → exec i s = .next t →
    t = { s with cycle := t.cycle, wire := t.wire, fresh := t.fresh, regs := t.regs, chans := t.chans, macs := t.macs, ops := t.ops, commits := t.commits,
                 lanes := t.lanes, twin := t.twin, pwr := t.pwr } ∧
    RegsKept [2, 4, 10, 14, 16] s t)

/-- What events at audio ports, trays and cores leave: every other unit's state and registers. -/
def Obligations.AudioEventsLeave : Prop :=
  (∀ (i : Instr) (s t : State), portEvent i = true → exec i s = .next t →
    t = { s with cycle := t.cycle, wire := t.wire, fresh := t.fresh, free := t.free, regs := t.regs, kiln := t.kiln, ports := t.ports, pairs := t.pairs,
                 streams := t.streams } ∧
    OnlySends s t ∧ RegsKept [1, 8] s t) ∧
  (∀ (i : Instr) (s t : State), bakeEvent i = true → exec i s = .next t →
    t = { s with cycle := t.cycle, wire := t.wire, fresh := t.fresh, regs := t.regs, kiln := t.kiln, commits := t.commits, trays := t.trays,
                 bundles := t.bundles, cores := t.cores, dsp := t.dsp } ∧
    OnlySends s t ∧ RegsKept [1, 4, 5] s t)

/-- What events at stages and their protection leave: every other unit's state and registers. -/
def Obligations.StageEventsLeave : Prop :=
  ∀ (i : Instr) (s t : State), stageEvent i = true → exec i s = .next t →
    t = { s with cycle := t.cycle, wire := t.wire, fresh := t.fresh, regs := t.regs, kiln := t.kiln, outs := t.outs, gls := t.gls, prots := t.prots } ∧
    OnlySends s t ∧ RegsKept [1, 11, 12] s t

/-- What events on lanes, at the MACs and between a twin and its referee leave: every other unit's state and registers. -/
def Obligations.LinkEventsLeave : Prop :=
  (∀ (i : Instr) (s t : State), laneEvent i = true → exec i s = .next t →
    t = { s with cycle := t.cycle, wire := t.wire, fresh := t.fresh, regs := t.regs, kiln := t.kiln, lanes := t.lanes, msgs := t.msgs,
                 chans := t.chans, ops := t.ops, macs := t.macs } ∧
    OnlySends s t ∧ RegsKept [1, 9, 10, 13] s t) ∧
  (∀ (i : Instr) (s t : State), macEvent i = true → exec i s = .next t →
    t = { s with cycle := t.cycle, wire := t.wire, fresh := t.fresh, regs := t.regs, kiln := t.kiln, macs := t.macs, streams := t.streams } ∧
    OnlySends s t ∧ RegsKept [1, 8, 10] s t) ∧
  (∀ (i : Instr) (s t : State), refereeEvent i = true → exec i s = .next t →
    t = { s with cycle := t.cycle, wire := t.wire, fresh := t.fresh, regs := t.regs, kiln := t.kiln, twin := t.twin } ∧
    OnlySends s t ∧ RegsKept [1, 13] s t)

/-- What events of the Clock Unit, of the supplies, the sensors and the debug port leave: every other unit's state and registers. -/
def Obligations.ClockAndSupplyEventsLeave : Prop :=
  (∀ (i : Instr) (s t : State), clockEvent i = true → exec i s = .next t →
    t = { s with cycle := t.cycle, wire := t.wire, fresh := t.fresh, free := t.free, regs := t.regs, kiln := t.kiln, ents := t.ents, clk := t.clk,
                 chans := t.chans, ops := t.ops, macs := t.macs } ∧
    OnlySends s t ∧ RegsKept [1, 2, 9, 10] s t) ∧
  (∀ (i : Instr) (s t : State), supplyEvent i = true → exec i s = .next t →
    t = { s with cycle := t.cycle, wire := t.wire, fresh := t.fresh, regs := t.regs, kiln := t.kiln, pwr := t.pwr, lock := t.lock } ∧
    OnlySends s t ∧ RegsKept [1, 15, 16] s t)
end

