-- ==== Sys2Proof/Laws/Cells.lean ====
section
/-! SUPPORT. What the operations on sparse tables do: a read after a write, and the canonical form. -/
namespace Sys2Proof.Machine

open Sys2Proof

variable {α : Type}

@[simp] theorem cget_nil (d : Nat → α) (k : Nat) : cget d [] k = d k := rfl

/-- A removed key reads as what is unlisted. -/
@[simp] theorem cget_cdel_self (d : Nat → α) (m : Cells α) (k : Nat) : cget d (cdel m k) k = d k := by
  induction m with
  | nil => rfl
  | cons e t ih => by_cases h : e.1 = k <;> simp [cdel, cget, h, ih]

/-- Removing a key leaves every other. -/
theorem cget_cdel_ne (d : Nat → α) (m : Cells α) {k j : Nat} (h : j ≠ k) : cget d (cdel m k) j = cget d m j := by
  induction m with
  | nil => rfl
  | cons e t ih =>
    by_cases hk : e.1 = k
    · have : e.1 ≠ j := fun hj => h (hj.symm.trans hk)
      simp [cdel, cget, hk, ih, hk ▸ this]
    · by_cases hj : e.1 = j <;> simp [cdel, cget, hk, hj, ih] <;> simp_all [cget]

theorem cput_before {k : Nat} {a : Nat × α} {t : Cells α} {v : α} (h : k < a.1) : cput (a :: t) k v = (k, v) :: a :: t := if_pos h

theorem cput_at {a : Nat × α} {t : Cells α} {v : α} : cput (a :: t) a.1 v = (a.1, v) :: t := by
  rw [cput, if_neg (by omega), if_pos rfl]

theorem cput_after {k : Nat} {a : Nat × α} {t : Cells α} {v : α} (h : a.1 < k) : cput (a :: t) k v = a :: cput t k v := by
  rw [cput, if_neg (by omega), if_neg (by omega)]

@[simp] theorem cget_cput_self (d : Nat → α) (m : Cells α) (k : Nat) (v : α) : cget d (cput m k v) k = v := by
  induction m with
  | nil => simp [cput, cget]
  | cons e t ih =>
    by_cases h1 : k < e.1
    · simp [cput, cget, h1]
    · by_cases h2 : e.1 = k <;> simp [cput, cget, h1, h2, ih]

/-- A write leaves every other key. -/
theorem cget_cput_ne (d : Nat → α) (m : Cells α) {k j : Nat} (v : α) (h : j ≠ k) : cget d (cput m k v) j = cget d m j := by
  induction m with
  | nil => simp [cput, cget, h.symm]
  | cons a t ih =>
    rcases Nat.lt_trichotomy k a.1 with h1 | h1 | h1
    · rw [cput_before h1, cget, if_neg h.symm]
    · subst h1; rw [cput_at, cget, if_neg h.symm, cget, if_neg h.symm]
    · rw [cput_after h1, cget, cget, ih]

theorem mem_cdel {m : Cells α} {k : Nat} {e : Nat × α} (h : e ∈ cdel m k) : e ∈ m := by
  induction m with
  | nil => simp [cdel] at h
  | cons a t ih =>
    by_cases hk : a.1 = k
    · simp only [cdel, hk, if_true] at h; exact List.mem_cons_of_mem _ (ih h)
    · simp only [cdel, hk, if_false, List.mem_cons] at h
      rcases h with h | h
      · exact h ▸ List.mem_cons_self
      · exact List.mem_cons_of_mem _ (ih h)

theorem mem_cput {m : Cells α} {k : Nat} {v : α} {e : Nat × α} (h : e ∈ cput m k v) : e = (k, v) ∨ e ∈ m := by
  induction m with
  | nil => simpa [cput] using h
  | cons a t ih =>
    rcases Nat.lt_trichotomy k a.1 with h1 | h1 | h1
    · rw [cput_before h1] at h; exact List.mem_cons.1 h
    · subst h1
      rw [cput_at] at h
      exact (List.mem_cons.1 h).imp_right (List.mem_cons_of_mem _)
    · rw [cput_after h1] at h
      rcases List.mem_cons.1 h with h | h
      · exact .inr (h ▸ List.mem_cons_self)
      · exact (ih h).imp_right (List.mem_cons_of_mem _)

variable [DecidableEq α]

/-- What is written is read. -/
@[simp] theorem cget_cset_self (d : Nat → α) (m : Cells α) (k : Nat) (v : α) : cget d (cset d m k v) k = v := by
  unfold cset
  split
  · rename_i h; simp [h]
  · simp

/-- A write leaves every other key. -/
theorem cget_cset_ne (d : Nat → α) (m : Cells α) {k j : Nat} (v : α) (h : j ≠ k) : cget d (cset d m k v) j = cget d m j := by
  unfold cset
  split
  · exact cget_cdel_ne d m h
  · exact cget_cput_ne d m v h

/-! ## The canonical form -/

theorem cellsWf_cons {d : Nat → α} {a : Nat × α} {t : Cells α} :
    cellsWf d (a :: t) = true ↔ a.2 ≠ d a.1 ∧ (∀ e ∈ t, a.1 < e.1) ∧ cellsWf d t = true := by
  simp [cellsWf, and_assoc]

/-- Removing a key keeps the form. -/
theorem cellsWf_cdel {d : Nat → α} {m : Cells α} (k : Nat) (h : cellsWf d m = true) : cellsWf d (cdel m k) = true := by
  induction m with
  | nil => rfl
  | cons a t ih =>
    rw [cellsWf_cons] at h
    by_cases hk : a.1 = k
    · simpa [cdel, hk] using ih h.2.2
    · simp only [cdel, hk, if_false]
      exact cellsWf_cons.2 ⟨h.1, fun e he => h.2.1 e (mem_cdel he), ih h.2.2⟩

/-- Listing a key as something else than its default keeps the form. -/
theorem cellsWf_cput {d : Nat → α} {m : Cells α} {k : Nat} {v : α} (hv : v ≠ d k) (h : cellsWf d m = true) :
    cellsWf d (cput m k v) = true := by
  induction m with
  | nil => simp [cput, cellsWf, hv]
  | cons a t ih =>
    have h' := cellsWf_cons.1 h
    rcases Nat.lt_trichotomy k a.1 with h1 | h1 | h1
    · rw [cput_before h1]
      refine cellsWf_cons.2 ⟨hv, ?_, h⟩
      intro e he
      rcases List.mem_cons.1 he with rfl | he
      · exact h1
      · exact Nat.lt_trans h1 (h'.2.1 e he)
    · subst h1
      rw [cput_at]
      exact cellsWf_cons.2 ⟨hv, h'.2.1, h'.2.2⟩
    · rw [cput_after h1]
      refine cellsWf_cons.2 ⟨h'.1, ?_, ih h'.2.2⟩
      intro e he
      rcases mem_cput he with rfl | he
      · exact h1
      · exact h'.2.1 e he

/-- A write keeps the canonical form. -/
theorem cellsWf_cset {d : Nat → α} {m : Cells α} (k : Nat) (v : α) (h : cellsWf d m = true) : cellsWf d (cset d m k v) = true := by
  unfold cset
  split
  · exact cellsWf_cdel k h
  · rename_i hv; exact cellsWf_cput hv h

/-- A run of writes keeps the canonical form. -/
theorem cellsWf_csetMany {d : Nat → α} (vs : List α) {m : Cells α} (k : Nat) (h : cellsWf d m = true) :
    cellsWf d (csetMany d m k vs) = true := by
  induction vs generalizing m k with
  | nil => exact h
  | cons v t ih => exact ih (k + 1) (cellsWf_cset k v h)

/-- Dropping entries keeps the canonical form. -/
theorem cellsWf_filter {d : Nat → α} {m : Cells α} (p : Nat × α → Bool) (h : cellsWf d m = true) :
    cellsWf d (m.filter p) = true := by
  induction m with
  | nil => rfl
  | cons a t ih =>
    have h' := cellsWf_cons.1 h
    by_cases hp : p a = true
    · rw [List.filter_cons_of_pos hp]
      exact cellsWf_cons.2 ⟨h'.1, fun e he => h'.2.1 e ((List.mem_filter.1 he).1), ih h'.2.2⟩
    · rw [List.filter_cons_of_neg hp]; exact ih h'.2.2

/-- A key outside a run of writes reads as before. -/
theorem cget_csetMany_out (d : Nat → α) (vs : List α) (m : Cells α) {k j : Nat} (h : j < k ∨ k + vs.length ≤ j) :
    cget d (csetMany d m k vs) j = cget d m j := by
  induction vs generalizing m k with
  | nil => rfl
  | cons v t ih =>
    simp only [csetMany, List.length_cons] at h ⊢
    rw [ih _ (by omega), cget_cset_ne _ _ _ (by omega)]

/-- Two canonical tables that read alike are equal. -/
theorem cellsWf_ext {d : Nat → α} {m n : Cells α} (hm : cellsWf d m = true) (hn : cellsWf d n = true)
    (h : ∀ k, cget d m k = cget d n k) : m = n := by
  have miss : ∀ (t : Cells α) (k : Nat), (∀ e ∈ t, k < e.1) → cget d t k = d k := by
    intro t k
    induction t with
    | nil => intro _; rfl
    | cons a t ih =>
      intro ht
      have ha := ht a List.mem_cons_self
      rw [cget, if_neg (by omega), ih fun e he => ht e (List.mem_cons_of_mem _ he)]
  induction m generalizing n with
  | nil =>
    cases n with
    | nil => rfl
    | cons b u =>
      have hb := cellsWf_cons.1 hn
      have := h b.1
      simp [cget] at this
      exact absurd this.symm hb.1
  | cons a t ih =>
    have ha := cellsWf_cons.1 hm
    cases n with
    | nil =>
      have := h a.1
      simp [cget] at this
      exact absurd this ha.1
    | cons b u =>
      have hb := cellsWf_cons.1 hn
      rcases Nat.lt_trichotomy a.1 b.1 with hlt | heq | hgt
      · have := h a.1
        rw [cget, if_pos rfl, cget, if_neg (by omega), miss u a.1 fun e he => Nat.lt_trans hlt (hb.2.1 e he)] at this
        exact absurd this ha.1
      · have hv := h a.1
        rw [cget, if_pos rfl, cget, if_pos heq.symm] at hv
        have hab : a = b := Prod.ext heq hv
        subst hab
        congr 1
        apply ih ha.2.2 hb.2.2
        intro k
        have hk := h k
        by_cases hc : a.1 = k
        · subst hc
          rw [miss t a.1 ha.2.1, miss u a.1 hb.2.1]
        · rwa [cget, if_neg hc, cget, if_neg hc] at hk
      · have := h b.1
        rw [cget, if_neg (by omega), miss t b.1 fun e he => Nat.lt_trans hgt (ha.2.1 e he), cget, if_pos rfl] at this
        exact absurd this.symm hb.1

end Sys2Proof.Machine
end

