-- ==== Sys2Proof/Laws/State.lean ====
section
/-! SUPPORT. What each named update of the state leaves and what it changes: one simp lemma for each update, saying of every field of
State what it is afterwards; and reading a field or a table after writing it. -/
namespace Sys2Proof.Machine

open Sys2Proof

/-! ## Tables -/

@[simp] theorem getT_setT_self {α : Type} [DecidableEq α] (d : α) (m : Cells α) (n : Nat) (v : α) : getT d (setT d m n v) n = v :=
  cget_cset_self _ m n v

theorem getT_setT_ne {α : Type} [DecidableEq α] (d : α) (m : Cells α) (n k : Nat) (v : α) (h : k ≠ n) :
    getT d (setT d m n v) k = getT d m k := cget_cset_ne _ m v h

/-! ## Register fields -/

@[simp] theorem getF_setF_self (f : Fld) (v : Nat) (s : State) : getF (setF f v s) f = v % 2 ^ f.width :=
  cget_cset_self _ _ _ _

theorem getF_setF_ne (f g : Fld) (v : Nat) (s : State) (h : g.key ≠ f.key) : getF (setF f v s) g = getF s g :=
  cget_cset_ne _ _ _ h

/-! ## Entries of the tables -/

@[simp] theorem chan_setChan_self (n : Nat) (v : Chan) (s : State) : chan (setChan n v s) n = v := getT_setT_self _ _ _ _
theorem chan_setChan_ne {n k : Nat} (v : Chan) (s : State) (h : k ≠ n) : chan (setChan n v s) k = chan s k := getT_setT_ne _ _ _ _ _ h
@[simp] theorem tray_setTray_self (n : Nat) (v : TraySt) (s : State) : tray (setTray n v s) n = v := getT_setT_self _ _ _ _
theorem tray_setTray_ne {n k : Nat} (v : TraySt) (s : State) (h : k ≠ n) : tray (setTray n v s) k = tray s k := getT_setT_ne _ _ _ _ _ h
@[simp] theorem slotFade_setSlotFade_self (n : Nat) (v : SlotFade) (s : State) : slotFade (setSlotFade n v s) n = v := getT_setT_self _ _ _ _
theorem slotFade_setSlotFade_ne {n k : Nat} (v : SlotFade) (s : State) (h : k ≠ n) : slotFade (setSlotFade n v s) k = slotFade s k := getT_setT_ne _ _ _ _ _ h
@[simp] theorem param_setParam_self (n : Nat) (v : Option ParamSt) (s : State) : param (setParam n v s) n = v := getT_setT_self _ _ _ _
theorem param_setParam_ne {n k : Nat} (v : Option ParamSt) (s : State) (h : k ≠ n) : param (setParam n v s) k = param s k := getT_setT_ne _ _ _ _ _ h
@[simp] theorem bundle_setBundle_self (n : Nat) (v : Option BundleSt) (s : State) : bundle (setBundle n v s) n = v := getT_setT_self _ _ _ _
theorem bundle_setBundle_ne {n k : Nat} (v : Option BundleSt) (s : State) (h : k ≠ n) : bundle (setBundle n v s) k = bundle s k := getT_setT_ne _ _ _ _ _ h
@[simp] theorem core__setCore_self (n : Nat) (v : CoreSt) (s : State) : core_ (setCore n v s) n = v := getT_setT_self _ _ _ _
theorem core__setCore_ne {n k : Nat} (v : CoreSt) (s : State) (h : k ≠ n) : core_ (setCore n v s) k = core_ s k := getT_setT_ne _ _ _ _ _ h
@[simp] theorem dyn_setDyn_self (n : Nat) (v : Option DynSt) (s : State) : dyn (setDyn n v s) n = v := getT_setT_self _ _ _ _
theorem dyn_setDyn_ne {n k : Nat} (v : Option DynSt) (s : State) (h : k ≠ n) : dyn (setDyn n v s) k = dyn s k := getT_setT_ne _ _ _ _ _ h
@[simp] theorem delay_setDelay_self (n : Nat) (v : Option DelaySt) (s : State) : delay (setDelay n v s) n = v := getT_setT_self _ _ _ _
theorem delay_setDelay_ne {n k : Nat} (v : Option DelaySt) (s : State) (h : k ≠ n) : delay (setDelay n v s) k = delay s k := getT_setT_ne _ _ _ _ _ h
@[simp] theorem port_setPort_self (n : Nat) (v : PortSt) (s : State) : port (setPort n v s) n = v := getT_setT_self _ _ _ _
theorem port_setPort_ne {n k : Nat} (v : PortSt) (s : State) (h : k ≠ n) : port (setPort n v s) k = port s k := getT_setT_ne _ _ _ _ _ h
@[simp] theorem pair_setPair_self (n : Nat) (v : PairSt) (s : State) : pair (setPair n v s) n = v := getT_setT_self _ _ _ _
theorem pair_setPair_ne {n k : Nat} (v : PairSt) (s : State) (h : k ≠ n) : pair (setPair n v s) k = pair s k := getT_setT_ne _ _ _ _ _ h
@[simp] theorem stream_setStream_self (n : Nat) (v : StreamSt) (s : State) : stream (setStream n v s) n = v := getT_setT_self _ _ _ _
theorem stream_setStream_ne {n k : Nat} (v : StreamSt) (s : State) (h : k ≠ n) : stream (setStream n v s) k = stream s k := getT_setT_ne _ _ _ _ _ h
@[simp] theorem align__setAlign_self (n : Nat) (v : AlignSt) (s : State) : align_ (setAlign n v s) n = v := getT_setT_self _ _ _ _
theorem align__setAlign_ne {n k : Nat} (v : AlignSt) (s : State) (h : k ≠ n) : align_ (setAlign n v s) k = align_ s k := getT_setT_ne _ _ _ _ _ h
@[simp] theorem out__setOut_self (n : Nat) (v : OutSt) (s : State) : out_ (setOut n v s) n = v := getT_setT_self _ _ _ _
theorem out__setOut_ne {n k : Nat} (v : OutSt) (s : State) (h : k ≠ n) : out_ (setOut n v s) k = out_ s k := getT_setT_ne _ _ _ _ _ h
@[simp] theorem gl_setGl_self (n : Nat) (v : GlSt) (s : State) : gl (setGl n v s) n = v := getT_setT_self _ _ _ _
theorem gl_setGl_ne {n k : Nat} (v : GlSt) (s : State) (h : k ≠ n) : gl (setGl n v s) k = gl s k := getT_setT_ne _ _ _ _ _ h
@[simp] theorem prot_setProt_self (n : Nat) (v : ProtSt) (s : State) : prot (setProt n v s) n = v := getT_setT_self _ _ _ _
theorem prot_setProt_ne {n k : Nat} (v : ProtSt) (s : State) (h : k ≠ n) : prot (setProt n v s) k = prot s k := getT_setT_ne _ _ _ _ _ h
@[simp] theorem lane_setLane_self (n : Nat) (v : LaneSt) (s : State) : lane (setLane n v s) n = v := getT_setT_self _ _ _ _
theorem lane_setLane_ne {n k : Nat} (v : LaneSt) (s : State) (h : k ≠ n) : lane (setLane n v s) k = lane s k := getT_setT_ne _ _ _ _ _ h
@[simp] theorem mac_setMac_self (n : Nat) (v : MacSt) (s : State) : mac (setMac n v s) n = v := getT_setT_self _ _ _ _
theorem mac_setMac_ne {n k : Nat} (v : MacSt) (s : State) (h : k ≠ n) : mac (setMac n v s) k = mac s k := getT_setT_ne _ _ _ _ _ h
@[simp] theorem ent_setEnt_self (n : Nat) (v : ClkEnt) (s : State) : ent (setEnt n v s) n = v := getT_setT_self _ _ _ _
theorem ent_setEnt_ne {n k : Nat} (v : ClkEnt) (s : State) (h : k ≠ n) : ent (setEnt n v s) k = ent s k := getT_setT_ne _ _ _ _ _ h

/-! ## Updates, field by field -/

@[simp] theorem begin_fields (c : Nat) (s : State) :
    (begin_ c s).pending = s.pending ∧
    (begin_ c s).fuses = s.fuses ∧
    (begin_ c s).cycle = c ∧
    (begin_ c s).wire = [] ∧
    (begin_ c s).fresh = (if c = s.cycle then s.fresh else []) ∧
    (begin_ c s).free = s.free ∧
    (begin_ c s).regs = s.regs ∧
    (begin_ c s).mem = s.mem ∧
    (begin_ c s).chans = s.chans ∧
    (begin_ c s).gen = s.gen ∧
    (begin_ c s).ops = s.ops ∧
    (begin_ c s).staged = s.staged ∧
    (begin_ c s).proofTop = s.proofTop ∧
    (begin_ c s).proofTotal = s.proofTotal ∧
    (begin_ c s).proof = s.proof ∧
    (begin_ c s).oven = s.oven ∧
    (begin_ c s).commits = s.commits ∧
    (begin_ c s).trays = s.trays ∧
    (begin_ c s).fades = s.fades ∧
    (begin_ c s).params = s.params ∧
    (begin_ c s).bundles = s.bundles ∧
    (begin_ c s).cores = s.cores ∧
    (begin_ c s).dsp = s.dsp ∧
    (begin_ c s).slots = s.slots ∧
    (begin_ c s).inBuf = s.inBuf ∧
    (begin_ c s).stores = s.stores ∧
    (begin_ c s).fixedAt = s.fixedAt ∧
    (begin_ c s).bridges = s.bridges ∧
    (begin_ c s).xps = s.xps ∧
    (begin_ c s).dyns = s.dyns ∧
    (begin_ c s).delays = s.delays ∧
    (begin_ c s).ports = s.ports ∧
    (begin_ c s).pairs = s.pairs ∧
    (begin_ c s).streams = s.streams ∧
    (begin_ c s).aligns = s.aligns ∧
    (begin_ c s).outs = s.outs ∧
    (begin_ c s).gls = s.gls ∧
    (begin_ c s).prots = s.prots ∧
    (begin_ c s).outBuf = s.outBuf ∧
    (begin_ c s).pipeAt = s.pipeAt ∧
    (begin_ c s).lanes = s.lanes ∧
    (begin_ c s).msgs = s.msgs ∧
    (begin_ c s).macs = s.macs ∧
    (begin_ c s).stamps = s.stamps ∧
    (begin_ c s).stLost = s.stLost ∧
    (begin_ c s).ptp = s.ptp ∧
    (begin_ c s).ptpAdj = s.ptpAdj ∧
    (begin_ c s).ents = s.ents ∧
    (begin_ c s).clk = s.clk ∧
    (begin_ c s).twin = s.twin ∧
    (begin_ c s).kiln = s.kiln ∧
    (begin_ c s).pwr = s.pwr ∧
    (begin_ c s).granted = s.granted ∧
    (begin_ c s).lock = s.lock ∧
    (begin_ c s).upd = s.upd := by
  and_intros <;> rfl

@[simp] theorem setF_fields (f : Fld) (v : Nat) (s : State) :
    (setF f v s).pending = s.pending ∧
    (setF f v s).fuses = s.fuses ∧
    (setF f v s).cycle = s.cycle ∧
    (setF f v s).wire = s.wire ∧
    (setF f v s).fresh = s.fresh ∧
    (setF f v s).free = s.free ∧
    (setF f v s).regs = cset fieldReset s.regs f.key (v % 2 ^ f.width) ∧
    (setF f v s).mem = s.mem ∧
    (setF f v s).chans = s.chans ∧
    (setF f v s).gen = s.gen ∧
    (setF f v s).ops = s.ops ∧
    (setF f v s).staged = s.staged ∧
    (setF f v s).proofTop = s.proofTop ∧
    (setF f v s).proofTotal = s.proofTotal ∧
    (setF f v s).proof = s.proof ∧
    (setF f v s).oven = s.oven ∧
    (setF f v s).commits = s.commits ∧
    (setF f v s).trays = s.trays ∧
    (setF f v s).fades = s.fades ∧
    (setF f v s).params = s.params ∧
    (setF f v s).bundles = s.bundles ∧
    (setF f v s).cores = s.cores ∧
    (setF f v s).dsp = s.dsp ∧
    (setF f v s).slots = s.slots ∧
    (setF f v s).inBuf = s.inBuf ∧
    (setF f v s).stores = s.stores ∧
    (setF f v s).fixedAt = s.fixedAt ∧
    (setF f v s).bridges = s.bridges ∧
    (setF f v s).xps = s.xps ∧
    (setF f v s).dyns = s.dyns ∧
    (setF f v s).delays = s.delays ∧
    (setF f v s).ports = s.ports ∧
    (setF f v s).pairs = s.pairs ∧
    (setF f v s).streams = s.streams ∧
    (setF f v s).aligns = s.aligns ∧
    (setF f v s).outs = s.outs ∧
    (setF f v s).gls = s.gls ∧
    (setF f v s).prots = s.prots ∧
    (setF f v s).outBuf = s.outBuf ∧
    (setF f v s).pipeAt = s.pipeAt ∧
    (setF f v s).lanes = s.lanes ∧
    (setF f v s).msgs = s.msgs ∧
    (setF f v s).macs = s.macs ∧
    (setF f v s).stamps = s.stamps ∧
    (setF f v s).stLost = s.stLost ∧
    (setF f v s).ptp = s.ptp ∧
    (setF f v s).ptpAdj = s.ptpAdj ∧
    (setF f v s).ents = s.ents ∧
    (setF f v s).clk = s.clk ∧
    (setF f v s).twin = s.twin ∧
    (setF f v s).kiln = s.kiln ∧
    (setF f v s).pwr = s.pwr ∧
    (setF f v s).granted = s.granted ∧
    (setF f v s).lock = s.lock ∧
    (setF f v s).upd = s.upd := by
  and_intros <;> rfl

@[simp] theorem resetFields_fields (p : Nat → Bool) (s : State) :
    (resetFields p s).pending = s.pending ∧
    (resetFields p s).fuses = s.fuses ∧
    (resetFields p s).cycle = s.cycle ∧
    (resetFields p s).wire = s.wire ∧
    (resetFields p s).fresh = s.fresh ∧
    (resetFields p s).free = s.free ∧
    (resetFields p s).regs = s.regs.filter (fun e => !p e.1) ∧
    (resetFields p s).mem = s.mem ∧
    (resetFields p s).chans = s.chans ∧
    (resetFields p s).gen = s.gen ∧
    (resetFields p s).ops = s.ops ∧
    (resetFields p s).staged = s.staged ∧
    (resetFields p s).proofTop = s.proofTop ∧
    (resetFields p s).proofTotal = s.proofTotal ∧
    (resetFields p s).proof = s.proof ∧
    (resetFields p s).oven = s.oven ∧
    (resetFields p s).commits = s.commits ∧
    (resetFields p s).trays = s.trays ∧
    (resetFields p s).fades = s.fades ∧
    (resetFields p s).params = s.params ∧
    (resetFields p s).bundles = s.bundles ∧
    (resetFields p s).cores = s.cores ∧
    (resetFields p s).dsp = s.dsp ∧
    (resetFields p s).slots = s.slots ∧
    (resetFields p s).inBuf = s.inBuf ∧
    (resetFields p s).stores = s.stores ∧
    (resetFields p s).fixedAt = s.fixedAt ∧
    (resetFields p s).bridges = s.bridges ∧
    (resetFields p s).xps = s.xps ∧
    (resetFields p s).dyns = s.dyns ∧
    (resetFields p s).delays = s.delays ∧
    (resetFields p s).ports = s.ports ∧
    (resetFields p s).pairs = s.pairs ∧
    (resetFields p s).streams = s.streams ∧
    (resetFields p s).aligns = s.aligns ∧
    (resetFields p s).outs = s.outs ∧
    (resetFields p s).gls = s.gls ∧
    (resetFields p s).prots = s.prots ∧
    (resetFields p s).outBuf = s.outBuf ∧
    (resetFields p s).pipeAt = s.pipeAt ∧
    (resetFields p s).lanes = s.lanes ∧
    (resetFields p s).msgs = s.msgs ∧
    (resetFields p s).macs = s.macs ∧
    (resetFields p s).stamps = s.stamps ∧
    (resetFields p s).stLost = s.stLost ∧
    (resetFields p s).ptp = s.ptp ∧
    (resetFields p s).ptpAdj = s.ptpAdj ∧
    (resetFields p s).ents = s.ents ∧
    (resetFields p s).clk = s.clk ∧
    (resetFields p s).twin = s.twin ∧
    (resetFields p s).kiln = s.kiln ∧
    (resetFields p s).pwr = s.pwr ∧
    (resetFields p s).granted = s.granted ∧
    (resetFields p s).lock = s.lock ∧
    (resetFields p s).upd = s.upd := by
  and_intros <;> rfl

@[simp] theorem setMemByte_fields (a : Nat) (b : Byte) (s : State) :
    (setMemByte a b s).pending = s.pending ∧
    (setMemByte a b s).fuses = s.fuses ∧
    (setMemByte a b s).cycle = s.cycle ∧
    (setMemByte a b s).wire = s.wire ∧
    (setMemByte a b s).fresh = s.fresh ∧
    (setMemByte a b s).free = s.free ∧
    (setMemByte a b s).regs = s.regs ∧
    (setMemByte a b s).mem = cset memDefault s.mem a b ∧
    (setMemByte a b s).chans = s.chans ∧
    (setMemByte a b s).gen = s.gen ∧
    (setMemByte a b s).ops = s.ops ∧
    (setMemByte a b s).staged = s.staged ∧
    (setMemByte a b s).proofTop = s.proofTop ∧
    (setMemByte a b s).proofTotal = s.proofTotal ∧
    (setMemByte a b s).proof = s.proof ∧
    (setMemByte a b s).oven = s.oven ∧
    (setMemByte a b s).commits = s.commits ∧
    (setMemByte a b s).trays = s.trays ∧
    (setMemByte a b s).fades = s.fades ∧
    (setMemByte a b s).params = s.params ∧
    (setMemByte a b s).bundles = s.bundles ∧
    (setMemByte a b s).cores = s.cores ∧
    (setMemByte a b s).dsp = s.dsp ∧
    (setMemByte a b s).slots = s.slots ∧
    (setMemByte a b s).inBuf = s.inBuf ∧
    (setMemByte a b s).stores = s.stores ∧
    (setMemByte a b s).fixedAt = s.fixedAt ∧
    (setMemByte a b s).bridges = s.bridges ∧
    (setMemByte a b s).xps = s.xps ∧
    (setMemByte a b s).dyns = s.dyns ∧
    (setMemByte a b s).delays = s.delays ∧
    (setMemByte a b s).ports = s.ports ∧
    (setMemByte a b s).pairs = s.pairs ∧
    (setMemByte a b s).streams = s.streams ∧
    (setMemByte a b s).aligns = s.aligns ∧
    (setMemByte a b s).outs = s.outs ∧
    (setMemByte a b s).gls = s.gls ∧
    (setMemByte a b s).prots = s.prots ∧
    (setMemByte a b s).outBuf = s.outBuf ∧
    (setMemByte a b s).pipeAt = s.pipeAt ∧
    (setMemByte a b s).lanes = s.lanes ∧
    (setMemByte a b s).msgs = s.msgs ∧
    (setMemByte a b s).macs = s.macs ∧
    (setMemByte a b s).stamps = s.stamps ∧
    (setMemByte a b s).stLost = s.stLost ∧
    (setMemByte a b s).ptp = s.ptp ∧
    (setMemByte a b s).ptpAdj = s.ptpAdj ∧
    (setMemByte a b s).ents = s.ents ∧
    (setMemByte a b s).clk = s.clk ∧
    (setMemByte a b s).twin = s.twin ∧
    (setMemByte a b s).kiln = s.kiln ∧
    (setMemByte a b s).pwr = s.pwr ∧
    (setMemByte a b s).granted = s.granted ∧
    (setMemByte a b s).lock = s.lock ∧
    (setMemByte a b s).upd = s.upd := by
  and_intros <;> rfl

@[simp] theorem setMemBytes_fields (a : Nat) (bs : List Byte) (s : State) :
    (setMemBytes a bs s).pending = s.pending ∧
    (setMemBytes a bs s).fuses = s.fuses ∧
    (setMemBytes a bs s).cycle = s.cycle ∧
    (setMemBytes a bs s).wire = s.wire ∧
    (setMemBytes a bs s).fresh = s.fresh ∧
    (setMemBytes a bs s).free = s.free ∧
    (setMemBytes a bs s).regs = s.regs ∧
    (setMemBytes a bs s).mem = csetMany memDefault s.mem a bs ∧
    (setMemBytes a bs s).chans = s.chans ∧
    (setMemBytes a bs s).gen = s.gen ∧
    (setMemBytes a bs s).ops = s.ops ∧
    (setMemBytes a bs s).staged = s.staged ∧
    (setMemBytes a bs s).proofTop = s.proofTop ∧
    (setMemBytes a bs s).proofTotal = s.proofTotal ∧
    (setMemBytes a bs s).proof = s.proof ∧
    (setMemBytes a bs s).oven = s.oven ∧
    (setMemBytes a bs s).commits = s.commits ∧
    (setMemBytes a bs s).trays = s.trays ∧
    (setMemBytes a bs s).fades = s.fades ∧
    (setMemBytes a bs s).params = s.params ∧
    (setMemBytes a bs s).bundles = s.bundles ∧
    (setMemBytes a bs s).cores = s.cores ∧
    (setMemBytes a bs s).dsp = s.dsp ∧
    (setMemBytes a bs s).slots = s.slots ∧
    (setMemBytes a bs s).inBuf = s.inBuf ∧
    (setMemBytes a bs s).stores = s.stores ∧
    (setMemBytes a bs s).fixedAt = s.fixedAt ∧
    (setMemBytes a bs s).bridges = s.bridges ∧
    (setMemBytes a bs s).xps = s.xps ∧
    (setMemBytes a bs s).dyns = s.dyns ∧
    (setMemBytes a bs s).delays = s.delays ∧
    (setMemBytes a bs s).ports = s.ports ∧
    (setMemBytes a bs s).pairs = s.pairs ∧
    (setMemBytes a bs s).streams = s.streams ∧
    (setMemBytes a bs s).aligns = s.aligns ∧
    (setMemBytes a bs s).outs = s.outs ∧
    (setMemBytes a bs s).gls = s.gls ∧
    (setMemBytes a bs s).prots = s.prots ∧
    (setMemBytes a bs s).outBuf = s.outBuf ∧
    (setMemBytes a bs s).pipeAt = s.pipeAt ∧
    (setMemBytes a bs s).lanes = s.lanes ∧
    (setMemBytes a bs s).msgs = s.msgs ∧
    (setMemBytes a bs s).macs = s.macs ∧
    (setMemBytes a bs s).stamps = s.stamps ∧
    (setMemBytes a bs s).stLost = s.stLost ∧
    (setMemBytes a bs s).ptp = s.ptp ∧
    (setMemBytes a bs s).ptpAdj = s.ptpAdj ∧
    (setMemBytes a bs s).ents = s.ents ∧
    (setMemBytes a bs s).clk = s.clk ∧
    (setMemBytes a bs s).twin = s.twin ∧
    (setMemBytes a bs s).kiln = s.kiln ∧
    (setMemBytes a bs s).pwr = s.pwr ∧
    (setMemBytes a bs s).granted = s.granted ∧
    (setMemBytes a bs s).lock = s.lock ∧
    (setMemBytes a bs s).upd = s.upd := by
  and_intros <;> rfl

@[simp] theorem clearMem_fields (a n : Nat) (s : State) :
    (clearMem a n s).pending = s.pending ∧
    (clearMem a n s).fuses = s.fuses ∧
    (clearMem a n s).cycle = s.cycle ∧
    (clearMem a n s).wire = s.wire ∧
    (clearMem a n s).fresh = s.fresh ∧
    (clearMem a n s).free = s.free ∧
    (clearMem a n s).regs = s.regs ∧
    (clearMem a n s).mem = s.mem.filter (fun e => decide (e.1 < a) || decide (a + n ≤ e.1)) ∧
    (clearMem a n s).chans = s.chans ∧
    (clearMem a n s).gen = s.gen ∧
    (clearMem a n s).ops = s.ops ∧
    (clearMem a n s).staged = s.staged ∧
    (clearMem a n s).proofTop = s.proofTop ∧
    (clearMem a n s).proofTotal = s.proofTotal ∧
    (clearMem a n s).proof = s.proof ∧
    (clearMem a n s).oven = s.oven ∧
    (clearMem a n s).commits = s.commits ∧
    (clearMem a n s).trays = s.trays ∧
    (clearMem a n s).fades = s.fades ∧
    (clearMem a n s).params = s.params ∧
    (clearMem a n s).bundles = s.bundles ∧
    (clearMem a n s).cores = s.cores ∧
    (clearMem a n s).dsp = s.dsp ∧
    (clearMem a n s).slots = s.slots ∧
    (clearMem a n s).inBuf = s.inBuf ∧
    (clearMem a n s).stores = s.stores ∧
    (clearMem a n s).fixedAt = s.fixedAt ∧
    (clearMem a n s).bridges = s.bridges ∧
    (clearMem a n s).xps = s.xps ∧
    (clearMem a n s).dyns = s.dyns ∧
    (clearMem a n s).delays = s.delays ∧
    (clearMem a n s).ports = s.ports ∧
    (clearMem a n s).pairs = s.pairs ∧
    (clearMem a n s).streams = s.streams ∧
    (clearMem a n s).aligns = s.aligns ∧
    (clearMem a n s).outs = s.outs ∧
    (clearMem a n s).gls = s.gls ∧
    (clearMem a n s).prots = s.prots ∧
    (clearMem a n s).outBuf = s.outBuf ∧
    (clearMem a n s).pipeAt = s.pipeAt ∧
    (clearMem a n s).lanes = s.lanes ∧
    (clearMem a n s).msgs = s.msgs ∧
    (clearMem a n s).macs = s.macs ∧
    (clearMem a n s).stamps = s.stamps ∧
    (clearMem a n s).stLost = s.stLost ∧
    (clearMem a n s).ptp = s.ptp ∧
    (clearMem a n s).ptpAdj = s.ptpAdj ∧
    (clearMem a n s).ents = s.ents ∧
    (clearMem a n s).clk = s.clk ∧
    (clearMem a n s).twin = s.twin ∧
    (clearMem a n s).kiln = s.kiln ∧
    (clearMem a n s).pwr = s.pwr ∧
    (clearMem a n s).granted = s.granted ∧
    (clearMem a n s).lock = s.lock ∧
    (clearMem a n s).upd = s.upd := by
  and_intros <;> rfl

@[simp] theorem emit_fields (w : Wire) (s : State) :
    (emit w s).pending = s.pending ∧
    (emit w s).fuses = s.fuses ∧
    (emit w s).cycle = s.cycle ∧
    (emit w s).wire = s.wire ++ [w] ∧
    (emit w s).fresh = s.fresh ∧
    (emit w s).free = s.free ∧
    (emit w s).regs = s.regs ∧
    (emit w s).mem = s.mem ∧
    (emit w s).chans = s.chans ∧
    (emit w s).gen = s.gen ∧
    (emit w s).ops = s.ops ∧
    (emit w s).staged = s.staged ∧
    (emit w s).proofTop = s.proofTop ∧
    (emit w s).proofTotal = s.proofTotal ∧
    (emit w s).proof = s.proof ∧
    (emit w s).oven = s.oven ∧
    (emit w s).commits = s.commits ∧
    (emit w s).trays = s.trays ∧
    (emit w s).fades = s.fades ∧
    (emit w s).params = s.params ∧
    (emit w s).bundles = s.bundles ∧
    (emit w s).cores = s.cores ∧
    (emit w s).dsp = s.dsp ∧
    (emit w s).slots = s.slots ∧
    (emit w s).inBuf = s.inBuf ∧
    (emit w s).stores = s.stores ∧
    (emit w s).fixedAt = s.fixedAt ∧
    (emit w s).bridges = s.bridges ∧
    (emit w s).xps = s.xps ∧
    (emit w s).dyns = s.dyns ∧
    (emit w s).delays = s.delays ∧
    (emit w s).ports = s.ports ∧
    (emit w s).pairs = s.pairs ∧
    (emit w s).streams = s.streams ∧
    (emit w s).aligns = s.aligns ∧
    (emit w s).outs = s.outs ∧
    (emit w s).gls = s.gls ∧
    (emit w s).prots = s.prots ∧
    (emit w s).outBuf = s.outBuf ∧
    (emit w s).pipeAt = s.pipeAt ∧
    (emit w s).lanes = s.lanes ∧
    (emit w s).msgs = s.msgs ∧
    (emit w s).macs = s.macs ∧
    (emit w s).stamps = s.stamps ∧
    (emit w s).stLost = s.stLost ∧
    (emit w s).ptp = s.ptp ∧
    (emit w s).ptpAdj = s.ptpAdj ∧
    (emit w s).ents = s.ents ∧
    (emit w s).clk = s.clk ∧
    (emit w s).twin = s.twin ∧
    (emit w s).kiln = s.kiln ∧
    (emit w s).pwr = s.pwr ∧
    (emit w s).granted = s.granted ∧
    (emit w s).lock = s.lock ∧
    (emit w s).upd = s.upd := by
  and_intros <;> rfl

@[simp] theorem useFree_fields (s : State) :
    (useFree s).pending = s.pending ∧
    (useFree s).fuses = s.fuses ∧
    (useFree s).cycle = s.cycle ∧
    (useFree s).wire = s.wire ∧
    (useFree s).fresh = s.fresh ∧
    (useFree s).free = s.free + 1 ∧
    (useFree s).regs = s.regs ∧
    (useFree s).mem = s.mem ∧
    (useFree s).chans = s.chans ∧
    (useFree s).gen = s.gen ∧
    (useFree s).ops = s.ops ∧
    (useFree s).staged = s.staged ∧
    (useFree s).proofTop = s.proofTop ∧
    (useFree s).proofTotal = s.proofTotal ∧
    (useFree s).proof = s.proof ∧
    (useFree s).oven = s.oven ∧
    (useFree s).commits = s.commits ∧
    (useFree s).trays = s.trays ∧
    (useFree s).fades = s.fades ∧
    (useFree s).params = s.params ∧
    (useFree s).bundles = s.bundles ∧
    (useFree s).cores = s.cores ∧
    (useFree s).dsp = s.dsp ∧
    (useFree s).slots = s.slots ∧
    (useFree s).inBuf = s.inBuf ∧
    (useFree s).stores = s.stores ∧
    (useFree s).fixedAt = s.fixedAt ∧
    (useFree s).bridges = s.bridges ∧
    (useFree s).xps = s.xps ∧
    (useFree s).dyns = s.dyns ∧
    (useFree s).delays = s.delays ∧
    (useFree s).ports = s.ports ∧
    (useFree s).pairs = s.pairs ∧
    (useFree s).streams = s.streams ∧
    (useFree s).aligns = s.aligns ∧
    (useFree s).outs = s.outs ∧
    (useFree s).gls = s.gls ∧
    (useFree s).prots = s.prots ∧
    (useFree s).outBuf = s.outBuf ∧
    (useFree s).pipeAt = s.pipeAt ∧
    (useFree s).lanes = s.lanes ∧
    (useFree s).msgs = s.msgs ∧
    (useFree s).macs = s.macs ∧
    (useFree s).stamps = s.stamps ∧
    (useFree s).stLost = s.stLost ∧
    (useFree s).ptp = s.ptp ∧
    (useFree s).ptpAdj = s.ptpAdj ∧
    (useFree s).ents = s.ents ∧
    (useFree s).clk = s.clk ∧
    (useFree s).twin = s.twin ∧
    (useFree s).kiln = s.kiln ∧
    (useFree s).pwr = s.pwr ∧
    (useFree s).granted = s.granted ∧
    (useFree s).lock = s.lock ∧
    (useFree s).upd = s.upd := by
  and_intros <;> rfl

@[simp] theorem setChan_fields (n : Nat) (v : Chan) (s : State) :
    (setChan n v s).pending = s.pending ∧
    (setChan n v s).fuses = s.fuses ∧
    (setChan n v s).cycle = s.cycle ∧
    (setChan n v s).wire = s.wire ∧
    (setChan n v s).fresh = s.fresh ∧
    (setChan n v s).free = s.free ∧
    (setChan n v s).regs = s.regs ∧
    (setChan n v s).mem = s.mem ∧
    (setChan n v s).chans = setT {} s.chans n v ∧
    (setChan n v s).gen = s.gen ∧
    (setChan n v s).ops = s.ops ∧
    (setChan n v s).staged = s.staged ∧
    (setChan n v s).proofTop = s.proofTop ∧
    (setChan n v s).proofTotal = s.proofTotal ∧
    (setChan n v s).proof = s.proof ∧
    (setChan n v s).oven = s.oven ∧
    (setChan n v s).commits = s.commits ∧
    (setChan n v s).trays = s.trays ∧
    (setChan n v s).fades = s.fades ∧
    (setChan n v s).params = s.params ∧
    (setChan n v s).bundles = s.bundles ∧
    (setChan n v s).cores = s.cores ∧
    (setChan n v s).dsp = s.dsp ∧
    (setChan n v s).slots = s.slots ∧
    (setChan n v s).inBuf = s.inBuf ∧
    (setChan n v s).stores = s.stores ∧
    (setChan n v s).fixedAt = s.fixedAt ∧
    (setChan n v s).bridges = s.bridges ∧
    (setChan n v s).xps = s.xps ∧
    (setChan n v s).dyns = s.dyns ∧
    (setChan n v s).delays = s.delays ∧
    (setChan n v s).ports = s.ports ∧
    (setChan n v s).pairs = s.pairs ∧
    (setChan n v s).streams = s.streams ∧
    (setChan n v s).aligns = s.aligns ∧
    (setChan n v s).outs = s.outs ∧
    (setChan n v s).gls = s.gls ∧
    (setChan n v s).prots = s.prots ∧
    (setChan n v s).outBuf = s.outBuf ∧
    (setChan n v s).pipeAt = s.pipeAt ∧
    (setChan n v s).lanes = s.lanes ∧
    (setChan n v s).msgs = s.msgs ∧
    (setChan n v s).macs = s.macs ∧
    (setChan n v s).stamps = s.stamps ∧
    (setChan n v s).stLost = s.stLost ∧
    (setChan n v s).ptp = s.ptp ∧
    (setChan n v s).ptpAdj = s.ptpAdj ∧
    (setChan n v s).ents = s.ents ∧
    (setChan n v s).clk = s.clk ∧
    (setChan n v s).twin = s.twin ∧
    (setChan n v s).kiln = s.kiln ∧
    (setChan n v s).pwr = s.pwr ∧
    (setChan n v s).granted = s.granted ∧
    (setChan n v s).lock = s.lock ∧
    (setChan n v s).upd = s.upd := by
  and_intros <;> rfl

@[simp] theorem setTray_fields (n : Nat) (v : TraySt) (s : State) :
    (setTray n v s).pending = s.pending ∧
    (setTray n v s).fuses = s.fuses ∧
    (setTray n v s).cycle = s.cycle ∧
    (setTray n v s).wire = s.wire ∧
    (setTray n v s).fresh = s.fresh ∧
    (setTray n v s).free = s.free ∧
    (setTray n v s).regs = s.regs ∧
    (setTray n v s).mem = s.mem ∧
    (setTray n v s).chans = s.chans ∧
    (setTray n v s).gen = s.gen ∧
    (setTray n v s).ops = s.ops ∧
    (setTray n v s).staged = s.staged ∧
    (setTray n v s).proofTop = s.proofTop ∧
    (setTray n v s).proofTotal = s.proofTotal ∧
    (setTray n v s).proof = s.proof ∧
    (setTray n v s).oven = s.oven ∧
    (setTray n v s).commits = s.commits ∧
    (setTray n v s).trays = setT {} s.trays n v ∧
    (setTray n v s).fades = s.fades ∧
    (setTray n v s).params = s.params ∧
    (setTray n v s).bundles = s.bundles ∧
    (setTray n v s).cores = s.cores ∧
    (setTray n v s).dsp = s.dsp ∧
    (setTray n v s).slots = s.slots ∧
    (setTray n v s).inBuf = s.inBuf ∧
    (setTray n v s).stores = s.stores ∧
    (setTray n v s).fixedAt = s.fixedAt ∧
    (setTray n v s).bridges = s.bridges ∧
    (setTray n v s).xps = s.xps ∧
    (setTray n v s).dyns = s.dyns ∧
    (setTray n v s).delays = s.delays ∧
    (setTray n v s).ports = s.ports ∧
    (setTray n v s).pairs = s.pairs ∧
    (setTray n v s).streams = s.streams ∧
    (setTray n v s).aligns = s.aligns ∧
    (setTray n v s).outs = s.outs ∧
    (setTray n v s).gls = s.gls ∧
    (setTray n v s).prots = s.prots ∧
    (setTray n v s).outBuf = s.outBuf ∧
    (setTray n v s).pipeAt = s.pipeAt ∧
    (setTray n v s).lanes = s.lanes ∧
    (setTray n v s).msgs = s.msgs ∧
    (setTray n v s).macs = s.macs ∧
    (setTray n v s).stamps = s.stamps ∧
    (setTray n v s).stLost = s.stLost ∧
    (setTray n v s).ptp = s.ptp ∧
    (setTray n v s).ptpAdj = s.ptpAdj ∧
    (setTray n v s).ents = s.ents ∧
    (setTray n v s).clk = s.clk ∧
    (setTray n v s).twin = s.twin ∧
    (setTray n v s).kiln = s.kiln ∧
    (setTray n v s).pwr = s.pwr ∧
    (setTray n v s).granted = s.granted ∧
    (setTray n v s).lock = s.lock ∧
    (setTray n v s).upd = s.upd := by
  and_intros <;> rfl

@[simp] theorem setSlotFade_fields (n : Nat) (v : SlotFade) (s : State) :
    (setSlotFade n v s).pending = s.pending ∧
    (setSlotFade n v s).fuses = s.fuses ∧
    (setSlotFade n v s).cycle = s.cycle ∧
    (setSlotFade n v s).wire = s.wire ∧
    (setSlotFade n v s).fresh = s.fresh ∧
    (setSlotFade n v s).free = s.free ∧
    (setSlotFade n v s).regs = s.regs ∧
    (setSlotFade n v s).mem = s.mem ∧
    (setSlotFade n v s).chans = s.chans ∧
    (setSlotFade n v s).gen = s.gen ∧
    (setSlotFade n v s).ops = s.ops ∧
    (setSlotFade n v s).staged = s.staged ∧
    (setSlotFade n v s).proofTop = s.proofTop ∧
    (setSlotFade n v s).proofTotal = s.proofTotal ∧
    (setSlotFade n v s).proof = s.proof ∧
    (setSlotFade n v s).oven = s.oven ∧
    (setSlotFade n v s).commits = s.commits ∧
    (setSlotFade n v s).trays = s.trays ∧
    (setSlotFade n v s).fades = setT {} s.fades n v ∧
    (setSlotFade n v s).params = s.params ∧
    (setSlotFade n v s).bundles = s.bundles ∧
    (setSlotFade n v s).cores = s.cores ∧
    (setSlotFade n v s).dsp = s.dsp ∧
    (setSlotFade n v s).slots = s.slots ∧
    (setSlotFade n v s).inBuf = s.inBuf ∧
    (setSlotFade n v s).stores = s.stores ∧
    (setSlotFade n v s).fixedAt = s.fixedAt ∧
    (setSlotFade n v s).bridges = s.bridges ∧
    (setSlotFade n v s).xps = s.xps ∧
    (setSlotFade n v s).dyns = s.dyns ∧
    (setSlotFade n v s).delays = s.delays ∧
    (setSlotFade n v s).ports = s.ports ∧
    (setSlotFade n v s).pairs = s.pairs ∧
    (setSlotFade n v s).streams = s.streams ∧
    (setSlotFade n v s).aligns = s.aligns ∧
    (setSlotFade n v s).outs = s.outs ∧
    (setSlotFade n v s).gls = s.gls ∧
    (setSlotFade n v s).prots = s.prots ∧
    (setSlotFade n v s).outBuf = s.outBuf ∧
    (setSlotFade n v s).pipeAt = s.pipeAt ∧
    (setSlotFade n v s).lanes = s.lanes ∧
    (setSlotFade n v s).msgs = s.msgs ∧
    (setSlotFade n v s).macs = s.macs ∧
    (setSlotFade n v s).stamps = s.stamps ∧
    (setSlotFade n v s).stLost = s.stLost ∧
    (setSlotFade n v s).ptp = s.ptp ∧
    (setSlotFade n v s).ptpAdj = s.ptpAdj ∧
    (setSlotFade n v s).ents = s.ents ∧
    (setSlotFade n v s).clk = s.clk ∧
    (setSlotFade n v s).twin = s.twin ∧
    (setSlotFade n v s).kiln = s.kiln ∧
    (setSlotFade n v s).pwr = s.pwr ∧
    (setSlotFade n v s).granted = s.granted ∧
    (setSlotFade n v s).lock = s.lock ∧
    (setSlotFade n v s).upd = s.upd := by
  and_intros <;> rfl

@[simp] theorem setParam_fields (n : Nat) (v : Option ParamSt) (s : State) :
    (setParam n v s).pending = s.pending ∧
    (setParam n v s).fuses = s.fuses ∧
    (setParam n v s).cycle = s.cycle ∧
    (setParam n v s).wire = s.wire ∧
    (setParam n v s).fresh = s.fresh ∧
    (setParam n v s).free = s.free ∧
    (setParam n v s).regs = s.regs ∧
    (setParam n v s).mem = s.mem ∧
    (setParam n v s).chans = s.chans ∧
    (setParam n v s).gen = s.gen ∧
    (setParam n v s).ops = s.ops ∧
    (setParam n v s).staged = s.staged ∧
    (setParam n v s).proofTop = s.proofTop ∧
    (setParam n v s).proofTotal = s.proofTotal ∧
    (setParam n v s).proof = s.proof ∧
    (setParam n v s).oven = s.oven ∧
    (setParam n v s).commits = s.commits ∧
    (setParam n v s).trays = s.trays ∧
    (setParam n v s).fades = s.fades ∧
    (setParam n v s).params = setT none s.params n v ∧
    (setParam n v s).bundles = s.bundles ∧
    (setParam n v s).cores = s.cores ∧
    (setParam n v s).dsp = s.dsp ∧
    (setParam n v s).slots = s.slots ∧
    (setParam n v s).inBuf = s.inBuf ∧
    (setParam n v s).stores = s.stores ∧
    (setParam n v s).fixedAt = s.fixedAt ∧
    (setParam n v s).bridges = s.bridges ∧
    (setParam n v s).xps = s.xps ∧
    (setParam n v s).dyns = s.dyns ∧
    (setParam n v s).delays = s.delays ∧
    (setParam n v s).ports = s.ports ∧
    (setParam n v s).pairs = s.pairs ∧
    (setParam n v s).streams = s.streams ∧
    (setParam n v s).aligns = s.aligns ∧
    (setParam n v s).outs = s.outs ∧
    (setParam n v s).gls = s.gls ∧
    (setParam n v s).prots = s.prots ∧
    (setParam n v s).outBuf = s.outBuf ∧
    (setParam n v s).pipeAt = s.pipeAt ∧
    (setParam n v s).lanes = s.lanes ∧
    (setParam n v s).msgs = s.msgs ∧
    (setParam n v s).macs = s.macs ∧
    (setParam n v s).stamps = s.stamps ∧
    (setParam n v s).stLost = s.stLost ∧
    (setParam n v s).ptp = s.ptp ∧
    (setParam n v s).ptpAdj = s.ptpAdj ∧
    (setParam n v s).ents = s.ents ∧
    (setParam n v s).clk = s.clk ∧
    (setParam n v s).twin = s.twin ∧
    (setParam n v s).kiln = s.kiln ∧
    (setParam n v s).pwr = s.pwr ∧
    (setParam n v s).granted = s.granted ∧
    (setParam n v s).lock = s.lock ∧
    (setParam n v s).upd = s.upd := by
  and_intros <;> rfl

@[simp] theorem setBundle_fields (n : Nat) (v : Option BundleSt) (s : State) :
    (setBundle n v s).pending = s.pending ∧
    (setBundle n v s).fuses = s.fuses ∧
    (setBundle n v s).cycle = s.cycle ∧
    (setBundle n v s).wire = s.wire ∧
    (setBundle n v s).fresh = s.fresh ∧
    (setBundle n v s).free = s.free ∧
    (setBundle n v s).regs = s.regs ∧
    (setBundle n v s).mem = s.mem ∧
    (setBundle n v s).chans = s.chans ∧
    (setBundle n v s).gen = s.gen ∧
    (setBundle n v s).ops = s.ops ∧
    (setBundle n v s).staged = s.staged ∧
    (setBundle n v s).proofTop = s.proofTop ∧
    (setBundle n v s).proofTotal = s.proofTotal ∧
    (setBundle n v s).proof = s.proof ∧
    (setBundle n v s).oven = s.oven ∧
    (setBundle n v s).commits = s.commits ∧
    (setBundle n v s).trays = s.trays ∧
    (setBundle n v s).fades = s.fades ∧
    (setBundle n v s).params = s.params ∧
    (setBundle n v s).bundles = setT none s.bundles n v ∧
    (setBundle n v s).cores = s.cores ∧
    (setBundle n v s).dsp = s.dsp ∧
    (setBundle n v s).slots = s.slots ∧
    (setBundle n v s).inBuf = s.inBuf ∧
    (setBundle n v s).stores = s.stores ∧
    (setBundle n v s).fixedAt = s.fixedAt ∧
    (setBundle n v s).bridges = s.bridges ∧
    (setBundle n v s).xps = s.xps ∧
    (setBundle n v s).dyns = s.dyns ∧
    (setBundle n v s).delays = s.delays ∧
    (setBundle n v s).ports = s.ports ∧
    (setBundle n v s).pairs = s.pairs ∧
    (setBundle n v s).streams = s.streams ∧
    (setBundle n v s).aligns = s.aligns ∧
    (setBundle n v s).outs = s.outs ∧
    (setBundle n v s).gls = s.gls ∧
    (setBundle n v s).prots = s.prots ∧
    (setBundle n v s).outBuf = s.outBuf ∧
    (setBundle n v s).pipeAt = s.pipeAt ∧
    (setBundle n v s).lanes = s.lanes ∧
    (setBundle n v s).msgs = s.msgs ∧
    (setBundle n v s).macs = s.macs ∧
    (setBundle n v s).stamps = s.stamps ∧
    (setBundle n v s).stLost = s.stLost ∧
    (setBundle n v s).ptp = s.ptp ∧
    (setBundle n v s).ptpAdj = s.ptpAdj ∧
    (setBundle n v s).ents = s.ents ∧
    (setBundle n v s).clk = s.clk ∧
    (setBundle n v s).twin = s.twin ∧
    (setBundle n v s).kiln = s.kiln ∧
    (setBundle n v s).pwr = s.pwr ∧
    (setBundle n v s).granted = s.granted ∧
    (setBundle n v s).lock = s.lock ∧
    (setBundle n v s).upd = s.upd := by
  and_intros <;> rfl

@[simp] theorem setCore_fields (n : Nat) (v : CoreSt) (s : State) :
    (setCore n v s).pending = s.pending ∧
    (setCore n v s).fuses = s.fuses ∧
    (setCore n v s).cycle = s.cycle ∧
    (setCore n v s).wire = s.wire ∧
    (setCore n v s).fresh = s.fresh ∧
    (setCore n v s).free = s.free ∧
    (setCore n v s).regs = s.regs ∧
    (setCore n v s).mem = s.mem ∧
    (setCore n v s).chans = s.chans ∧
    (setCore n v s).gen = s.gen ∧
    (setCore n v s).ops = s.ops ∧
    (setCore n v s).staged = s.staged ∧
    (setCore n v s).proofTop = s.proofTop ∧
    (setCore n v s).proofTotal = s.proofTotal ∧
    (setCore n v s).proof = s.proof ∧
    (setCore n v s).oven = s.oven ∧
    (setCore n v s).commits = s.commits ∧
    (setCore n v s).trays = s.trays ∧
    (setCore n v s).fades = s.fades ∧
    (setCore n v s).params = s.params ∧
    (setCore n v s).bundles = s.bundles ∧
    (setCore n v s).cores = setT {} s.cores n v ∧
    (setCore n v s).dsp = s.dsp ∧
    (setCore n v s).slots = s.slots ∧
    (setCore n v s).inBuf = s.inBuf ∧
    (setCore n v s).stores = s.stores ∧
    (setCore n v s).fixedAt = s.fixedAt ∧
    (setCore n v s).bridges = s.bridges ∧
    (setCore n v s).xps = s.xps ∧
    (setCore n v s).dyns = s.dyns ∧
    (setCore n v s).delays = s.delays ∧
    (setCore n v s).ports = s.ports ∧
    (setCore n v s).pairs = s.pairs ∧
    (setCore n v s).streams = s.streams ∧
    (setCore n v s).aligns = s.aligns ∧
    (setCore n v s).outs = s.outs ∧
    (setCore n v s).gls = s.gls ∧
    (setCore n v s).prots = s.prots ∧
    (setCore n v s).outBuf = s.outBuf ∧
    (setCore n v s).pipeAt = s.pipeAt ∧
    (setCore n v s).lanes = s.lanes ∧
    (setCore n v s).msgs = s.msgs ∧
    (setCore n v s).macs = s.macs ∧
    (setCore n v s).stamps = s.stamps ∧
    (setCore n v s).stLost = s.stLost ∧
    (setCore n v s).ptp = s.ptp ∧
    (setCore n v s).ptpAdj = s.ptpAdj ∧
    (setCore n v s).ents = s.ents ∧
    (setCore n v s).clk = s.clk ∧
    (setCore n v s).twin = s.twin ∧
    (setCore n v s).kiln = s.kiln ∧
    (setCore n v s).pwr = s.pwr ∧
    (setCore n v s).granted = s.granted ∧
    (setCore n v s).lock = s.lock ∧
    (setCore n v s).upd = s.upd := by
  and_intros <;> rfl

@[simp] theorem setDyn_fields (n : Nat) (v : Option DynSt) (s : State) :
    (setDyn n v s).pending = s.pending ∧
    (setDyn n v s).fuses = s.fuses ∧
    (setDyn n v s).cycle = s.cycle ∧
    (setDyn n v s).wire = s.wire ∧
    (setDyn n v s).fresh = s.fresh ∧
    (setDyn n v s).free = s.free ∧
    (setDyn n v s).regs = s.regs ∧
    (setDyn n v s).mem = s.mem ∧
    (setDyn n v s).chans = s.chans ∧
    (setDyn n v s).gen = s.gen ∧
    (setDyn n v s).ops = s.ops ∧
    (setDyn n v s).staged = s.staged ∧
    (setDyn n v s).proofTop = s.proofTop ∧
    (setDyn n v s).proofTotal = s.proofTotal ∧
    (setDyn n v s).proof = s.proof ∧
    (setDyn n v s).oven = s.oven ∧
    (setDyn n v s).commits = s.commits ∧
    (setDyn n v s).trays = s.trays ∧
    (setDyn n v s).fades = s.fades ∧
    (setDyn n v s).params = s.params ∧
    (setDyn n v s).bundles = s.bundles ∧
    (setDyn n v s).cores = s.cores ∧
    (setDyn n v s).dsp = s.dsp ∧
    (setDyn n v s).slots = s.slots ∧
    (setDyn n v s).inBuf = s.inBuf ∧
    (setDyn n v s).stores = s.stores ∧
    (setDyn n v s).fixedAt = s.fixedAt ∧
    (setDyn n v s).bridges = s.bridges ∧
    (setDyn n v s).xps = s.xps ∧
    (setDyn n v s).dyns = setT none s.dyns n v ∧
    (setDyn n v s).delays = s.delays ∧
    (setDyn n v s).ports = s.ports ∧
    (setDyn n v s).pairs = s.pairs ∧
    (setDyn n v s).streams = s.streams ∧
    (setDyn n v s).aligns = s.aligns ∧
    (setDyn n v s).outs = s.outs ∧
    (setDyn n v s).gls = s.gls ∧
    (setDyn n v s).prots = s.prots ∧
    (setDyn n v s).outBuf = s.outBuf ∧
    (setDyn n v s).pipeAt = s.pipeAt ∧
    (setDyn n v s).lanes = s.lanes ∧
    (setDyn n v s).msgs = s.msgs ∧
    (setDyn n v s).macs = s.macs ∧
    (setDyn n v s).stamps = s.stamps ∧
    (setDyn n v s).stLost = s.stLost ∧
    (setDyn n v s).ptp = s.ptp ∧
    (setDyn n v s).ptpAdj = s.ptpAdj ∧
    (setDyn n v s).ents = s.ents ∧
    (setDyn n v s).clk = s.clk ∧
    (setDyn n v s).twin = s.twin ∧
    (setDyn n v s).kiln = s.kiln ∧
    (setDyn n v s).pwr = s.pwr ∧
    (setDyn n v s).granted = s.granted ∧
    (setDyn n v s).lock = s.lock ∧
    (setDyn n v s).upd = s.upd := by
  and_intros <;> rfl

@[simp] theorem setDelay_fields (n : Nat) (v : Option DelaySt) (s : State) :
    (setDelay n v s).pending = s.pending ∧
    (setDelay n v s).fuses = s.fuses ∧
    (setDelay n v s).cycle = s.cycle ∧
    (setDelay n v s).wire = s.wire ∧
    (setDelay n v s).fresh = s.fresh ∧
    (setDelay n v s).free = s.free ∧
    (setDelay n v s).regs = s.regs ∧
    (setDelay n v s).mem = s.mem ∧
    (setDelay n v s).chans = s.chans ∧
    (setDelay n v s).gen = s.gen ∧
    (setDelay n v s).ops = s.ops ∧
    (setDelay n v s).staged = s.staged ∧
    (setDelay n v s).proofTop = s.proofTop ∧
    (setDelay n v s).proofTotal = s.proofTotal ∧
    (setDelay n v s).proof = s.proof ∧
    (setDelay n v s).oven = s.oven ∧
    (setDelay n v s).commits = s.commits ∧
    (setDelay n v s).trays = s.trays ∧
    (setDelay n v s).fades = s.fades ∧
    (setDelay n v s).params = s.params ∧
    (setDelay n v s).bundles = s.bundles ∧
    (setDelay n v s).cores = s.cores ∧
    (setDelay n v s).dsp = s.dsp ∧
    (setDelay n v s).slots = s.slots ∧
    (setDelay n v s).inBuf = s.inBuf ∧
    (setDelay n v s).stores = s.stores ∧
    (setDelay n v s).fixedAt = s.fixedAt ∧
    (setDelay n v s).bridges = s.bridges ∧
    (setDelay n v s).xps = s.xps ∧
    (setDelay n v s).dyns = s.dyns ∧
    (setDelay n v s).delays = setT none s.delays n v ∧
    (setDelay n v s).ports = s.ports ∧
    (setDelay n v s).pairs = s.pairs ∧
    (setDelay n v s).streams = s.streams ∧
    (setDelay n v s).aligns = s.aligns ∧
    (setDelay n v s).outs = s.outs ∧
    (setDelay n v s).gls = s.gls ∧
    (setDelay n v s).prots = s.prots ∧
    (setDelay n v s).outBuf = s.outBuf ∧
    (setDelay n v s).pipeAt = s.pipeAt ∧
    (setDelay n v s).lanes = s.lanes ∧
    (setDelay n v s).msgs = s.msgs ∧
    (setDelay n v s).macs = s.macs ∧
    (setDelay n v s).stamps = s.stamps ∧
    (setDelay n v s).stLost = s.stLost ∧
    (setDelay n v s).ptp = s.ptp ∧
    (setDelay n v s).ptpAdj = s.ptpAdj ∧
    (setDelay n v s).ents = s.ents ∧
    (setDelay n v s).clk = s.clk ∧
    (setDelay n v s).twin = s.twin ∧
    (setDelay n v s).kiln = s.kiln ∧
    (setDelay n v s).pwr = s.pwr ∧
    (setDelay n v s).granted = s.granted ∧
    (setDelay n v s).lock = s.lock ∧
    (setDelay n v s).upd = s.upd := by
  and_intros <;> rfl

@[simp] theorem setPort_fields (n : Nat) (v : PortSt) (s : State) :
    (setPort n v s).pending = s.pending ∧
    (setPort n v s).fuses = s.fuses ∧
    (setPort n v s).cycle = s.cycle ∧
    (setPort n v s).wire = s.wire ∧
    (setPort n v s).fresh = s.fresh ∧
    (setPort n v s).free = s.free ∧
    (setPort n v s).regs = s.regs ∧
    (setPort n v s).mem = s.mem ∧
    (setPort n v s).chans = s.chans ∧
    (setPort n v s).gen = s.gen ∧
    (setPort n v s).ops = s.ops ∧
    (setPort n v s).staged = s.staged ∧
    (setPort n v s).proofTop = s.proofTop ∧
    (setPort n v s).proofTotal = s.proofTotal ∧
    (setPort n v s).proof = s.proof ∧
    (setPort n v s).oven = s.oven ∧
    (setPort n v s).commits = s.commits ∧
    (setPort n v s).trays = s.trays ∧
    (setPort n v s).fades = s.fades ∧
    (setPort n v s).params = s.params ∧
    (setPort n v s).bundles = s.bundles ∧
    (setPort n v s).cores = s.cores ∧
    (setPort n v s).dsp = s.dsp ∧
    (setPort n v s).slots = s.slots ∧
    (setPort n v s).inBuf = s.inBuf ∧
    (setPort n v s).stores = s.stores ∧
    (setPort n v s).fixedAt = s.fixedAt ∧
    (setPort n v s).bridges = s.bridges ∧
    (setPort n v s).xps = s.xps ∧
    (setPort n v s).dyns = s.dyns ∧
    (setPort n v s).delays = s.delays ∧
    (setPort n v s).ports = setT {} s.ports n v ∧
    (setPort n v s).pairs = s.pairs ∧
    (setPort n v s).streams = s.streams ∧
    (setPort n v s).aligns = s.aligns ∧
    (setPort n v s).outs = s.outs ∧
    (setPort n v s).gls = s.gls ∧
    (setPort n v s).prots = s.prots ∧
    (setPort n v s).outBuf = s.outBuf ∧
    (setPort n v s).pipeAt = s.pipeAt ∧
    (setPort n v s).lanes = s.lanes ∧
    (setPort n v s).msgs = s.msgs ∧
    (setPort n v s).macs = s.macs ∧
    (setPort n v s).stamps = s.stamps ∧
    (setPort n v s).stLost = s.stLost ∧
    (setPort n v s).ptp = s.ptp ∧
    (setPort n v s).ptpAdj = s.ptpAdj ∧
    (setPort n v s).ents = s.ents ∧
    (setPort n v s).clk = s.clk ∧
    (setPort n v s).twin = s.twin ∧
    (setPort n v s).kiln = s.kiln ∧
    (setPort n v s).pwr = s.pwr ∧
    (setPort n v s).granted = s.granted ∧
    (setPort n v s).lock = s.lock ∧
    (setPort n v s).upd = s.upd := by
  and_intros <;> rfl

@[simp] theorem setPair_fields (n : Nat) (v : PairSt) (s : State) :
    (setPair n v s).pending = s.pending ∧
    (setPair n v s).fuses = s.fuses ∧
    (setPair n v s).cycle = s.cycle ∧
    (setPair n v s).wire = s.wire ∧
    (setPair n v s).fresh = s.fresh ∧
    (setPair n v s).free = s.free ∧
    (setPair n v s).regs = s.regs ∧
    (setPair n v s).mem = s.mem ∧
    (setPair n v s).chans = s.chans ∧
    (setPair n v s).gen = s.gen ∧
    (setPair n v s).ops = s.ops ∧
    (setPair n v s).staged = s.staged ∧
    (setPair n v s).proofTop = s.proofTop ∧
    (setPair n v s).proofTotal = s.proofTotal ∧
    (setPair n v s).proof = s.proof ∧
    (setPair n v s).oven = s.oven ∧
    (setPair n v s).commits = s.commits ∧
    (setPair n v s).trays = s.trays ∧
    (setPair n v s).fades = s.fades ∧
    (setPair n v s).params = s.params ∧
    (setPair n v s).bundles = s.bundles ∧
    (setPair n v s).cores = s.cores ∧
    (setPair n v s).dsp = s.dsp ∧
    (setPair n v s).slots = s.slots ∧
    (setPair n v s).inBuf = s.inBuf ∧
    (setPair n v s).stores = s.stores ∧
    (setPair n v s).fixedAt = s.fixedAt ∧
    (setPair n v s).bridges = s.bridges ∧
    (setPair n v s).xps = s.xps ∧
    (setPair n v s).dyns = s.dyns ∧
    (setPair n v s).delays = s.delays ∧
    (setPair n v s).ports = s.ports ∧
    (setPair n v s).pairs = setT {} s.pairs n v ∧
    (setPair n v s).streams = s.streams ∧
    (setPair n v s).aligns = s.aligns ∧
    (setPair n v s).outs = s.outs ∧
    (setPair n v s).gls = s.gls ∧
    (setPair n v s).prots = s.prots ∧
    (setPair n v s).outBuf = s.outBuf ∧
    (setPair n v s).pipeAt = s.pipeAt ∧
    (setPair n v s).lanes = s.lanes ∧
    (setPair n v s).msgs = s.msgs ∧
    (setPair n v s).macs = s.macs ∧
    (setPair n v s).stamps = s.stamps ∧
    (setPair n v s).stLost = s.stLost ∧
    (setPair n v s).ptp = s.ptp ∧
    (setPair n v s).ptpAdj = s.ptpAdj ∧
    (setPair n v s).ents = s.ents ∧
    (setPair n v s).clk = s.clk ∧
    (setPair n v s).twin = s.twin ∧
    (setPair n v s).kiln = s.kiln ∧
    (setPair n v s).pwr = s.pwr ∧
    (setPair n v s).granted = s.granted ∧
    (setPair n v s).lock = s.lock ∧
    (setPair n v s).upd = s.upd := by
  and_intros <;> rfl

@[simp] theorem setStream_fields (n : Nat) (v : StreamSt) (s : State) :
    (setStream n v s).pending = s.pending ∧
    (setStream n v s).fuses = s.fuses ∧
    (setStream n v s).cycle = s.cycle ∧
    (setStream n v s).wire = s.wire ∧
    (setStream n v s).fresh = s.fresh ∧
    (setStream n v s).free = s.free ∧
    (setStream n v s).regs = s.regs ∧
    (setStream n v s).mem = s.mem ∧
    (setStream n v s).chans = s.chans ∧
    (setStream n v s).gen = s.gen ∧
    (setStream n v s).ops = s.ops ∧
    (setStream n v s).staged = s.staged ∧
    (setStream n v s).proofTop = s.proofTop ∧
    (setStream n v s).proofTotal = s.proofTotal ∧
    (setStream n v s).proof = s.proof ∧
    (setStream n v s).oven = s.oven ∧
    (setStream n v s).commits = s.commits ∧
    (setStream n v s).trays = s.trays ∧
    (setStream n v s).fades = s.fades ∧
    (setStream n v s).params = s.params ∧
    (setStream n v s).bundles = s.bundles ∧
    (setStream n v s).cores = s.cores ∧
    (setStream n v s).dsp = s.dsp ∧
    (setStream n v s).slots = s.slots ∧
    (setStream n v s).inBuf = s.inBuf ∧
    (setStream n v s).stores = s.stores ∧
    (setStream n v s).fixedAt = s.fixedAt ∧
    (setStream n v s).bridges = s.bridges ∧
    (setStream n v s).xps = s.xps ∧
    (setStream n v s).dyns = s.dyns ∧
    (setStream n v s).delays = s.delays ∧
    (setStream n v s).ports = s.ports ∧
    (setStream n v s).pairs = s.pairs ∧
    (setStream n v s).streams = setT {} s.streams n v ∧
    (setStream n v s).aligns = s.aligns ∧
    (setStream n v s).outs = s.outs ∧
    (setStream n v s).gls = s.gls ∧
    (setStream n v s).prots = s.prots ∧
    (setStream n v s).outBuf = s.outBuf ∧
    (setStream n v s).pipeAt = s.pipeAt ∧
    (setStream n v s).lanes = s.lanes ∧
    (setStream n v s).msgs = s.msgs ∧
    (setStream n v s).macs = s.macs ∧
    (setStream n v s).stamps = s.stamps ∧
    (setStream n v s).stLost = s.stLost ∧
    (setStream n v s).ptp = s.ptp ∧
    (setStream n v s).ptpAdj = s.ptpAdj ∧
    (setStream n v s).ents = s.ents ∧
    (setStream n v s).clk = s.clk ∧
    (setStream n v s).twin = s.twin ∧
    (setStream n v s).kiln = s.kiln ∧
    (setStream n v s).pwr = s.pwr ∧
    (setStream n v s).granted = s.granted ∧
    (setStream n v s).lock = s.lock ∧
    (setStream n v s).upd = s.upd := by
  and_intros <;> rfl

@[simp] theorem setAlign_fields (n : Nat) (v : AlignSt) (s : State) :
    (setAlign n v s).pending = s.pending ∧
    (setAlign n v s).fuses = s.fuses ∧
    (setAlign n v s).cycle = s.cycle ∧
    (setAlign n v s).wire = s.wire ∧
    (setAlign n v s).fresh = s.fresh ∧
    (setAlign n v s).free = s.free ∧
    (setAlign n v s).regs = s.regs ∧
    (setAlign n v s).mem = s.mem ∧
    (setAlign n v s).chans = s.chans ∧
    (setAlign n v s).gen = s.gen ∧
    (setAlign n v s).ops = s.ops ∧
    (setAlign n v s).staged = s.staged ∧
    (setAlign n v s).proofTop = s.proofTop ∧
    (setAlign n v s).proofTotal = s.proofTotal ∧
    (setAlign n v s).proof = s.proof ∧
    (setAlign n v s).oven = s.oven ∧
    (setAlign n v s).commits = s.commits ∧
    (setAlign n v s).trays = s.trays ∧
    (setAlign n v s).fades = s.fades ∧
    (setAlign n v s).params = s.params ∧
    (setAlign n v s).bundles = s.bundles ∧
    (setAlign n v s).cores = s.cores ∧
    (setAlign n v s).dsp = s.dsp ∧
    (setAlign n v s).slots = s.slots ∧
    (setAlign n v s).inBuf = s.inBuf ∧
    (setAlign n v s).stores = s.stores ∧
    (setAlign n v s).fixedAt = s.fixedAt ∧
    (setAlign n v s).bridges = s.bridges ∧
    (setAlign n v s).xps = s.xps ∧
    (setAlign n v s).dyns = s.dyns ∧
    (setAlign n v s).delays = s.delays ∧
    (setAlign n v s).ports = s.ports ∧
    (setAlign n v s).pairs = s.pairs ∧
    (setAlign n v s).streams = s.streams ∧
    (setAlign n v s).aligns = setT {} s.aligns n v ∧
    (setAlign n v s).outs = s.outs ∧
    (setAlign n v s).gls = s.gls ∧
    (setAlign n v s).prots = s.prots ∧
    (setAlign n v s).outBuf = s.outBuf ∧
    (setAlign n v s).pipeAt = s.pipeAt ∧
    (setAlign n v s).lanes = s.lanes ∧
    (setAlign n v s).msgs = s.msgs ∧
    (setAlign n v s).macs = s.macs ∧
    (setAlign n v s).stamps = s.stamps ∧
    (setAlign n v s).stLost = s.stLost ∧
    (setAlign n v s).ptp = s.ptp ∧
    (setAlign n v s).ptpAdj = s.ptpAdj ∧
    (setAlign n v s).ents = s.ents ∧
    (setAlign n v s).clk = s.clk ∧
    (setAlign n v s).twin = s.twin ∧
    (setAlign n v s).kiln = s.kiln ∧
    (setAlign n v s).pwr = s.pwr ∧
    (setAlign n v s).granted = s.granted ∧
    (setAlign n v s).lock = s.lock ∧
    (setAlign n v s).upd = s.upd := by
  and_intros <;> rfl

@[simp] theorem setOut_fields (n : Nat) (v : OutSt) (s : State) :
    (setOut n v s).pending = s.pending ∧
    (setOut n v s).fuses = s.fuses ∧
    (setOut n v s).cycle = s.cycle ∧
    (setOut n v s).wire = s.wire ∧
    (setOut n v s).fresh = s.fresh ∧
    (setOut n v s).free = s.free ∧
    (setOut n v s).regs = s.regs ∧
    (setOut n v s).mem = s.mem ∧
    (setOut n v s).chans = s.chans ∧
    (setOut n v s).gen = s.gen ∧
    (setOut n v s).ops = s.ops ∧
    (setOut n v s).staged = s.staged ∧
    (setOut n v s).proofTop = s.proofTop ∧
    (setOut n v s).proofTotal = s.proofTotal ∧
    (setOut n v s).proof = s.proof ∧
    (setOut n v s).oven = s.oven ∧
    (setOut n v s).commits = s.commits ∧
    (setOut n v s).trays = s.trays ∧
    (setOut n v s).fades = s.fades ∧
    (setOut n v s).params = s.params ∧
    (setOut n v s).bundles = s.bundles ∧
    (setOut n v s).cores = s.cores ∧
    (setOut n v s).dsp = s.dsp ∧
    (setOut n v s).slots = s.slots ∧
    (setOut n v s).inBuf = s.inBuf ∧
    (setOut n v s).stores = s.stores ∧
    (setOut n v s).fixedAt = s.fixedAt ∧
    (setOut n v s).bridges = s.bridges ∧
    (setOut n v s).xps = s.xps ∧
    (setOut n v s).dyns = s.dyns ∧
    (setOut n v s).delays = s.delays ∧
    (setOut n v s).ports = s.ports ∧
    (setOut n v s).pairs = s.pairs ∧
    (setOut n v s).streams = s.streams ∧
    (setOut n v s).aligns = s.aligns ∧
    (setOut n v s).outs = setT {} s.outs n v ∧
    (setOut n v s).gls = s.gls ∧
    (setOut n v s).prots = s.prots ∧
    (setOut n v s).outBuf = s.outBuf ∧
    (setOut n v s).pipeAt = s.pipeAt ∧
    (setOut n v s).lanes = s.lanes ∧
    (setOut n v s).msgs = s.msgs ∧
    (setOut n v s).macs = s.macs ∧
    (setOut n v s).stamps = s.stamps ∧
    (setOut n v s).stLost = s.stLost ∧
    (setOut n v s).ptp = s.ptp ∧
    (setOut n v s).ptpAdj = s.ptpAdj ∧
    (setOut n v s).ents = s.ents ∧
    (setOut n v s).clk = s.clk ∧
    (setOut n v s).twin = s.twin ∧
    (setOut n v s).kiln = s.kiln ∧
    (setOut n v s).pwr = s.pwr ∧
    (setOut n v s).granted = s.granted ∧
    (setOut n v s).lock = s.lock ∧
    (setOut n v s).upd = s.upd := by
  and_intros <;> rfl

@[simp] theorem setGl_fields (n : Nat) (v : GlSt) (s : State) :
    (setGl n v s).pending = s.pending ∧
    (setGl n v s).fuses = s.fuses ∧
    (setGl n v s).cycle = s.cycle ∧
    (setGl n v s).wire = s.wire ∧
    (setGl n v s).fresh = s.fresh ∧
    (setGl n v s).free = s.free ∧
    (setGl n v s).regs = s.regs ∧
    (setGl n v s).mem = s.mem ∧
    (setGl n v s).chans = s.chans ∧
    (setGl n v s).gen = s.gen ∧
    (setGl n v s).ops = s.ops ∧
    (setGl n v s).staged = s.staged ∧
    (setGl n v s).proofTop = s.proofTop ∧
    (setGl n v s).proofTotal = s.proofTotal ∧
    (setGl n v s).proof = s.proof ∧
    (setGl n v s).oven = s.oven ∧
    (setGl n v s).commits = s.commits ∧
    (setGl n v s).trays = s.trays ∧
    (setGl n v s).fades = s.fades ∧
    (setGl n v s).params = s.params ∧
    (setGl n v s).bundles = s.bundles ∧
    (setGl n v s).cores = s.cores ∧
    (setGl n v s).dsp = s.dsp ∧
    (setGl n v s).slots = s.slots ∧
    (setGl n v s).inBuf = s.inBuf ∧
    (setGl n v s).stores = s.stores ∧
    (setGl n v s).fixedAt = s.fixedAt ∧
    (setGl n v s).bridges = s.bridges ∧
    (setGl n v s).xps = s.xps ∧
    (setGl n v s).dyns = s.dyns ∧
    (setGl n v s).delays = s.delays ∧
    (setGl n v s).ports = s.ports ∧
    (setGl n v s).pairs = s.pairs ∧
    (setGl n v s).streams = s.streams ∧
    (setGl n v s).aligns = s.aligns ∧
    (setGl n v s).outs = s.outs ∧
    (setGl n v s).gls = setT {} s.gls n v ∧
    (setGl n v s).prots = s.prots ∧
    (setGl n v s).outBuf = s.outBuf ∧
    (setGl n v s).pipeAt = s.pipeAt ∧
    (setGl n v s).lanes = s.lanes ∧
    (setGl n v s).msgs = s.msgs ∧
    (setGl n v s).macs = s.macs ∧
    (setGl n v s).stamps = s.stamps ∧
    (setGl n v s).stLost = s.stLost ∧
    (setGl n v s).ptp = s.ptp ∧
    (setGl n v s).ptpAdj = s.ptpAdj ∧
    (setGl n v s).ents = s.ents ∧
    (setGl n v s).clk = s.clk ∧
    (setGl n v s).twin = s.twin ∧
    (setGl n v s).kiln = s.kiln ∧
    (setGl n v s).pwr = s.pwr ∧
    (setGl n v s).granted = s.granted ∧
    (setGl n v s).lock = s.lock ∧
    (setGl n v s).upd = s.upd := by
  and_intros <;> rfl

@[simp] theorem setProt_fields (n : Nat) (v : ProtSt) (s : State) :
    (setProt n v s).pending = s.pending ∧
    (setProt n v s).fuses = s.fuses ∧
    (setProt n v s).cycle = s.cycle ∧
    (setProt n v s).wire = s.wire ∧
    (setProt n v s).fresh = s.fresh ∧
    (setProt n v s).free = s.free ∧
    (setProt n v s).regs = s.regs ∧
    (setProt n v s).mem = s.mem ∧
    (setProt n v s).chans = s.chans ∧
    (setProt n v s).gen = s.gen ∧
    (setProt n v s).ops = s.ops ∧
    (setProt n v s).staged = s.staged ∧
    (setProt n v s).proofTop = s.proofTop ∧
    (setProt n v s).proofTotal = s.proofTotal ∧
    (setProt n v s).proof = s.proof ∧
    (setProt n v s).oven = s.oven ∧
    (setProt n v s).commits = s.commits ∧
    (setProt n v s).trays = s.trays ∧
    (setProt n v s).fades = s.fades ∧
    (setProt n v s).params = s.params ∧
    (setProt n v s).bundles = s.bundles ∧
    (setProt n v s).cores = s.cores ∧
    (setProt n v s).dsp = s.dsp ∧
    (setProt n v s).slots = s.slots ∧
    (setProt n v s).inBuf = s.inBuf ∧
    (setProt n v s).stores = s.stores ∧
    (setProt n v s).fixedAt = s.fixedAt ∧
    (setProt n v s).bridges = s.bridges ∧
    (setProt n v s).xps = s.xps ∧
    (setProt n v s).dyns = s.dyns ∧
    (setProt n v s).delays = s.delays ∧
    (setProt n v s).ports = s.ports ∧
    (setProt n v s).pairs = s.pairs ∧
    (setProt n v s).streams = s.streams ∧
    (setProt n v s).aligns = s.aligns ∧
    (setProt n v s).outs = s.outs ∧
    (setProt n v s).gls = s.gls ∧
    (setProt n v s).prots = setT {} s.prots n v ∧
    (setProt n v s).outBuf = s.outBuf ∧
    (setProt n v s).pipeAt = s.pipeAt ∧
    (setProt n v s).lanes = s.lanes ∧
    (setProt n v s).msgs = s.msgs ∧
    (setProt n v s).macs = s.macs ∧
    (setProt n v s).stamps = s.stamps ∧
    (setProt n v s).stLost = s.stLost ∧
    (setProt n v s).ptp = s.ptp ∧
    (setProt n v s).ptpAdj = s.ptpAdj ∧
    (setProt n v s).ents = s.ents ∧
    (setProt n v s).clk = s.clk ∧
    (setProt n v s).twin = s.twin ∧
    (setProt n v s).kiln = s.kiln ∧
    (setProt n v s).pwr = s.pwr ∧
    (setProt n v s).granted = s.granted ∧
    (setProt n v s).lock = s.lock ∧
    (setProt n v s).upd = s.upd := by
  and_intros <;> rfl

@[simp] theorem setLane_fields (n : Nat) (v : LaneSt) (s : State) :
    (setLane n v s).pending = s.pending ∧
    (setLane n v s).fuses = s.fuses ∧
    (setLane n v s).cycle = s.cycle ∧
    (setLane n v s).wire = s.wire ∧
    (setLane n v s).fresh = s.fresh ∧
    (setLane n v s).free = s.free ∧
    (setLane n v s).regs = s.regs ∧
    (setLane n v s).mem = s.mem ∧
    (setLane n v s).chans = s.chans ∧
    (setLane n v s).gen = s.gen ∧
    (setLane n v s).ops = s.ops ∧
    (setLane n v s).staged = s.staged ∧
    (setLane n v s).proofTop = s.proofTop ∧
    (setLane n v s).proofTotal = s.proofTotal ∧
    (setLane n v s).proof = s.proof ∧
    (setLane n v s).oven = s.oven ∧
    (setLane n v s).commits = s.commits ∧
    (setLane n v s).trays = s.trays ∧
    (setLane n v s).fades = s.fades ∧
    (setLane n v s).params = s.params ∧
    (setLane n v s).bundles = s.bundles ∧
    (setLane n v s).cores = s.cores ∧
    (setLane n v s).dsp = s.dsp ∧
    (setLane n v s).slots = s.slots ∧
    (setLane n v s).inBuf = s.inBuf ∧
    (setLane n v s).stores = s.stores ∧
    (setLane n v s).fixedAt = s.fixedAt ∧
    (setLane n v s).bridges = s.bridges ∧
    (setLane n v s).xps = s.xps ∧
    (setLane n v s).dyns = s.dyns ∧
    (setLane n v s).delays = s.delays ∧
    (setLane n v s).ports = s.ports ∧
    (setLane n v s).pairs = s.pairs ∧
    (setLane n v s).streams = s.streams ∧
    (setLane n v s).aligns = s.aligns ∧
    (setLane n v s).outs = s.outs ∧
    (setLane n v s).gls = s.gls ∧
    (setLane n v s).prots = s.prots ∧
    (setLane n v s).outBuf = s.outBuf ∧
    (setLane n v s).pipeAt = s.pipeAt ∧
    (setLane n v s).lanes = setT {} s.lanes n v ∧
    (setLane n v s).msgs = s.msgs ∧
    (setLane n v s).macs = s.macs ∧
    (setLane n v s).stamps = s.stamps ∧
    (setLane n v s).stLost = s.stLost ∧
    (setLane n v s).ptp = s.ptp ∧
    (setLane n v s).ptpAdj = s.ptpAdj ∧
    (setLane n v s).ents = s.ents ∧
    (setLane n v s).clk = s.clk ∧
    (setLane n v s).twin = s.twin ∧
    (setLane n v s).kiln = s.kiln ∧
    (setLane n v s).pwr = s.pwr ∧
    (setLane n v s).granted = s.granted ∧
    (setLane n v s).lock = s.lock ∧
    (setLane n v s).upd = s.upd := by
  and_intros <;> rfl

@[simp] theorem setMac_fields (n : Nat) (v : MacSt) (s : State) :
    (setMac n v s).pending = s.pending ∧
    (setMac n v s).fuses = s.fuses ∧
    (setMac n v s).cycle = s.cycle ∧
    (setMac n v s).wire = s.wire ∧
    (setMac n v s).fresh = s.fresh ∧
    (setMac n v s).free = s.free ∧
    (setMac n v s).regs = s.regs ∧
    (setMac n v s).mem = s.mem ∧
    (setMac n v s).chans = s.chans ∧
    (setMac n v s).gen = s.gen ∧
    (setMac n v s).ops = s.ops ∧
    (setMac n v s).staged = s.staged ∧
    (setMac n v s).proofTop = s.proofTop ∧
    (setMac n v s).proofTotal = s.proofTotal ∧
    (setMac n v s).proof = s.proof ∧
    (setMac n v s).oven = s.oven ∧
    (setMac n v s).commits = s.commits ∧
    (setMac n v s).trays = s.trays ∧
    (setMac n v s).fades = s.fades ∧
    (setMac n v s).params = s.params ∧
    (setMac n v s).bundles = s.bundles ∧
    (setMac n v s).cores = s.cores ∧
    (setMac n v s).dsp = s.dsp ∧
    (setMac n v s).slots = s.slots ∧
    (setMac n v s).inBuf = s.inBuf ∧
    (setMac n v s).stores = s.stores ∧
    (setMac n v s).fixedAt = s.fixedAt ∧
    (setMac n v s).bridges = s.bridges ∧
    (setMac n v s).xps = s.xps ∧
    (setMac n v s).dyns = s.dyns ∧
    (setMac n v s).delays = s.delays ∧
    (setMac n v s).ports = s.ports ∧
    (setMac n v s).pairs = s.pairs ∧
    (setMac n v s).streams = s.streams ∧
    (setMac n v s).aligns = s.aligns ∧
    (setMac n v s).outs = s.outs ∧
    (setMac n v s).gls = s.gls ∧
    (setMac n v s).prots = s.prots ∧
    (setMac n v s).outBuf = s.outBuf ∧
    (setMac n v s).pipeAt = s.pipeAt ∧
    (setMac n v s).lanes = s.lanes ∧
    (setMac n v s).msgs = s.msgs ∧
    (setMac n v s).macs = setT {} s.macs n v ∧
    (setMac n v s).stamps = s.stamps ∧
    (setMac n v s).stLost = s.stLost ∧
    (setMac n v s).ptp = s.ptp ∧
    (setMac n v s).ptpAdj = s.ptpAdj ∧
    (setMac n v s).ents = s.ents ∧
    (setMac n v s).clk = s.clk ∧
    (setMac n v s).twin = s.twin ∧
    (setMac n v s).kiln = s.kiln ∧
    (setMac n v s).pwr = s.pwr ∧
    (setMac n v s).granted = s.granted ∧
    (setMac n v s).lock = s.lock ∧
    (setMac n v s).upd = s.upd := by
  and_intros <;> rfl

@[simp] theorem setEnt_fields (n : Nat) (v : ClkEnt) (s : State) :
    (setEnt n v s).pending = s.pending ∧
    (setEnt n v s).fuses = s.fuses ∧
    (setEnt n v s).cycle = s.cycle ∧
    (setEnt n v s).wire = s.wire ∧
    (setEnt n v s).fresh = s.fresh ∧
    (setEnt n v s).free = s.free ∧
    (setEnt n v s).regs = s.regs ∧
    (setEnt n v s).mem = s.mem ∧
    (setEnt n v s).chans = s.chans ∧
    (setEnt n v s).gen = s.gen ∧
    (setEnt n v s).ops = s.ops ∧
    (setEnt n v s).staged = s.staged ∧
    (setEnt n v s).proofTop = s.proofTop ∧
    (setEnt n v s).proofTotal = s.proofTotal ∧
    (setEnt n v s).proof = s.proof ∧
    (setEnt n v s).oven = s.oven ∧
    (setEnt n v s).commits = s.commits ∧
    (setEnt n v s).trays = s.trays ∧
    (setEnt n v s).fades = s.fades ∧
    (setEnt n v s).params = s.params ∧
    (setEnt n v s).bundles = s.bundles ∧
    (setEnt n v s).cores = s.cores ∧
    (setEnt n v s).dsp = s.dsp ∧
    (setEnt n v s).slots = s.slots ∧
    (setEnt n v s).inBuf = s.inBuf ∧
    (setEnt n v s).stores = s.stores ∧
    (setEnt n v s).fixedAt = s.fixedAt ∧
    (setEnt n v s).bridges = s.bridges ∧
    (setEnt n v s).xps = s.xps ∧
    (setEnt n v s).dyns = s.dyns ∧
    (setEnt n v s).delays = s.delays ∧
    (setEnt n v s).ports = s.ports ∧
    (setEnt n v s).pairs = s.pairs ∧
    (setEnt n v s).streams = s.streams ∧
    (setEnt n v s).aligns = s.aligns ∧
    (setEnt n v s).outs = s.outs ∧
    (setEnt n v s).gls = s.gls ∧
    (setEnt n v s).prots = s.prots ∧
    (setEnt n v s).outBuf = s.outBuf ∧
    (setEnt n v s).pipeAt = s.pipeAt ∧
    (setEnt n v s).lanes = s.lanes ∧
    (setEnt n v s).msgs = s.msgs ∧
    (setEnt n v s).macs = s.macs ∧
    (setEnt n v s).stamps = s.stamps ∧
    (setEnt n v s).stLost = s.stLost ∧
    (setEnt n v s).ptp = s.ptp ∧
    (setEnt n v s).ptpAdj = s.ptpAdj ∧
    (setEnt n v s).ents = setT {} s.ents n v ∧
    (setEnt n v s).clk = s.clk ∧
    (setEnt n v s).twin = s.twin ∧
    (setEnt n v s).kiln = s.kiln ∧
    (setEnt n v s).pwr = s.pwr ∧
    (setEnt n v s).granted = s.granted ∧
    (setEnt n v s).lock = s.lock ∧
    (setEnt n v s).upd = s.upd := by
  and_intros <;> rfl

@[simp] theorem setXp_fields (a b : Nat) (v : Option Ramp) (s : State) :
    (setXp a b v s).pending = s.pending ∧
    (setXp a b v s).fuses = s.fuses ∧
    (setXp a b v s).cycle = s.cycle ∧
    (setXp a b v s).wire = s.wire ∧
    (setXp a b v s).fresh = s.fresh ∧
    (setXp a b v s).free = s.free ∧
    (setXp a b v s).regs = s.regs ∧
    (setXp a b v s).mem = s.mem ∧
    (setXp a b v s).chans = s.chans ∧
    (setXp a b v s).gen = s.gen ∧
    (setXp a b v s).ops = s.ops ∧
    (setXp a b v s).staged = s.staged ∧
    (setXp a b v s).proofTop = s.proofTop ∧
    (setXp a b v s).proofTotal = s.proofTotal ∧
    (setXp a b v s).proof = s.proof ∧
    (setXp a b v s).oven = s.oven ∧
    (setXp a b v s).commits = s.commits ∧
    (setXp a b v s).trays = s.trays ∧
    (setXp a b v s).fades = s.fades ∧
    (setXp a b v s).params = s.params ∧
    (setXp a b v s).bundles = s.bundles ∧
    (setXp a b v s).cores = s.cores ∧
    (setXp a b v s).dsp = s.dsp ∧
    (setXp a b v s).slots = s.slots ∧
    (setXp a b v s).inBuf = s.inBuf ∧
    (setXp a b v s).stores = s.stores ∧
    (setXp a b v s).fixedAt = s.fixedAt ∧
    (setXp a b v s).bridges = s.bridges ∧
    (setXp a b v s).xps = setT none s.xps (xpKey a b) v ∧
    (setXp a b v s).dyns = s.dyns ∧
    (setXp a b v s).delays = s.delays ∧
    (setXp a b v s).ports = s.ports ∧
    (setXp a b v s).pairs = s.pairs ∧
    (setXp a b v s).streams = s.streams ∧
    (setXp a b v s).aligns = s.aligns ∧
    (setXp a b v s).outs = s.outs ∧
    (setXp a b v s).gls = s.gls ∧
    (setXp a b v s).prots = s.prots ∧
    (setXp a b v s).outBuf = s.outBuf ∧
    (setXp a b v s).pipeAt = s.pipeAt ∧
    (setXp a b v s).lanes = s.lanes ∧
    (setXp a b v s).msgs = s.msgs ∧
    (setXp a b v s).macs = s.macs ∧
    (setXp a b v s).stamps = s.stamps ∧
    (setXp a b v s).stLost = s.stLost ∧
    (setXp a b v s).ptp = s.ptp ∧
    (setXp a b v s).ptpAdj = s.ptpAdj ∧
    (setXp a b v s).ents = s.ents ∧
    (setXp a b v s).clk = s.clk ∧
    (setXp a b v s).twin = s.twin ∧
    (setXp a b v s).kiln = s.kiln ∧
    (setXp a b v s).pwr = s.pwr ∧
    (setXp a b v s).granted = s.granted ∧
    (setXp a b v s).lock = s.lock ∧
    (setXp a b v s).upd = s.upd := by
  and_intros <;> rfl

@[simp] theorem setSlotWord_fields (a w : Nat) (v : Word) (s : State) :
    (setSlotWord a w v s).pending = s.pending ∧
    (setSlotWord a w v s).fuses = s.fuses ∧
    (setSlotWord a w v s).cycle = s.cycle ∧
    (setSlotWord a w v s).wire = s.wire ∧
    (setSlotWord a w v s).fresh = s.fresh ∧
    (setSlotWord a w v s).free = s.free ∧
    (setSlotWord a w v s).regs = s.regs ∧
    (setSlotWord a w v s).mem = s.mem ∧
    (setSlotWord a w v s).chans = s.chans ∧
    (setSlotWord a w v s).gen = s.gen ∧
    (setSlotWord a w v s).ops = s.ops ∧
    (setSlotWord a w v s).staged = s.staged ∧
    (setSlotWord a w v s).proofTop = s.proofTop ∧
    (setSlotWord a w v s).proofTotal = s.proofTotal ∧
    (setSlotWord a w v s).proof = s.proof ∧
    (setSlotWord a w v s).oven = s.oven ∧
    (setSlotWord a w v s).commits = s.commits ∧
    (setSlotWord a w v s).trays = s.trays ∧
    (setSlotWord a w v s).fades = s.fades ∧
    (setSlotWord a w v s).params = s.params ∧
    (setSlotWord a w v s).bundles = s.bundles ∧
    (setSlotWord a w v s).cores = s.cores ∧
    (setSlotWord a w v s).dsp = s.dsp ∧
    (setSlotWord a w v s).slots = setT 0 s.slots (a * 8 + w) v ∧
    (setSlotWord a w v s).inBuf = s.inBuf ∧
    (setSlotWord a w v s).stores = s.stores ∧
    (setSlotWord a w v s).fixedAt = s.fixedAt ∧
    (setSlotWord a w v s).bridges = s.bridges ∧
    (setSlotWord a w v s).xps = s.xps ∧
    (setSlotWord a w v s).dyns = s.dyns ∧
    (setSlotWord a w v s).delays = s.delays ∧
    (setSlotWord a w v s).ports = s.ports ∧
    (setSlotWord a w v s).pairs = s.pairs ∧
    (setSlotWord a w v s).streams = s.streams ∧
    (setSlotWord a w v s).aligns = s.aligns ∧
    (setSlotWord a w v s).outs = s.outs ∧
    (setSlotWord a w v s).gls = s.gls ∧
    (setSlotWord a w v s).prots = s.prots ∧
    (setSlotWord a w v s).outBuf = s.outBuf ∧
    (setSlotWord a w v s).pipeAt = s.pipeAt ∧
    (setSlotWord a w v s).lanes = s.lanes ∧
    (setSlotWord a w v s).msgs = s.msgs ∧
    (setSlotWord a w v s).macs = s.macs ∧
    (setSlotWord a w v s).stamps = s.stamps ∧
    (setSlotWord a w v s).stLost = s.stLost ∧
    (setSlotWord a w v s).ptp = s.ptp ∧
    (setSlotWord a w v s).ptpAdj = s.ptpAdj ∧
    (setSlotWord a w v s).ents = s.ents ∧
    (setSlotWord a w v s).clk = s.clk ∧
    (setSlotWord a w v s).twin = s.twin ∧
    (setSlotWord a w v s).kiln = s.kiln ∧
    (setSlotWord a w v s).pwr = s.pwr ∧
    (setSlotWord a w v s).granted = s.granted ∧
    (setSlotWord a w v s).lock = s.lock ∧
    (setSlotWord a w v s).upd = s.upd := by
  and_intros <;> rfl

@[simp] theorem setDspWord_fields (a b : Nat) (v : Word) (s : State) :
    (setDspWord a b v s).pending = s.pending ∧
    (setDspWord a b v s).fuses = s.fuses ∧
    (setDspWord a b v s).cycle = s.cycle ∧
    (setDspWord a b v s).wire = s.wire ∧
    (setDspWord a b v s).fresh = s.fresh ∧
    (setDspWord a b v s).free = s.free ∧
    (setDspWord a b v s).regs = s.regs ∧
    (setDspWord a b v s).mem = s.mem ∧
    (setDspWord a b v s).chans = s.chans ∧
    (setDspWord a b v s).gen = s.gen ∧
    (setDspWord a b v s).ops = s.ops ∧
    (setDspWord a b v s).staged = s.staged ∧
    (setDspWord a b v s).proofTop = s.proofTop ∧
    (setDspWord a b v s).proofTotal = s.proofTotal ∧
    (setDspWord a b v s).proof = s.proof ∧
    (setDspWord a b v s).oven = s.oven ∧
    (setDspWord a b v s).commits = s.commits ∧
    (setDspWord a b v s).trays = s.trays ∧
    (setDspWord a b v s).fades = s.fades ∧
    (setDspWord a b v s).params = s.params ∧
    (setDspWord a b v s).bundles = s.bundles ∧
    (setDspWord a b v s).cores = s.cores ∧
    (setDspWord a b v s).dsp = setT 0 s.dsp (dspKey a b) v ∧
    (setDspWord a b v s).slots = s.slots ∧
    (setDspWord a b v s).inBuf = s.inBuf ∧
    (setDspWord a b v s).stores = s.stores ∧
    (setDspWord a b v s).fixedAt = s.fixedAt ∧
    (setDspWord a b v s).bridges = s.bridges ∧
    (setDspWord a b v s).xps = s.xps ∧
    (setDspWord a b v s).dyns = s.dyns ∧
    (setDspWord a b v s).delays = s.delays ∧
    (setDspWord a b v s).ports = s.ports ∧
    (setDspWord a b v s).pairs = s.pairs ∧
    (setDspWord a b v s).streams = s.streams ∧
    (setDspWord a b v s).aligns = s.aligns ∧
    (setDspWord a b v s).outs = s.outs ∧
    (setDspWord a b v s).gls = s.gls ∧
    (setDspWord a b v s).prots = s.prots ∧
    (setDspWord a b v s).outBuf = s.outBuf ∧
    (setDspWord a b v s).pipeAt = s.pipeAt ∧
    (setDspWord a b v s).lanes = s.lanes ∧
    (setDspWord a b v s).msgs = s.msgs ∧
    (setDspWord a b v s).macs = s.macs ∧
    (setDspWord a b v s).stamps = s.stamps ∧
    (setDspWord a b v s).stLost = s.stLost ∧
    (setDspWord a b v s).ptp = s.ptp ∧
    (setDspWord a b v s).ptpAdj = s.ptpAdj ∧
    (setDspWord a b v s).ents = s.ents ∧
    (setDspWord a b v s).clk = s.clk ∧
    (setDspWord a b v s).twin = s.twin ∧
    (setDspWord a b v s).kiln = s.kiln ∧
    (setDspWord a b v s).pwr = s.pwr ∧
    (setDspWord a b v s).granted = s.granted ∧
    (setDspWord a b v s).lock = s.lock ∧
    (setDspWord a b v s).upd = s.upd := by
  and_intros <;> rfl

end Sys2Proof.Machine
end

