-- ==== Sys2Proof/Laws/Ops.lean ====
section
/-! SUPPORT. What each shared operation of Machine/Ops.lean does: one lemma that says it once. -/
namespace Sys2Proof.Machine

open Sys2Proof

/-! ## Memory -/

theorem cellsWf_foldl_cset (d : Nat → Byte) (l m : List Host.Cell) (h : cellsWf d m = true) :
    cellsWf d (l.foldl (fun n e => cset d n e.1 e.2) m) = true := by
  induction l generalizing m with
  | nil => exact h
  | cons a t ih => exact ih _ (cellsWf_cset _ _ h)

/-- What a command leaves in memory stands in the canonical form. -/
theorem cellsWf_canonMem (m : List Host.Cell) : cellsWf memDefault (canonMem m) = true := by
  unfold canonMem
  split
  · assumption
  · exact cellsWf_foldl_cset _ _ _ rfl

/-- On memory in the canonical form it changes nothing. -/
theorem canonMem_of_wf {m : List Host.Cell} (h : cellsWf memDefault m = true) : canonMem m = m := if_pos h

theorem memForm_setMemByte {s : State} (a : Nat) (b : Byte) (h : MemForm s) : MemForm (setMemByte a b s) := cellsWf_cset a b h
theorem memForm_setMemBytes {s : State} (a : Nat) (bs : List Byte) (h : MemForm s) : MemForm (setMemBytes a bs s) :=
  cellsWf_csetMany bs a h
theorem memForm_setMemWord {s : State} (a n : Nat) (h : MemForm s) : MemForm (setMemWord a n s) := cellsWf_csetMany _ a h
theorem memForm_clearMem {s : State} (a n : Nat) (h : MemForm s) : MemForm (clearMem a n s) := cellsWf_filter _ h

/-- A stored byte is read back. -/
@[simp] theorem memByte_setMemByte_self (a : Nat) (b : Byte) (s : State) : memByte (setMemByte a b s) a = b := cget_cset_self _ _ _ _

/-- A store leaves every other byte. -/
theorem memByte_setMemByte_ne {a k : Nat} (b : Byte) (s : State) (h : k ≠ a) : memByte (setMemByte a b s) k = memByte s k :=
  cget_cset_ne _ _ _ h

/-- A store of several bytes leaves every byte outside them. -/
theorem memByte_setMemBytes_out {a k : Nat} (bs : List Byte) (s : State) (h : k < a ∨ a + bs.length ≤ k) :
    memByte (setMemBytes a bs s) k = memByte s k := cget_csetMany_out _ _ _ h

/-! ## Running a command -/

theorem run_eq (c : Nat) (op : State → State) (s : State) : run c op s = .next (after s (op (begin_ c s))) := rfl
theorem runMem_eq (c : Nat) (op : State → State) (s : State) : runMem c op s = .next (afterMem s (op (begin_ c s))) := rfl

theorem commandsLive_begin (c : Nat) (s : State) : commandsLive (begin_ c s) = commandsLive s := rfl
theorem getF_begin (c : Nat) (s : State) (f : Fld) : getF (begin_ c s) f = getF s f := rfl
theorem chan_begin (c : Nat) (s : State) (n : Nat) : chan (begin_ c s) n = chan s n := rfl

/-- A live command none of whose checks fails executes. -/
theorem command_live {s : State} (h : Live s) (r : Req) (op : Nat) (gs : List Guard) (k : State → State)
    (hg : gs.find? (fun g => g.bad) = none) : command r op gs k s = k s := by
  obtain ⟨h1, h2⟩ := h
  simp [command, h1, checked, notNowIf, h2, hg]

/-- The first check that fails sets the reply. -/
theorem command_bad {s : State} (h : Live s) (r : Req) (op : Nat) (gs : List Guard) (k : State → State) (g : Guard)
    (hg : gs.find? (fun g => g.bad) = some g) : command r op gs k s = reply r op g.status g.detail [] s := by
  obtain ⟨h1, h2⟩ := h
  simp [command, h1, checked, notNowIf, h2, hg]

/-- A command that the engine does not execute changes nothing. -/
theorem command_dead {s : State} (h : commandsLive s = false) (r : Req) (op : Nat) (gs : List Guard) (k : State → State) :
    command r op gs k s = s := by
  simp [command, h]

/-- While the engine runs, an event has its effect. -/
theorem ifRunning_run {s : State} (h : Running s) (f : State → State) : ifRunning f s = f s := by
  have h' : s.pwr.phase = .run := h
  simp [ifRunning, h']

/-! ## Registers -/

/-- The words that registers show do not depend on the cycle. -/
theorem showField_begin (c : Nat) (s : State) (a : Nat) (f : FieldRow) : showField (begin_ c s) a f = showField s a f := by
  unfold showField; rfl
theorem wordOf_begin (c : Nat) (s : State) (a : Nat) (fs : List FieldRow) : wordOf (begin_ c s) a fs = wordOf s a fs := by
  unfold wordOf; simp only [showField_begin]
theorem peekReg_begin (c : Nat) (s : State) (a : Nat) : peekReg (begin_ c s) a = peekReg s a := by
  unfold peekReg; simp only [wordOf_begin]; rfl

/-! ## What leaves the engine -/

theorem sameButReply_refl (s : State) : SameButReply s s := ⟨rfl, fun _ _ => rfl⟩

theorem sameButReply_trans {s t u : State} (h1 : SameButReply s t) (h2 : SameButReply t u) : SameButReply s u :=
  ⟨by rw [h2.1, h1.1], fun f hf => (h2.2 f hf).trans (h1.2 f hf)⟩

theorem sameButReply_setChan (n : Nat) (v : Chan) (s : State) : SameButReply s (setChan n v s) := ⟨rfl, fun _ _ => rfl⟩

theorem sameButReply_putTx (n : Nat) (i : TxItem) (s : State) : SameButReply s (putTx n i s) := by
  unfold putTx
  dsimp only
  split <;> exact ⟨rfl, fun f hf => getF_setF_ne _ _ _ _ hf⟩

/-- A frame handed to a MAC changes its queue, the wires and LPI, and nothing else. -/
theorem sameButReply_txSend (n : Nat) (i : TxItem) (s : State) : SameButReply s (txSend n i s) := by
  unfold txSend
  split
  · exact ⟨rfl, fun _ _ => rfl⟩
  · split
    · exact sameButReply_putTx n i s
    · exact sameButReply_refl s

theorem sameButReply_pushOut (ch q : Nat) (it : OutItem) (s : State) : SameButReply s (pushOut ch q it s) := by
  unfold pushOut
  split
  · exact sameButReply_txSend _ _ _
  · exact sameButReply_setChan _ _ _

theorem sameButReply_storeReplay (r : Req) (b : List Byte) (s : State) : SameButReply s (storeReplay r b s) := by
  unfold storeReplay
  split
  · exact sameButReply_setChan _ _ _
  · exact sameButReply_refl s

/-- A reply changes the channel, the wires and the MAC that sends it, and nothing else. -/
theorem sameButReply_reply (r : Req) (op st d : Nat) (res : List Byte) (s : State) : SameButReply s (reply r op st d res s) :=
  sameButReply_trans (sameButReply_pushOut _ _ _ _) (sameButReply_storeReplay _ _ _)

theorem chans_txSend (n : Nat) (i : TxItem) (s : State) : (txSend n i s).chans = s.chans := by
  unfold txSend
  split
  · rfl
  · split
    · unfold putTx
      dsimp only
      split <;> rfl
    · rfl

theorem chan_pushOut0 (q : Nat) (it : OutItem) (s : State) :
    chan (pushOut 0 q it s) 0 = { chan s 0 with out := (chan s 0).out ++ [it] } := by
  simp [pushOut]

theorem chan_pushOut3 (q : Nat) (it : OutItem) (s : State) :
    chan (pushOut 3 q it s) 3 = { chan s 3 with out := (chan s 3).out ++ [{ it with bytes := zeros 4 ++ it.bytes }] } := by
  simp [pushOut]

/-- Where a reply goes (R41, R55). -/
theorem reply_sent (r : Req) (op st d : Nat) (res : List Byte) (s : State) : Sent r op st d res s (reply r op st d res s) := by
  constructor
  · intro h0
    have hn : ¬ (r.ch = 1 ∨ r.ch = 2) := by rw [h0]; decide
    have h0' : (r.ch : Nat) = 0 := by simp [h0]
    rw [reply, storeReplay, if_neg hn, h0', chan_pushOut0]
    simp [replyItem, h0']
  refine ⟨?_, ?_⟩
  · intro h
    rw [reply, storeReplay, if_pos h, chan_setChan_self, List.getLast?_drop]
    simp [replyItem] <;> omega
  · intro h3
    have hn : ¬ (r.ch = 1 ∨ r.ch = 2) := by rw [h3]; decide
    have h3' : (r.ch : Nat) = 3 := by rw [h3]; rfl
    rw [reply, storeReplay, if_neg hn, h3', chan_pushOut3]
    simp [replyItem, h3']

theorem ops_reply (r : Req) (op st d : Nat) (res : List Byte) (s : State) : (reply r op st d res s).ops = s.ops := by
  rw [(sameButReply_reply r op st d res s).1]

theorem handles_reply (r : Req) (op st d : Nat) (res : List Byte) (s : State) (n : Nat) :
    (chan (reply r op st d res s) n).handles = (chan s n).handles := by
  have hc : ∀ (ch q : Nat) (it : OutItem) (u : State), (chan (pushOut ch q it u) n).handles = (chan u n).handles := by
    intro ch q it u
    unfold pushOut
    split
    · simp only [chan, sendUdp, chans_txSend]
    · by_cases hn : n = ch
      · subst hn; simp
      · rw [chan_setChan_ne _ _ hn]
  have hs : ∀ (b : List Byte) (u : State), (chan (storeReplay r b u) n).handles = (chan u n).handles := by
    intro b u
    unfold storeReplay
    split
    · by_cases hn : n = r.ch
      · subst hn; simp
      · rw [chan_setChan_ne _ _ hn]
    · rfl
  simp only [reply, hs, hc]

/-- A handle issued and its operation started (R50 to R52). -/
theorem accept_accepted (r : Req) (op : Nat) (k : OpKind) (s : State) : Accepted r op k s (accept r op k s) := by
  refine ⟨?_, ?_, ?_⟩
  · have h := reply_sent r op stACCEPTED 0 (beWord (nextHandle s r.ch))
      { setChan r.ch { chan s r.ch with
          next := if issueCount s r.ch = 0x3FFFFFFF then 1 else issueCount s r.ch + 1,
          handles := (chan s r.ch).handles ++ [{ h := nextHandle s r.ch, opcode := op, tag := r.tag, gen := s.gen, stopped := false, done := false }] } s
        with ops := s.ops ++ [{ ch := r.ch, h := nextHandle s r.ch, kind := k }] }
    simp only [Sent] at h ⊢
    rw [show (chan { setChan (↑r.ch) { chan s r.ch with
          next := if issueCount s r.ch = 0x3FFFFFFF then 1 else issueCount s r.ch + 1,
          handles := (chan s r.ch).handles ++ [{ h := nextHandle s r.ch, opcode := op, tag := r.tag, gen := s.gen, stopped := false, done := false }] } s
        with ops := s.ops ++ [{ ch := r.ch, h := nextHandle s r.ch, kind := k }] } r.ch) = { chan s r.ch with
          next := if issueCount s r.ch = 0x3FFFFFFF then 1 else issueCount s r.ch + 1,
          handles := (chan s r.ch).handles ++ [{ h := nextHandle s r.ch, opcode := op, tag := r.tag, gen := s.gen, stopped := false, done := false }] }
      from chan_setChan_self _ _ _] at h
    have hc : ∀ (n : Nat) v, (r.ch : Nat) = n →
        chan { setChan (↑r.ch) v s with ops := s.ops ++ [{ ch := r.ch, h := nextHandle s r.ch, kind := k }] } n = v := by
      intro n v hn; rw [hn]; exact chan_setChan_self n v s
    refine ⟨fun h0 => (h.1 h0).trans ?_, h.2.1, fun h3 => (h.2.2 h3).trans ?_⟩
    · have h0' : (r.ch : Nat) = 0 := by simp [h0]
      rw [hc 0 _ h0', h0']
    · have h3' : (r.ch : Nat) = 3 := by rw [h3]; rfl
      rw [hc 3 _ h3', h3']
  · rw [accept, handles_reply]
    exact congrArg Chan.handles (chan_setChan_self _ _ s)
  · rw [accept, ops_reply]

/-- Staged writes wait for the boundary of R18. -/
theorem stage_staging (r : Req) (op : Nat) (p : List Byte) (ws : List StagedWrite) (s : State) :
    Staging r ws s (stage r op p ws s) := by
  unfold Staging stage
  dsimp only
  split <;> rfl

/-! ## Completions -/

theorem ops_pushOut (ch q : Nat) (it : OutItem) (s : State) : (pushOut ch q it s).ops = s.ops := by
  rw [(sameButReply_pushOut ch q it s).1]

theorem ops_deliver (ch : Nat) (c : Compl) (s : State) : (deliver ch c s).ops = s.ops := by
  unfold deliver
  dsimp only
  split
  · rfl
  · rw [ops_pushOut]; rfl

theorem ops_foldState {α : Type} (f : α → State → State) (hf : ∀ a s, (f a s).ops = s.ops) (l : List α) (s : State) :
    (foldState f l s).ops = s.ops := by
  unfold foldState
  induction l generalizing s with
  | nil => rfl
  | cons a t ih => rw [List.foldl_cons, ih, hf]

theorem ops_release (ch : Nat) (s : State) : (release ch s).ops = s.ops := by
  unfold release
  split
  · rfl
  · exact ops_foldState _ (ops_deliver ch) _ _

/-- A finished operation no longer runs. -/
theorem ops_finish (ch : Nat) (h : Word) (st : Nat) (res : List Byte) (s : State) :
    (finish ch h st res s).ops = s.ops.filter (fun o => !(o.h == h)) := by
  unfold finish
  dsimp only
  split
  · rw [ops_release]
  · rfl

/-- Once all have finished, none of the kind runs. -/
theorem finishAll_stopped (p : OpKind → Bool) (st : Nat) (res : List Byte) (s : State) : Stopped p (finishAll p st res s) := by
  have key : ∀ (l : List Op) (u : State), (∀ o ∈ u.ops, p o.kind = true → o ∈ l) →
      Stopped p (foldState (fun o => finish o.ch o.h st res) l u) := by
    intro l
    induction l with
    | nil =>
      intro u hu
      simp only [Stopped, foldState, List.foldl_nil, List.all_eq_true]
      intro o ho
      cases hp : p o.kind with
      | false => rfl
      | true => exact absurd (hu o ho hp) (by simp)
    | cons a t ih =>
      intro u hu
      simp only [foldState, List.foldl_cons]
      apply ih
      intro o ho hp
      rw [ops_finish] at ho
      obtain ⟨h1, h2⟩ := List.mem_filter.1 ho
      rcases List.mem_cons.1 (hu o h1 hp) with rfl | h
      · simp at h2
      · exact h
  exact key _ s (fun o ho hp => List.mem_filter.2 ⟨ho, hp⟩)

theorem sameButFinish_refl (s : State) : SameButFinish s s := ⟨rfl, fun _ _ => rfl⟩
theorem sameButFinish_trans {s t u : State} (h1 : SameButFinish s t) (h2 : SameButFinish t u) : SameButFinish s u :=
  ⟨by rw [h2.1, h1.1], fun f hf => (h2.2 f hf).trans (h1.2 f hf)⟩
theorem sameButFinish_of_reply {s t : State} (h : SameButReply s t) : SameButFinish s t := ⟨by rw [h.1], h.2⟩
theorem sameButFinish_setChan (n : Nat) (v : Chan) (s : State) : SameButFinish s (setChan n v s) := ⟨rfl, fun _ _ => rfl⟩
theorem sameButFinish_fold {α : Type} (f : α → State → State) (hf : ∀ a s, SameButFinish s (f a s)) (l : List α) (s : State) : SameButFinish s (foldState f l s) := by
  unfold foldState
  induction l generalizing s with
  | nil => exact sameButFinish_refl s
  | cons a t ih => exact sameButFinish_trans (hf a s) (ih _)
theorem sameButFinish_deliver (ch : Nat) (c : Compl) (s : State) : SameButFinish s (deliver ch c s) := by
  unfold deliver
  dsimp only
  split
  · exact sameButFinish_refl s
  · exact sameButFinish_trans (sameButFinish_setChan _ _ _) (sameButFinish_of_reply (sameButReply_pushOut _ _ _ _))
theorem sameButFinish_release (ch : Nat) (s : State) : SameButFinish s (release ch s) := by
  unfold release
  split
  · exact sameButFinish_refl s
  · exact sameButFinish_fold _ (fun a u => sameButFinish_deliver ch a u) _ _
/-- A finished operation changes its channel, the operations, the wires and the MAC that sends, and nothing else. -/
theorem sameButFinish_finish (ch : Nat) (h : Word) (st : Nat) (res : List Byte) (s : State) : SameButFinish s (finish ch h st res s) := by
  unfold finish
  dsimp only
  split
  · exact sameButFinish_trans ⟨rfl, fun _ _ => rfl⟩ (sameButFinish_release _ _)
  · exact ⟨rfl, fun _ _ => rfl⟩
theorem sameButFinish_finishAll (p : OpKind → Bool) (st : Nat) (res : List Byte) (s : State) : SameButFinish s (finishAll p st res s) :=
  sameButFinish_fold (fun (o : Op) => finish o.ch o.h st res) (fun o u => sameButFinish_finish o.ch o.h st res u) _ s
theorem getF_finishAll (p : OpKind → Bool) (st : Nat) (res : List Byte) (s : State) (f : Fld) (h : f.key ≠ fETH_STAT_LPI.key) : getF (finishAll p st res s) f = getF s f :=
  (sameButFinish_finishAll p st res s).2 f h
theorem getF_finish (ch : Nat) (h : Word) (st : Nat) (res : List Byte) (s : State) (f : Fld) (hf : f.key ≠ fETH_STAT_LPI.key) : getF (finish ch h st res s) f = getF s f :=
  (sameButFinish_finish ch h st res s).2 f hf

/-! ## Shards -/

/-- With room in its source's queue, a shard enters it (R337). -/
theorem send_queued {src : Nat} {s : State} (h : Room src s) (inst cls kind ctx : Nat) :
    Queued src inst cls kind ctx (send src inst cls kind ctx s) := by
  have h' : ¬ 16 ≤ (s.kiln.waiting.filter (fun y => y.src == src)).length := Nat.not_le.2 h
  simp [Queued, send, enqueue, h']

/-- A full queue loses it, and KILN_CNT.DROP counts. -/
theorem send_dropped {src : Nat} {s : State} (h : ¬ Room src s) (inst cls kind ctx : Nat) :
    send src inst cls kind ctx s = bump fKILN_CNT_DROP s := by
  have h' : 16 ≤ (s.kiln.waiting.filter (fun y => y.src == src)).length := Nat.not_lt.1 h
  simp [send, enqueue, h']

end Sys2Proof.Machine
end

