-- ==== Sys2Proof/Tests/Slice0.lean ====
section
/-! SUPPORT. Tests: ill-formed commands, small steps with results from the manual, and for every statement with hypotheses a state
and operands that meet them. -/
namespace Sys2Proof.Tests

set_option Elab.async false

open Sys2Proof Sys2Proof.Machine

/-! ## Small states -/

/-- A request on channel 0 at cycle 0. -/
def rq : Req := { c := 0, ch := 0, tag := 1, pcrc := false, key := 0, target := none }

/-- The same on channel 1. -/
def rq1 : Req := { rq with ch := 1 }

/-- The same, forwarded over channel 3 for batch 9. -/
def rq3 : Req := { rq with ch := 3, target := some 9 }

/-- Fields written into a state. -/
def putF (fs : List (Fld × Nat)) (s : State) : State := fs.foldl (fun t e => setF e.1 e.2 t) s

/-- Out of reset. -/
def up : State := { State.reset with pwr := { phase := .run } }

/-- Out of reset with its supervisor running. -/
def on : State := { State.reset with pwr := { phase := .run, sup := true } }

def fadeNo : Ramp := { start := 0, target := 0, len := 0, pos := 0 }

def dynInit : DynSet :=
  { thresh := 0, ratio := 0x3F800000, knee := 0, attack := 0, release := 0, makeup := 0, det := false, key := false, linked := false,
    bypass := false, ramp := 0 }
def dynDef0 (i : Nat) : DynDef :=
  { inst := i, rate := 1, look := 0, input := 1, key := none, out := 2, group := none, cycle := 10, release := 0,
    outGroup := 0, init := dynInit }

/-- A tray with one of most things. -/
def tray0 : TrayDef :=
  { num := 0, drives := true, hash := 0, coreMask := 1, pageCount := 0, pages := [],
    cores := [{ core := 0, deadline := 1000, image := [], dmInit := [], bgEntry := none, grants := [] }],
    slots := [], quota := 8, windowEnd := 100, sources := [{ index := 1, slot := 1 }], dests := [{ index := 2, slot := 2, ramp := 8 }],
    xps := [], dyns := [dynDef0 0, dynDef0 0x800],
    delays := [{ line := 1, granule := 0, granules := 1, packing := 3, input := 1, out := 2, rate := 1, cycle := 10, init := 0 }],
    bridges := [], blocks := [],
    params := [{ id := 1, kind := 0, reset := false, ramp := 8, init := 0, min := 0, max := 0x3F800000, space := 0, loc := 0 }],
    bundles := [{ id := 1, sections := 1, init := [0x3F800000, 0, 0, 0, 0], ramp := 8, reset := false, space := 0, coef := 0x100,
                  newCoef := 0x105, state := 0x10A, newState := 0x10E, gain := 0x112 }],
    mirror := [], mirrorBytes := 0, fades := [] }

def port0 (n : Nat) (master asrc : Bool) : PortDef :=
  { port := n, master := master, asrc := asrc, rate := 3, framing := 0, lineSlots := 2, dataBit := 1, outGroup := 0, width := 24, raw := false, release := 0, chans := [],
    claimPair := false, claimSlot := none, claimOut := false }

/-- A small bake. -/
def bake0 : Bake :=
  { Bake.empty with
    id := 7, trays := [tray0], ports := [port0 0 false false, port0 1 false true, port0 2 true false],
    report := [{ src := 1, dst := 2, passes := 1, p := 0, whole := 8, frac := 0, line := 1, flags := 0, tray := 0 }],
    aligns := [{ bundle := 0, offset := 0, ref := 0, members := [0x40] }],
    aes := [{ owner := 0x50, mac := 0, rate96 := true, l24 := true, packetUs := 125, asrc := false, release := 0, outGroup := 0, slots := [] },
            { owner := 0x10, mac := 0, rate96 := true, l24 := true, packetUs := 125, asrc := false, release := 0, outGroup := 0, slots := [] }] }

/-- A running engine with the small bake in its oven. -/
def play : State :=
  { on with
    oven := bake0, params := [(1, some { ramp := fadeNo })], bundles := [(1, some { cur := [], next := some [1], len := 8, pos := 0, held := none })],
    xps := [(xpKey 1 2, some fadeNo)], delays := [(1, some { cur := 0, next := some 1, len := 8, pos := 0, held := none, wr := 0 })] }

/-! ## States for the witnesses -/

/-- The retry key of a SYS_NOP packet (R41). -/
def keyed (r : Req) : Req := { r with key := BitVec.ofNat 16 (retryKey (packetOf r (.sysNop r))) }

/-- Channel 1 on port 0x1234 of MAC 0. -/
def udp : State := putF [(fHOST_UDP1_EN, 1), (fHOST_UDP1_MAC, 0), (fHOST_UDP1_PORT, 0x1234)] on

/-- 64 open handles on channel 0. -/
def full : State := setChan 0 { handles := List.replicate 64 ⟨1, 0, 0, 0, false, false⟩ } on

/-- A completion in the outbound queue and its open handle. -/
def compl : State := setChan 0 { out := [⟨false, zeros 52, some 1⟩], handles := [⟨1, 0, 0, 0, false, false⟩] } on

/-- An operation that runs under an open handle. -/
def doing (h : Word) (k : OpKind) : State :=
  { setChan 0 { handles := [⟨h, 0, 0, 0, false, false⟩] } on with ops := [⟨0, h, k⟩] }

/-- A valid proof of the small bake. -/
def baked : State := putF [(fBAKE_STAT_PROOF, proofVALID)] { on with proof := bake0 }

/-- A commit in its pre-fade and a tray that fades in. -/
def fading : State := setTray 0 { fadeIn := 8 } { on with commits := [⟨0, 1, 1, 3, some 8, []⟩] }

/-- Core 0 of the small bake has scheduled work. -/
def busyCore : State := setCore 0 { ctx := .sched } play

/-- Ports 0 and 1 of the small bake in a state, at a rate. -/
def ports (st rate : Nat) : State :=
  putF [(fPORT_STS_STATE 0, st), (fPORT_STS_STATE 1, st), (fPORT_STS_RATE 0, rate), (fPORT_STS_RATE 1, rate)] play

/-- A gate of port 0 that searches for a zero crossing. -/
def gated : State := setPort 0 { gates := [(1, { goal := some (0, 16) })] } play

/-- Output 0 in a state. -/
def stage0 (st : Nat) : State := putF [(fSTAGE_STS_STATE 0, st)] on

/-- Trunk lane 0 in a state. -/
def lane0 (st : Nat) : State := putF [(fTL_STS_STATE 0, st)] on

/-- A trunk header in MODE LIVE and a twin header of lane 0, with their CRCs. -/
def trunkHead : List Byte := let h : List Byte := [0, 1, 0, 0, 0, 5, 3, 0, 0, 0, 0, 0]; h ++ be2 (crc16 h)
def twinHead : List Byte := let h : List Byte := zeros 10; h ++ be2 (crc16 h)

/-- MAC 0 with its link up. -/
def eth : State := putF [(fETH_STAT_LINK, 1)] on

/-- The clock locked to entry 0, a word clock. -/
def aligned : State := putF [(fCLK_STAT_SELV, 1), (fCLK_STAT_SEL, 0), (fCLK_STAT_STATE, 2), (fCLK_CFG_EN 0, 1)] on

/-- A standby that may join. -/
def stby : State :=
  putF [(fTWIN_STAT_ROLE, 2), (fTWIN_STAT_TWUP, 1), (fCLK_STAT_STATE, 2), (fCLK_STAT_SELV, 1), (fCLK_STAT_SEL, 0),
    (fCLK_CFG_SOURCE 0, 12), (fBAKE_STAT_PROOF, proofVALID)] { on with proof := bake0, twin := { peerOven := some 7 } }

/-- An active whose standby is joined. -/
def peer (sync : Nat) : State := putF [(fTWIN_STAT_ROLE, 1)] { on with twin := { peerSync := sync } }

/-- A standby whose mirror runs. -/
def mirrored : State := putF [(fTWIN_STAT_ROLE, 2), (fTWIN_STAT_SYNC, 2)] on

/-- A referee's word that grants side 0 claim 1. -/
def grantWord : List Byte := let w : List Byte := [0, 1, 6, 0, 0, 0, 0, 1, 0, 0]; w ++ be4 (crc32 w)

/-- Sixteen shards of source 2 wait. -/
def waiting16 : State := { on with kiln := { waiting := List.replicate 16 { src := 2, inst := 0, cls := 4, kind := 1, ctx := 0 } } }

/-- A log with one entry. -/
def logged : State := { on with kiln := { log := [⟨{ src := 2, inst := 0, cls := 4, kind := 1, ctx := 0 }, 0, 0, 0⟩] } }

/-- The small bake in Standby, its clocks gated. -/
def resting : State := putF [(fPWR_STAT_STANDBY, 1)] { play with pwr := { play.pwr with standby := .gated } }

/-- An update session on the data area. -/
def session : State := { on with upd := { session := some ⟨1, 0, true, 0x70800000, 64, [], []⟩ } }


/-- A probe that has measured 1 V and 1 A at one sample. -/
def loud : LockIn := { vc := 0x3F800000, ic := 0x3F800000, n := 1 }

/-! ## Ill-formed commands -/

/-- Commands that a check of `Instr.wf` refuses, part 1. -/
theorem test_ill_formed_1 :
    ([.readStatus 102400,
      .qspiBadInstruction 0 0x05,
      .qspiBadInstruction 0 0x32,
      .qspiBadInstruction 0 0x6B,
      .sysNop { rq with c := 102400 },
      .sysNop { rq with target := some 1 },
      .sysComplAck rq [],
      .sysComplAck rq (List.replicate 17 0),
      .sysResultRead rq 0 4294967296 0,
      .sysResultRead rq 0 0 65536,
      .regRead rq 0 65536,
      .regWrite rq 0 [],
      .regWrite rq 0 (List.replicate 257 0),
      .diagEcho rq (List.replicate 4093 0),
      .diagCounters rq 256,
      .diagScrub rq 256,
      .diagScrubDone 0 256 0 0 0,
      .bakeBegin rq 4294967296,
      .bakeWrite rq 4294967296 0 [0],
      .bakeWrite rq 0 0 [],
      .bakeWrite rq 0 0 (List.replicate 4001 0),
      .bakeLoadFlash rq 4294967296,
      .bakeReport rq 65536 0,
      .bakeReport rq 0 65536,
      .paramWrite rq []] : List Instr).all (fun i => !i.wf) = true := by
  decide +kernel

/-- Commands that a check of `Instr.wf` refuses, part 2. -/
theorem test_ill_formed_2 :
    ([.paramWrite rq (List.replicate 256 ⟨0, 0, 0⟩),
      .paramWrite rq [⟨65536, 0, 0⟩],
      .paramWrite rq [⟨0, 65536, 0⟩],
      .paramRead rq 65536,
      .bundleWrite rq 65536 1 0 [],
      .bundleWrite rq 0 0 0 [],
      .bundleWrite rq 0 9 0 [],
      .bundleWrite rq 0 1 65536 [],
      .bundleCrossfadeEnd 0 65536,
      .xpSet rq [],
      .xpSet rq (List.replicate 256 ⟨0, 0, 0, 0⟩),
      .xpSet rq [⟨65536, 0, 0, 0⟩],
      .xpSet rq [⟨0, 65536, 0, 0⟩],
      .xpSet rq [⟨0, 0, 0, 65536⟩],
      .xpRead rq 65536 0,
      .xpRead rq 0 65536,
      .routeSet rq 65536 0 [],
      .routeSet rq 0 65536 [],
      .routeSet rq 0 0 (List.replicate 256 ⟨0, 0⟩),
      .routeSet rq 0 0 [⟨65536, 0⟩],
      .routeLatency rq 65536 0,
      .routeLatency rq 0 65536,
      .xpRampEnd 0 65536 0,
      .xpRampEnd 0 0 65536,
      .delaySet rq []] : List Instr).all (fun i => !i.wf) = true := by
  decide +kernel

/-- Commands that a check of `Instr.wf` refuses, part 3. -/
theorem test_ill_formed_3 :
    ([.delaySet rq (List.replicate 256 ⟨0, 0, 0⟩),
      .delaySet rq [⟨65536, 0, 0⟩],
      .delaySet rq [⟨0, 65536, 0⟩],
      .delaySet rq [⟨0, 0, 4294967296⟩],
      .delayRead rq 65536,
      .delayCrossfadeEnd 0 65536,
      .dynSet rq 65536 0 ⟨0, 0, 0, 0, 0, 0, 0, 0⟩,
      .dynSet rq 0 65536 ⟨0, 0, 0, 0, 0, 0, 0, 0⟩,
      .dynSet rq 0 0 ⟨0, 0, 0, 0, 0, 0, 256, 0⟩,
      .dynSet rq 0 0 ⟨0, 0, 0, 0, 0, 0, 0, 65536⟩,
      .dynRead rq 65536,
      .portStart rq 256 0,
      .portStart rq 0 65536,
      .portStop rq 256 0,
      .portStop rq 0 65536,
      .portMute rq 256 0 0,
      .portMute rq 0 65536 0,
      .portUnmute rq 256 0 0,
      .portUnmute rq 0 65536 0,
      .portStatus rq 256 0,
      .portStatus rq 0 256,
      .asrcRead rq 256 0,
      .asrcRead rq 0 256,
      .bundleStatus rq 256,
      .saiFrame 0 0 ⟨true, List.replicate 33 0, 0, 0⟩] : List Instr).all (fun i => !i.wf) = true := by
  decide +kernel

/-- Commands that a check of `Instr.wf` refuses, part 4. -/
theorem test_ill_formed_4 :
    ([.saiFrame 0 0 ⟨true, [], 8, 0⟩,
      .rateClassified 0 0 7,
      .asrcLock 0 256 0 0,
      .asrcLock 0 0 0 25600,
      .portUnderrun 0 256,
      .stageTrain rq 65536,
      .stageRunRun rq 65536,
      .stageRunArm rq 65536,
      .stageRunOff rq 65536,
      .stageRunClearLatch rq 65536,
      .stageSet rq 256 0 (List.replicate 4 0),
      .stageSet rq 0 65536 (List.replicate 4 0),
      .stageSet rq 0 0 [],
      .stageSet rq 0 0 (List.replicate 5 0),
      .stageStatus rq 256 0,
      .stageStatus rq 0 256,
      .stageSense rq 256,
      .returnFrame 0 0 ⟨true, List.replicate 61 0, 0⟩,
      .protSet rq 256 0 (List.replicate 7 0),
      .protSet rq 0 4294967296 (List.replicate 7 0),
      .protSet rq 0 0 [],
      .protSet rq 0 0 (List.replicate 8 0),
      .protStatus rq 256 0,
      .protStatus rq 0 256,
      .protSweep rq 256] : List Instr).all (fun i => !i.wf) = true := by
  decide +kernel

/-- Commands that a check of `Instr.wf` refuses, part 5. -/
theorem test_ill_formed_5 :
    ([.protCal rq 256 0,
      .protCal rq 0 256,
      .trunkFrame 0 0 ⟨true, true, 0, List.replicate 15 0, true, [], [], 0⟩,
      .ctleSearchEnd 0 0 [],
      .ctleSearchEnd 0 0 (List.replicate 16 0),
      .trunkEnable rq 256,
      .trunkDisable rq 256,
      .trunkRestart rq 256,
      .trunkSet rq 256 0 0,
      .trunkSet rq 0 65536 0,
      .trunkStatus rq 256 0,
      .trunkStatus rq 0 256,
      .trunkRange rq 256,
      .trunkMsgSend rq 256 [0],
      .trunkMsgSend rq 0 [],
      .trunkMsgSend rq 0 (List.replicate 4001 0),
      .trunkClaimClr rq 256,
      .pauseReceived 0 0 65536,
      .aesPacketSend 0 256 0,
      .aesPacketLate 0 256,
      .aesStreamSet rq 256 ⟨0, 0, 0, 0, 0, 0, 0⟩,
      .aesStreamSet rq 0 ⟨256, 0, 0, 0, 0, 0, 0⟩,
      .aesStreamSet rq 0 ⟨0, 256, 0, 0, 0, 0, 0⟩,
      .aesStreamSet rq 0 ⟨0, 0, 0, 65536, 0, 0, 0⟩] : List Instr).all (fun i => !i.wf) = true := by
  decide +kernel

/-- Commands that a check of `Instr.wf` refuses, part 6. -/
theorem test_ill_formed_6 :
    ([.aesStreamSet rq 0 ⟨0, 0, 0, 0, 65536, 0, 0⟩,
      .aesStreamStatus rq 256,
      .ethStatus rq 256 0,
      .ethStatus rq 0 256,
      .clockUpdate 0 [⟨16, true, 0, 0, 0⟩],
      .refLos 0 16,
      .clkTableSet rq 256 0 (List.replicate 4 0),
      .clkTableSet rq 0 65536 (List.replicate 4 0),
      .clkTableSet rq 0 0 [],
      .clkTableSet rq 0 0 (List.replicate 5 0),
      .clkSelect rq 256 0 0 0 0,
      .clkSelect rq 0 256 0 0 0,
      .clkSelect rq 0 0 256 0 0,
      .clkSelect rq 0 0 0 65536 0,
      .clkSelect rq 0 0 0 0 65536,
      .clkStatus rq 256,
      .twinFrame 0 0 ⟨true, List.replicate 13 0, [], [], 0⟩,
      .mirrorApply 0 ⟨256, 0, [0]⟩,
      .mirrorApply 0 ⟨0, 0, List.replicate 15 0⟩,
      .refereeWord 0 [],
      .refereeWord 0 (List.replicate 15 0),
      .twinConfig rq 0 256,
      .twinSwitch rq 256,
      .twinStatus rq 256,
      .kilnRead rq 65536] : List Instr).all (fun i => !i.wf) = true := by
  decide +kernel

/-- Commands that a check of `Instr.wf` refuses, part 7. -/
theorem test_ill_formed_7 :
    ([.kilnAck rq 65536,
      .kilnClear rq 65536,
      .kilnInject rq 256 0 0 0 0 0,
      .kilnInject rq 0 256 0 0 0 0,
      .kilnInject rq 0 0 256 0 0 0,
      .kilnInject rq 0 0 0 256 0 0,
      .kilnInject rq 0 0 0 0 0 256,
      .kilnLevelSet rq 256 0 0,
      .kilnLevelSet rq 0 256 0,
      .kilnLevelSet rq 0 0 256,
      .updOpen rq 256 0 0,
      .updOpen rq 0 4294967296 0,
      .updOpen rq 0 0 4294967296,
      .updWrite rq 0 4294967296 0 [0],
      .updWrite rq 0 0 0 [],
      .updWrite rq 0 0 0 (List.replicate 4001 0),
      .setWrite rq 65536 [],
      .setWrite rq 0 (List.replicate 253 0),
      .setRead rq 65536,
      .bundleWrite rq 0 1 0 [0, 0, 0, 0],
      .trunkFrame 0 0 ⟨true, true, 0, List.replicate 14 0, true, [(16384, 0)], [], 0⟩,
      .twinFrame 0 0 ⟨true, List.replicate 12 0, [[]], [], 0⟩,
      .fabricTransfer 0 .sup ⟨0, false, 3, 1, false, false, [], []⟩,
      .fabricTransfer 0 .sup ⟨0, false, 4, 2, false, false, [], []⟩] : List Instr).all (fun i => !i.wf) = true := by
  decide +kernel

/-! ## Single steps, with results from the manual -/

/-- What the next state of one step holds. -/
def next1 {α : Type} (i : Instr) (s : State) (f : State → α) : Option α :=
  match step { s with pending := [i] } with
  | .next t => some (f t)
  | _ => none

/-- STATUS and DETAIL of the newest reply on channel 0 (R47). -/
def answer (t : State) : Option (List Byte) := (chan t 0).out.getLast?.map (fun x => (x.bytes.drop 16).take 2)

/-- R45: the check values of the two CRCs. -/
theorem test_crc16 : crc16 [0x31, 0x32, 0x33, 0x34, 0x35, 0x36, 0x37, 0x38, 0x39] = 0x29B1 := by decide +kernel
theorem test_crc32 : crc32 [0x31, 0x32, 0x33, 0x34, 0x35, 0x36, 0x37, 0x38, 0x39] = 0xCBF43926 := by decide +kernel

/-- R306: the worked example at claim 65,535, and a distance of 32,768. -/
theorem test_claims : claimNext 65535 = 1 ∧ claimHigher 1 65535 = true ∧ claimHigher 65535 1 = false ∧ claimHigher 0 1 = false ∧
    claimHigher 1 32769 = false ∧ claimHigher 32769 1 = false := by decide

/-- R26: NaN and infinity become 0 and count, a negative subnormal becomes −0 and does not. -/
theorem test_ingress : ingress 0x7FC00000 = ⟨0, true⟩ ∧ ingress 0xFF800000 = ⟨0, true⟩ ∧ ingress 0x80000001 = ⟨0x80000000, false⟩ ∧
    ingress 0x3F800000 = ⟨0x3F800000, false⟩ := by decide

/-- R116: a pointer outside its buffer lands inside it, also by a negative step; without a buffer it wraps at 2^20. -/
theorem test_post_modify : postModify 5 100 10 (-3) = 102 ∧ postModify 109 100 10 1 = 100 ∧ postModify 0xFFFFF 0 0 1 = 0 := by decide

/-- R135: a ramp of 1 sample reaches its target at the first sample; half way of a ramp of 2 from 0 to 1 is one half. -/
theorem test_ramp : rampAt 0 0x3F800000 1 0 = 0x3F800000 ∧ rampAt 0 0x3F800000 2 0 = 0x3F000000 := by decide +kernel

/-- R35: RDY_IN alone in the status byte of an idle engine. -/
theorem test_read_status : next1 (.readStatus 0) on (fun t => t.wire) = some [.qspi [0x01]] := by decide +kernel

/-- R34, R47: SYS_NOP answers OK with 20 bytes, the sync word first, its TAG repeated. -/
theorem test_sys_nop : next1 (.sysNop rq) on (fun t => (chan t 0).out.map (fun x => (x.bytes.length, x.bytes.take 6, x.bytes.drop 16))) =
    some [(20, [0xA5, 0xC3, 0, 0, 0, 1], [0, 0, 0, 0])] := by decide +kernel

/-- R37: a GET of 20 bytes takes that reply, one of 19 leaves it. -/
theorem test_get : next1 (.get 0 48) (replyOK rq 0 [] on) (fun t => (chan t 0).out.length) = some 0 ∧
    next1 (.get 0 46) (replyOK rq 0 [] on) (fun t => (chan t 0).out.length) = some 1 := by decide +kernel

/-- R36: a PUT while RDY_IN is 0 counts in DROP. -/
theorem test_put_dropped : next1 (.put 0 []) up (fun t => getF t (fHOST_ERR_DROP 0)) = some 1 := by decide +kernel

/-- R49: a packet whose header CRC fails is answered BAD_CRC, DETAIL 1. -/
theorem test_bad_hcrc : next1 (.put 0 ([0xA5, 0xC3] ++ zeros 14)) on answer = some (some [6, 1]) := by decide +kernel

/-- R17: a boundary counts the batch index on, and it wraps. -/
theorem test_batch_index : getF (countBatch on) fSYS_BATCH_INDEX = 1 ∧
    getF (countBatch (putF [(fSYS_BATCH_INDEX, 0xFFFFFFFF)] on)) fSYS_BATCH_INDEX = 0 := by decide +kernel

/-- R350: RESET_RELEASE lets the engine run. -/
theorem test_reset_release : next1 .resetRelease State.reset (fun t => t.pwr.phase) = some .run := by decide +kernel

/-- R351: the cause of a Pin reset alone stands after it. -/
theorem test_pin_reset : next1 (.pinReset 0) on (fun t => (getF t fSYS_RSTCAUSE_PIN, getF t fSYS_RSTCAUSE_COLD)) = some (1, 0) := by
  decide +kernel

/-- R64, R391: reset values of registers. -/
theorem test_reset_values : getF State.reset fHOST_UDP1_PORT = 49800 ∧ getF State.reset fHOST_UDP2_PORT = 49801 ∧
    getF State.reset fNVS_LINE_LINE = 6208 ∧ getF State.reset fUPD_CFG_HWIN = 60 ∧ getF State.reset fSYS_RSTCAUSE_COLD = 1 := by decide

/-- R260: 63 bytes is a runt, 1,519 untagged is too long and 1,522 tagged is not. -/
theorem test_eth_lengths :
    next1 (.ethFrame 0 0 ⟨63, false, none, .other⟩) eth (fun t => (getF t (fETH_CNT_RUNT 0), getF t (fETH_CNT_FCS 0))) = some (1, 0) ∧
    next1 (.ethFrame 0 0 ⟨1519, true, none, .other⟩) eth (fun t => getF t (fETH_CNT_LONG 0)) = some 1 ∧
    next1 (.ethFrame 0 0 ⟨1522, true, some 0, .igmpQuery⟩) eth (fun t => getF t (fETH_CNT_LONG 0)) = some 0 := by decide +kernel

/-- R176, R207, R152, R277: an absent port, an empty mask, an unbound line and an unknown stream are DENIED with their DETAILs. -/
theorem test_denied :
    next1 (.portStart rq 0 0) on answer = some (some [8, 1]) ∧ next1 (.stageTrain rq 0) on answer = some (some [8, 2]) ∧
    next1 (.delaySet rq [⟨9, 0, 0⟩]) on answer = some (some [8, 1]) ∧ next1 (.aesStreamStatus rq 0x50) on answer = some (some [8, 1]) := by
  decide +kernel

/-- R1, R333: TWIN_JOIN on -N and STAGE_SENSE on -M are ABSENT. -/
theorem test_absent :
    next1 (.twinJoin rq) { on with fuses := { on.fuses with variant := .n } } answer = some (some [3, 0]) ∧
    next1 (.stageSense rq 0) { on with fuses := { on.fuses with variant := .m } } answer = some (some [3, 0]) := by decide +kernel

/-- R93: BAKE_BEGIN makes the proof WRITING; a bundle with |a2| = 1 is refused (R87). -/
theorem test_bake_begin : next1 (.bakeBegin rq 64) on proofState = some proofWRITING := by decide +kernel
theorem test_bad_poles : sectionGood [0x3F800000, 0, 0, 0, 0x3F800000] = false ∧ sectionGood [0x3F800000, 0, 0, 0, 0x3F000000] = true := by
  decide +kernel

/-- R56: CLK_SELECT clamps ALSLEW to 1 and HOLDTAU to 10, and replies them. -/
theorem test_clk_select : next1 (.clkSelect rq 0 0 0 0 0) on (fun t => (getF t fCLK_CTL_ALSLEW, getF t fCLK_CTL_HOLDTAU)) = some (1, 10) := by
  decide +kernel

/-- R239: an enabled lane trains. -/
theorem test_trunk_enable : next1 (.trunkEnable rq 1) on (fun t => (getF t (fTL_CTL_EN 0), laneState t 0)) = some (1, lTRAIN) := by decide +kernel

/-- R348: a dip turns the Damper on and shows its rail. -/
theorem test_dip : next1 (.dip 0 2) on (fun t => (getF t fPWR_STAT_DAMPER, (getF t fPWR_STAT_WARN).testBit 2)) = some (1, true) := by decide +kernel

/-- R343: acknowledging takes UNACK and ESC of a class. -/
theorem test_kiln_ack : next1 (.kilnAck rq 8) (putF [(fKILN_STAT_UNACK, 24), (fKILN_CLS_ESC 3, 2)] on)
    (fun t => (getF t fKILN_STAT_UNACK, getF t (fKILN_CLS_ESC 3))) = some (16, 0) := by decide +kernel

/-- R337: source 2 before source 8, and a real shard before an injected one. -/
theorem test_shard_order : (nextShard { on with kiln := { waiting := [{ src := 8, inst := 0, cls := 3, kind := 1, ctx := 0 },
    { src := 2, inst := 1, cls := 4, kind := 1, ctx := 0, inj := true }, { src := 2, inst := 2, cls := 4, kind := 1, ctx := 0 }] } }).map
    (fun x => (x.src, x.inst)) = some (2, 2) := by decide

/-- R359: the key services the watchdog, another word does not. -/
theorem test_watchdog : next1 (.sysWdog 0 .sup 0xA5F0) { on with pwr := { on.pwr with wdog := 5 } } (fun t => t.pwr.wdog) = some 0 ∧
    next1 (.sysWdog 0 .sup 0xA5F1) { on with pwr := { on.pwr with wdog := 5 } } (fun t => t.pwr.wdog) = some 5 := by decide +kernel

/-- R18: a write at cycle 101,375 takes effect at the next boundary, one at 101,376 a boundary later. -/
theorem test_latch_point : dueOf { rq with c := 101375 } on = 1 ∧ dueOf { rq with c := 101376 } on = 2 := by decide +kernel

/-- R51: the first handle of channel 1. -/
theorem test_first_handle : nextHandle on 1 = 0x40000001 := by decide

/-- R305, R333: a standby's own PARAM_WRITE is DENIED, DETAIL 8 (R83). -/
theorem test_standby_denied : next1 (.paramWrite rq [⟨1, 0, 0⟩]) (putF [(fTWIN_STAT_ROLE, 2)] play) answer = some (some [8, 8]) := by
  decide +kernel

/-- R352: Standby shows at once. -/
theorem test_standby_enter : next1 (.standbyEnter rq) on (fun t => (getF t fPWR_STAT_STANDBY, answer t)) = some (1, some [1, 0]) := by
  decide +kernel

/-- R366: an address that is no register answers FAILED, and the access is recorded. -/
theorem test_no_register : next1 (.regRead rq 0x40000FFC 1) on (fun t => (answer t, getF t fFAB_ERR_ADDR)) =
    some (some [10, 0], 0x40000FFC) := by decide +kernel

/-- R265: 1,480 UDP payload bytes and the 8 of the UDP header take two fragments of an MTU of 1,500, the first 1,480 bytes with its UDP header; 1,472 take one. -/
theorem test_fragments : (ipFragments 1500 (zeros 1480)).map (fun f => (f.off, f.data.length)) = [(0, 1472), (1480, 8)] ∧
    (ipFragments 1500 (zeros 1472)).length = 1 := by decide +kernel

/-- R56, R276: a MODE code above the highest legal one is applied as that one: 4 on MAC0, 3 on MAC1. -/
theorem test_mode_clamps : getF (writeReg .sup (rETH_CTL 0) 0xE on) (fETH_CTL_MODE 0) = 4 ∧
    getF (writeReg .sup (rETH_CTL 1) 0xE on) (fETH_CTL_MODE 1) = 3 := by decide +kernel

/-- R167: of a port's stop and start for one boundary the last counts. -/
theorem test_last_gate : lastOnly [.gate 0 1 8 3, .gate 0 0 16 3] = [.gate 0 0 16 3] := by decide

/-- A word of the table spells no command: the table gives no row any bits. -/
theorem test_decode : decodeTableWord 16 0 = none ∧ State.withFetchWord on 16 0 = on := by
  exact ⟨rfl, rfl⟩

/-! ## The hypotheses of the statements can be met -/

theorem hypotheses_StepIdlesOnEmptyQueue :
    on.pending = [] := by
  decide +kernel

theorem hypotheses_StepKeepsMemoryForm :
    MemForm on := by
  unfold MemForm
  decide +kernel

theorem hypotheses_OnlyStoringCommandsChangeMemory :
    storesMem (.rootLock 0) = false := by
  decide +kernel

theorem hypotheses_FirstFailingCheckReplies :
    Live on ∧
    [busyIf true, deniedIf true 1].find? (fun x => x.bad) = some (busyIf true) := by
  unfold Live
  decide +kernel

theorem hypotheses_PacketsDecode :
    (Instr.sysNop rq).wf = true ∧
    requestOf (.sysNop rq) = some rq ∧
    (Instr.trunkMsgSend rq 0 [1]).wf = true ∧
    requestOf (.trunkMsgSend rq 0 [1]) = some rq := by
  decide +kernel

theorem hypotheses_PacketRunsCommand :
    Live on ∧
    rdyIn on = true ∧
    (Instr.sysNop (keyed rq)).wf = true ∧
    requestOf (.sysNop (keyed rq)) = some (keyed rq) ∧
    (keyed rq).c = 0 ∧
    (keyed rq).ch = 0 ∧
    (keyed rq).target = none ∧
    (keyed rq).key = BitVec.ofNat 16 (retryKey (packetOf (keyed rq) (.sysNop (keyed rq)))) := by
  unfold Live
  decide +kernel

theorem hypotheses_BadHeaderCrcReplies :
    Running on ∧
    rdyIn on = true ∧
    n2 ([0xA5, 0xC3] ++ zeros 14) 0 = 0xA5C3 ∧
    16 ≤ ([0xA5, 0xC3] ++ zeros 14 : List Byte).length ∧
    n2 ([0xA5, 0xC3] ++ zeros 14) 14 ≠ crc16 (([0xA5, 0xC3] ++ zeros 14 : List Byte).take 14) := by
  unfold Running
  decide +kernel

theorem hypotheses_QspiFramesComplete :
    Running on ∧
    rdyIn on = true ∧
    rdyIn up = false ∧
    (chan (replyOK rq 0 [] on) 0).out.length = 1 ∧
    ((chan (replyOK rq 0 [] on) 0).out.map (fun x => x.bytes.length)) = [20] ∧
    (chan on 0).out = [] ∧
    ((0x00 : Byte) ≠ 0x05 ∧ (0x00 : Byte) ≠ 0x32 ∧ (0x00 : Byte) ≠ 0x6B) := by
  unfold Running
  decide +kernel

theorem hypotheses_DatagramsComplete :
    Running udp ∧
    udpChan udp 0 0x1234 = some 1 ∧
    4 < 5 ∧
    (4161 : Nat) > 4160 ∧
    udp.kiln.ctlReset = false ∧
    getF udp fHOST_STAT_PAUSED = 0 ∧
    udp.pwr.sup = true ∧
    n2 [0xA5, 0xC3] 0 = 0xA5C3 ∧
    (chan (setChan 1 { unacked := [⟨1, 7, [], 20⟩] } on) 1).unacked.find? (fun y => y.seq == 7) = some ⟨1, 7, [], 20⟩ := by
  unfold Running
  decide +kernel

theorem hypotheses_HandlesCount :
    poweredUp on = true ∧
    Running on ∧
    { on with pwr := { on.pwr with softDue := true } }.pwr.softDue = true := by
  unfold Running
  decide +kernel

theorem hypotheses_HandlesOpenAndClose :
    Live full ∧
    64 ≤ (chan full rq.ch).handles.length ∧
    (hasMod full = true ∧ hasProt full = true ∧ hasTwin full = true) ∧
    (chan (setChan 1 { unacked := [⟨5, 1, [], 20⟩] } on) rq1.ch).unacked.any (fun u => u.h == 5) = true ∧
    (chan compl 0).out = [⟨false, zeros 52, some 1⟩] ∧
    Running compl := by
  unfold Running Live
  decide +kernel

theorem hypotheses_CompletionRecordLeaves :
    (chan compl 0).handles.find? (fun y => y.h == 1) = some ⟨1, 0, 0, 0, false, false⟩ ∧
    { compl with kiln := { compl.kiln with ctlReset := true } }.kiln.ctlReset = true ∧
    (chan compl 0).handles.any (fun x => x.h == 1 && !x.done) = true := by
  decide +kernel

theorem hypotheses_SystemCommandsComplete :
    Live on ∧
    (chan (setChan 0 { results := [⟨1, 1, [1, 2], 64⟩] } on) rq.ch).results.find? (fun x => x.h == 1) = some ⟨1, 1, [1, 2], 64⟩ ∧
    (chan compl rq.ch).handles.any (fun x => x.h == 1) = true ∧
    compl.ops.find? (fun x => x.ch == rq.ch.val && x.h == 1) = none ∧
    (doing 1 .romCheck).ops.find? (fun x => x.ch == rq.ch.val && x.h == 1) = some ⟨0, 1, .romCheck⟩ ∧
    HandleFree rq on ∧
    Stopped isRomCheck on ∧
    Stopped (isScrubOf 2) on ∧
    (doing 1 .romCheck).ops.any (fun o => isRomCheck o.kind) = true ∧
    (doing 1 (.scrub 0 false)).ops.any (fun o => scrubRuns 0 o.kind) = true := by
  unfold Live HandleFree Stopped
  decide +kernel

theorem hypotheses_RegisterCommandsComplete :
    Live on ∧
    inRegs (BitVec.toNat (0x40000000 : Word) / 4 * 4) = true ∧
    regDecodes on 0x40000000 = true ∧
    (regSpan 0x40000000 (clampN 1 256 2)).all (regDecodes on) = true ∧
    unitAbsent on (unitOfAddr 0x40000000) = false ∧
    regDecodes on 0x40000FFC = false ∧
    inRegs 0x40000FFC = true := by
  unfold Live
  decide +kernel

theorem hypotheses_AbsentUnitsReadZero :
    unitAbsent { on with fuses := { on.fuses with variant := .m } } (unitOfAddr 0x400B0000) = true ∧
    unitAbsent { on with fuses := { on.fuses with variant := .n } } (unitOfAddr 0x400D0000) = true ∧
    inRegs 0x400B0000 = true := by
  decide +kernel

theorem hypotheses_RegisterFieldsAnswer :
    (fieldsOf rKILN_CNT).any (fun f => f.acc = .rc) = true ∧
    (fieldsOf rCLK_CTL).any (fun f => f.acc = .rw) = true ∧
    (fieldsOf rKILN_STAT).any (fun f => f.acc = .w1c) = true ∧
    (fieldsOf rSYS_WDOG).any (fun f => f.acc = .wo) = true ∧
    (fieldsOf rKILN_STAT).Pairwise (fun x y => x.lo ≠ y.lo) ∧
    freshCount on (fCORE_FLAGS_UECC 0) = 0 ∧
    freshCount (noteFresh (fCORE_FLAGS_UECC 0) 1 on) (fCORE_FLAGS_UECC 0) ≠ 0 := by
  decide +kernel

theorem hypotheses_BakeCommandsComplete :
    Live on ∧
    on.commits = [] ∧
    proofState on ≠ proofVERIFYING ∧
    proofState (putF [(fBAKE_STAT_PROOF, proofWRITING)] on) = proofWRITING ∧
    crc32 [0x31, 0x32, 0x33, 0x34, 0x35, 0x36, 0x37, 0x38, 0x39] = (0xCBF43926 : Word).toNat ∧
    0 + 9 ≤ on.proofTotal ∧
    MemForm on ∧
    HandleFree rq on ∧
    proofState (putF [(fBAKE_STAT_PROOF, proofVERIFYING)] (doing 1 (.bakeLoad none))) = proofVERIFYING ∧
    (doing 1 (.bakeLoad none)).ops.find? (fun x => isBakeLoad x.kind) = some ⟨0, 1, .bakeLoad none⟩ ∧
    Latches rq baked ∧
    proofState baked = proofVALID ∧
    1 &&& trayMask baked.proof ≠ 0 ∧
    commitAllowed baked (1 &&& trayMask baked.proof) = true ∧
    baked.commits.foldl (fun k x => k ||| x.mask) 0 &&& commitTrays baked (1 &&& trayMask baked.proof) = 0 ∧
    fadeMask baked &&& commitTrays baked (1 &&& trayMask baked.proof) = 0 ∧
    targetTooNear baked 0 = false ∧
    joined baked = false ∧
    ovenEmpty play = false := by
  unfold Live Latches HandleFree MemForm
  decide +kernel

theorem hypotheses_LiveWritesComplete :
    Live play ∧
    Latches rq play ∧
    (∀ e ∈ [(⟨1, 2000, 0x40000000⟩ : ParamEntry)], (paramDef play.oven e.id).isSome = true ∧ fpIsNaN e.value = false) ∧
    (param play 1).isSome = true ∧
    (bundleDef play.oven 1).map (fun e => e.2.sections) = some 1 ∧
    (sectionsOf [0x3F800000, 0, 0, 0, 0] 1).all sectionGood = true := by
  unfold Live Latches
  decide +kernel

theorem hypotheses_BadBundleIsDenied :
    Live play ∧
    Latches rq play ∧
    (bundleDef play.oven 1).map (fun e => e.2.sections) = some 1 ∧
    (sectionsOf [0x3F800000, 0, 0, 0, 0x7F800000] 1).findIdx? (fun c => !sectionGood c) = some 0 ∧
    [(0x3F800000 : Word), 0, 0, 0, 0x3F000000].all (fun w => !fpIsE255 w) = true := by
  unfold Live Latches
  decide +kernel

theorem hypotheses_FadesEnd :
    Running fading ∧
    ⟨0, 1, 1, 3, some 8, []⟩ ∈ fading.commits ∧
    (0 < (tray fading 0).fadeIn ∧ (tray fading 0).fadeIn ≤ 8) ∧
    (bundle play 1).map (fun b => (b.next, decide (b.len ≤ b.pos + 8))) = some (some [1], true) ∧
    (bundleDef play.oven 1).isSome = true := by
  unfold Running
  decide +kernel

theorem hypotheses_BatchesAndBundlesComplete :
    Running play ∧
    clocksRun (runFixedTo 0 (begin_ 0 busyCore)) = true ∧
    ((core_ (runFixedTo 0 (begin_ 0 busyCore)) 0).ctx = .sched ∧ (core_ (runFixedTo 0 (begin_ 0 busyCore)) 0).branch = none ∧ (core_ (runFixedTo 0 (begin_ 0 busyCore)) 0).flight = []) ∧
    ((core_ (runFixedTo 0 (begin_ 0 busyCore)) 0).st % 32 < 4 ∧ bundleAt (runFixedTo 0 (begin_ 0 busyCore)) 0 0 = 0) ∧
    (core_ (runFixedTo 0 (begin_ 0 busyCore)) 0).cyc < 102400 ∧
    scheduleOpen (core_ busyCore 0) = true ∧
    (coreDef busyCore.oven 0).map (fun e => e.2.deadline) = some 1000 ∧
    (1000 : Nat) ≤ 1000 ∧
    ((stagedPlace (.param 1 8 0)).isSome = true ∧ stagedPlace (.param 2 8 0) ≠ stagedPlace (.param 1 8 0)) ∧
    ((1 : Nat) ≤ 1 ∧ gateNames (.gate 1 2 8 1) 0 = 0) ∧
    (lastOnly [.gate 0 1 8 1, .gate 0 0 8 1]).length = 1 := by
  unfold Running
  decide +kernel

theorem hypotheses_PointersStep :
    (16 : Nat) ≠ 0 := by
  decide +kernel

theorem hypotheses_MixCommandsComplete :
    Live play ∧
    Latches rq play ∧
    (∀ e ∈ [(⟨1, 2, 0x3F800000, 8⟩ : XpEntry)], (sourceDef play.oven e.src).isSome = true ∧ (destDef play.oven e.dst).isSome = true ∧ fpIsNaN e.gain = false) ∧
    overQuota play [xpKey 1 2] = false ∧
    (xp play 1 2).isSome = true ∧
    (∀ e ∈ [(⟨1, 0x3F800000⟩ : RouteEntry)], (sourceDef play.oven e.src).isSome = true ∧ fpIsNaN e.gain = false) ∧
    (delayDef play.oven 1).isSome = true ∧
    (delay play 1).isSome = true ∧
    ovenEmpty play = false ∧
    (play.oven.report.find? (fun e => e.src == 1 && e.dst == 2)).isSome = true ∧
    (xp (runFixedTo 102000 (begin_ 102000 play)) 1 2).map (fun p => (rampLeft p, fpIsZero p.target)) = some (0, true) ∧
    (destDef play.oven 2).map (fun e => decide (e.1.windowEnd ≤ 102000)) = some true ∧
    (delay (runFixedTo 102000 (begin_ 102000 play)) 1).map (fun x => (x.next.isSome, decide (x.len ≤ x.pos + 8))) = some (true, true) ∧
    dynAbsent play 0 = false ∧
    (dynDef play.oven 0).map (fun e => isOutLim e.2) = some false ∧
    (dynDef play.oven 0x800).map (fun e => isOutLim e.2) = some true ∧
    dynAbsent play 0x800 = false ∧
    anyNaN [0, 0x3F800000, 0, 0, 0, 0] = false ∧
    (hasMod play = true ∨ (2 : Nat) < 0x8000 ∨ (0x800F : Nat) < 2) := by
  unfold Live Latches
  decide +kernel

theorem hypotheses_PortCommandsComplete :
    Live play ∧
    Latches rq play ∧
    (portDef play.oven (min 9 7)).isSome = false ∧
    (portDef play.oven (min 0 7)).isSome = true ∧
    (alignDef play.oven (min 0 7)).isSome = true ∧
    portState (ports pOFF 0) 0 = pOFF ∧
    portState (ports pRUN 0) 0 ≠ pOFF ∧
    (3 : Nat) < 2 ^ 32 := by
  unfold Live Latches
  decide +kernel

theorem hypotheses_PortStatesMove :
    Running play ∧
    (portDef play.oven 0).map (fun p => (p.master, p.asrc, p.rate)) = some (false, false, 3) ∧
    (portDef play.oven 1).map (fun p => (p.master, p.asrc)) = some (false, true) ∧
    portState (ports pRUN 0) 0 = pRUN ∧
    (portState (ports pDETECT 5) 0 = pDETECT ∧ getF (ports pDETECT 5) (fPORT_STS_RATE 0) = 5) ∧
    portState (ports pDETECT 0) 1 = pDETECT ∧
    (portState (ports pACQUIRE 0) 1 = pACQUIRE ∧ (port (ports pACQUIRE 0) 1).locked = false) ∧
    Room 8 (ports pRUN 0) ∧
    ((stream (setStream 0x50 { state := 1 } play) 0x50).state ≠ 0 ∧ 8 ≤ 0x50) := by
  unfold Running Room
  decide +kernel

theorem hypotheses_PortEventsComplete :
    Running play ∧
    0 < getF (putF [(fPORT_CTL_GLITCH 0, 1)] play) (fPORT_CTL_GLITCH 0) ∧
    (gateOf (port gated 0) 1).goal = some (0, 16) ∧
    ((pair (setPair 0 { hold := true } on) 0).hold = true ∧ (pair (setPair 0 { hold := true } on) 0).fade.target ≠ fpZero) ∧
    (stream (setStream 0x40 { state := 3 } play) 0x40).state = 3 ∧
    (stream (setStream 0x40 { state := 3 } play) 0x40).buf.any (fun e => e.1 / 64 == playPos (setStream 0x40 { state := 3 } play) 0x40) = false ∧
    Room 8 play ∧
    portState (runFixedTo 5 (begin_ 5 (ports pRUN 0))) 0 = pRUN ∧
    portState (runFixedTo 5 (begin_ 5 (ports pRUN 0))) 1 = pRUN ∧
    portState (runFixedTo 5 (begin_ 5 (ports pLOST 0))) 0 = pLOST ∧
    (port (runFixedTo 5 (begin_ 5 (ports pRUN 0))) 0).frameErrs < 2 ∧
    (portDef (runFixedTo 5 (begin_ 5 (ports pRUN 0))).oven 0).map (fun p => (p.master, p.asrc, p.claimPair)) = some (false, false, false) ∧
    (portState (runFixedTo 5 (begin_ 5 (ports pDETECT 0))) 0 ≠ pOFF ∧ portState (runFixedTo 5 (begin_ 5 (ports pDETECT 0))) 0 ≠ pRUN) ∧
    2 ≤ (port (runFixedTo 5 (begin_ 5 (setPort 0 { frameErrs := 2 } (ports pRUN 0)))) 0).frameErrs ∧
    (portDef (runFixedTo 5 (begin_ 5 (ports pRUN 0))).oven 1).map (fun p => p.asrc) = some true := by
  unfold Running Room
  decide +kernel

theorem hypotheses_StageCommandsComplete :
    Live play ∧
    Latches rq play ∧
    hasMod play = true ∧
    HandleFree rq play ∧
    3 % 65536 ≠ 0 ∧
    (∀ n ∈ maskList 16 (3 % 65536), outState play n ≠ oLATCHED) ∧
    3 % 65536 &&& trainingLanes play = 0 ∧
    targeted rq play = false ∧
    (doing 1 (.train 1)).ops.filter (fun x => isTrain x.kind) = [⟨0, 1, .train 1⟩] ∧
    (maskList 16 1).all (trained (setOut 0 { code := some 0 } (doing 1 (.train 1)))) = true ∧
    play.oven ≠ Bake.empty ∧
    (maskList 16 3).filter (actsOn (stage0 oARMED) 0) = [0] ∧
    (outState (stage0 oARMED) 0 = oARMED ∧ (prot (stage0 oARMED) 0).sweeping = false) ∧
    (outState (stage0 oSAFE) 0 = oSAFE ∧ outState (stage0 oRUN) 0 = oRUN ∧ outState (stage0 oLATCHED) 0 = oLATCHED) := by
  unfold Live Latches HandleFree
  decide +kernel

theorem hypotheses_GateLinkCompletes :
    Running play ∧
    glLive (runFixedTo 9 (begin_ 9 play)) = true ∧
    glLive on = true ∧
    returnOk { kOk := true, syms := zeros 56 ++ be4 (crc32 (zeros 56)), flight := 0 } = true ∧
    returnOk { kOk := false, syms := [], flight := 0 } = false ∧
    Room 11 on ∧
    getF (putF [(fSTAGE_LANE_LOCK 0, 1)] on) (fSTAGE_LANE_LOCK 0) = 1 ∧
    (laneOuts 0).any (fun n => isPowered (outState (stage0 oRUN) n)) = true ∧
    outState (stage0 oRUN) 0 = oRUN := by
  unfold Running Room
  decide +kernel

theorem hypotheses_StageSequenceMoves :
    glLive (stage0 oIDENT) = true ∧
    outState (stage0 oIDENT) 0 = oIDENT ∧
    Room 11 (stage0 oIDENT) ∧
    outState (stage0 oTEST) 0 = oTEST ∧
    (gl (stage0 oTEST) (laneOf 0)).errs = 0 ∧
    busOk (setOut 0 { vbf := vbMin (stage0 oTEST) 0 } (stage0 oTEST)) 0 = true ∧
    busOk (setOut 0 { vbf := 0xC3000000 } (stage0 oTEST)) 0 = false ∧
    outState (stage0 oPRECHARGE) 0 = oPRECHARGE ∧
    (out_ (setOut 0 { pcCap := 1 } (stage0 oPRECHARGE)) 0).pcCap ≠ 0 ∧
    ((out_ (stage0 oPRECHARGE) 0).pcCap = 0 ∧ (out_ (stage0 oPRECHARGE) 0).step ≠ 8 ∧ (out_ (stage0 oPRECHARGE) 0).step ≠ 9) ∧
    capsInBand (stage0 oPRECHARGE) 0 = true ∧
    (prot (stage0 oPRECHARGE) 0).retrying = false ∧
    (out_ (setOut 0 { step := 9 } (stage0 oPRECHARGE)) 0).step = 9 ∧
    outState (stage0 oRUN) 0 = oRUN ∧
    rampLeft (out_ (stage0 oRUN) 0).soft ≤ 16 := by
  unfold Room
  decide +kernel

theorem hypotheses_ProtectionCommandsComplete :
    Live on ∧
    Latches rq on ∧
    hasProt on = true ∧
    HandleFree rq on ∧
    outState (stage0 oARMED) (min 0 15) = oARMED ∧
    sweepsOn (min 0 15) (stage0 oARMED) = false ∧
    targeted rq (stage0 oARMED) = false ∧
    sourceBarred (stage0 oRUN) (min 0 15) = false ∧
    outState (stage0 oRUN) (min 0 15) = oRUN ∧
    calsOn (min 0 15) (stage0 oRUN) = false := by
  unfold Live Latches HandleFree
  decide +kernel

theorem hypotheses_ProtectionEventsComplete :
    Running on ∧
    (prot (setProt 0 { sweeping := true, sweepTrip := true } on) 0).sweeping = true ∧
    (prot (setProt 0 { sweeping := true, sweepTrip := true } on) 0).sweepTrip = true ∧
    24 ≤ (prot (setProt 0 { sweeping := true, swPts := List.replicate 24 ⟨0, 0⟩ } on) 0).swPts.length ∧
    (prot (setProt 0 { cal := some (20, [1, 1, 1, 1], 0) } on) 0).cal = some (20, [1, 1, 1, 1], 0) ∧
    (prot (setProt 0 { cal := some (20, [], 8) } on) 0).cal = some (20, [], 8) ∧
    (prot (setProt 0 { retryWait := true } (stage0 oSAFE)) 0).retryWait = true ∧
    outState (setProt 0 { retryWait := true } (stage0 oSAFE)) 0 = oSAFE ∧
    fpLt (prot (stage0 oSAFE) 0).tc (pTmax (stage0 oSAFE) 0) = true ∧
    outState (stage0 oRUN) 0 = oRUN ∧
    hasProt on = true ∧
    MemForm on ∧
    (prot (setProt 0 { wn := 1 } on) 0).wn ≠ 0 ∧
    (getF (putF [(fPROT_PROBE_ACTIVE, 1)] on) fPROT_PROBE_ACTIVE).testBit 0 = true ∧
    (setProt 0 { retryWait := true } (stage0 oSAFE)).upd.gHold = false ∧
    (prot on 0).zref = none ∧
    (prot (setProt 0 { zref := some 1 } on) 0).zref = some 1 ∧
    (prot (setProt 0 { probe := loud } on) 0).probe.n ≠ 0 ∧
    fpLt (lockAmp loud) 0x3A83126F = false := by
  unfold Running MemForm
  decide +kernel

theorem hypotheses_TrunkCommandsComplete :
    Live on ∧
    HandleFree rq on ∧
    laneState (lane0 lUP) (min 0 7) = lUP ∧
    (lane (lane0 lUP) (min 0 7)).ranging = false ∧
    (lane (lane0 lUP) (min 0 7)).unacked.length < 16 ∧
    on.msgs = [] ∧
    { on with msgs := [(0, [1])] }.msgs = [(0, [1])] := by
  unfold Live HandleFree
  decide +kernel

theorem hypotheses_TrunkFramesComplete :
    laneLive (lane0 lUP) 0 = true ∧
    laneState (lane0 lUP) 0 = lUP ∧
    trunkHead.length = 14 ∧
    num trunkHead 12 2 = crc16 (trunkHead.take 12) ∧
    num trunkHead 6 1 % 4 = 3 ∧
    Room 9 (lane0 lUP) ∧
    claimHigher (getF (putF [(fTL_CLAIM_HIGH 0, 9)] (lane0 lUP)) (fTL_CLAIM_HIGH 0)) (num trunkHead 0 2) = true ∧
    claimHigher (getF (lane0 lUP) (fTL_CLAIM_HIGH 0)) (num trunkHead 0 2) = false ∧
    (∀ m ∈ (lane (lane0 lUP) 0).unacked, m.sends < 8) ∧
    getF (putF [(fTL_STS_HOLD 0, 1)] (lane0 lUP)) (fTL_STS_HOLD 0) = 1 ∧
    (lane (lane0 lUP) 0).held < 24 ∧
    Running on ∧
    getF (putF [(fTL_CTL_EN 0, 1)] on) (fTL_CTL_EN 0) = 1 := by
  unfold Running Room
  decide +kernel

theorem hypotheses_LaneBringUpMoves :
    laneLive (lane0 lEQ) 0 = true ∧
    laneState (lane0 lEQ) 0 ≠ lOFF ∧
    (lEQ ≤ laneState (lane0 lCAPS) 0 ∧ laneState (lane0 lCAPS) 0 ≤ lCAPS) ∧
    laneState (lane0 lEQ) 0 = lEQ ∧
    getF (putF [(fTL_CTL_CTLEAUTO 0, 0)] (lane0 lEQ)) (fTL_CTL_CTLEAUTO 0) = 0 ∧
    (laneState (lane0 lCAPS) 0 = lCAPS ∧ (lane (lane0 lCAPS) 0).capsShard = false) ∧
    Room 9 (lane0 lCAPS) ∧
    (lane (setLane 0 { capsShard := true } (lane0 lCAPS)) 0).capsShard = true ∧
    ((lane (setLane 0 { ranging := true } (lane0 lRANGE)) 0).ranging = true ∧ laneState (setLane 0 { ranging := true } (lane0 lRANGE)) 0 = lRANGE) ∧
    ((lane (setLane 0 { ranging := true } (lane0 lUP)) 0).ranging = true ∧ laneState (setLane 0 { ranging := true } (lane0 lUP)) 0 ≠ lRANGE) ∧
    (laneLive (setLane 11 { ranging := true, state := lRANGE } on) 11 = true ∧ Room (laneSrc 11) on) ∧
    laneState (lane0 lUP) 0 = lUP := by
  unfold Room
  decide +kernel

theorem hypotheses_EthernetComplete :
    Running eth ∧
    macUp eth 0 = true ∧
    (63 : Nat) ≤ 63 ∧
    (maxFrame eth 0 false < 1519 ∧ maxFrame eth 0 true < 1523) ∧
    64 ≤ maxFrame eth 0 false ∧
    vidGood eth 0 none = true ∧
    vidGood (putF [(fETH_CTL_VID 0, 5)] eth) 0 (some 6) = false ∧
    262144 < rxBytes (mac (setMac 0 { rxq := [(1, 262144)] } eth) 0) + 64 ∧
    rxBytes (mac eth 0) + 64 ≤ 262144 ∧
    dispatches eth 0 .other = false ∧
    dispatches eth 0 .igmpQuery = true ∧
    getF (putF [(fETH_CTL_RXPAUSE 0, 1)] eth) (fETH_CTL_RXPAUSE 0) = 1 ∧
    (mac (setMac 0 { paused := true } eth) 0).paused = true ∧
    ((mac (setMac 0 { asserted := true, rxq := [(1, 262144)] } eth) 0).asserted = true ∧ getF eth (fETH_WM_LOW 0) * 262144 < rxBytes (mac (setMac 0 { asserted := true, rxq := [(1, 262144)] } eth) 0) * 100) ∧
    (getF (putF [(fETH_CTL_EN 0, 1), (fETH_CTL_MODE 0, 2)] on) (fETH_CTL_EN 0) = 1 ∧ getF (putF [(fETH_CTL_EN 0, 1), (fETH_CTL_MODE 0, 2)] on) (fETH_CTL_MODE 0) ≠ 0) ∧
    on.kiln.resets = [] ∧
    lpiAllowed (putF [(fETH_CTL_EN 0, 1), (fETH_CTL_MODE 0, 2), (fETH_CTL_EEE 0, 1), (fETH_EEE_AGREED 0, 1)] eth) 0 = true ∧
    negotiates eth 0 = false ∧
    (mac (setMac 0 { pauseOk := true } eth) 0).pauseOk = true ∧
    negotiates (putF [(fETH_CTL_EN 0, 1), (fETH_CTL_MODE 0, 3)] on) 0 = false ∧
    negotiates (putF [(fETH_CTL_EN 0, 1), (fETH_CTL_MODE 0, 1)] on) 0 = true := by
  unfold Running
  decide +kernel

theorem hypotheses_FrameLengthsAreChecked :
    Running eth ∧
    macUp eth 0 = true ∧
    getF eth (fETH_CTL_JUMBO 0) = 0 ∧
    getF (putF [(fETH_CTL_JUMBO 0, 1)] eth) (fETH_CTL_JUMBO 0) = 1 ∧
    (64 ≤ (64 : Nat) ∧ 64 ≤ (if getF eth (fETH_CTL_JUMBO 0) = 1 then 9216 else 1518)) := by
  unfold Running
  decide +kernel

theorem hypotheses_AesStreamsComplete :
    Live play ∧
    Latches rq play ∧
    (aesDef play.oven 0x50).isSome = true ∧
    isTx 0x50 = true ∧
    streamOn (setStream 0x50 { set := { (stream play 0x50).set with enable := 1 } } play) 0x50 = true ∧
    aesSends play = true ∧
    macUp eth 0 = true ∧
    (mac (setMac 0 { txq := [⟨5, none, some 0x50, false, []⟩] } play) 0).txq.findIdx? (fun i => i.owner == some 0x50) = some 0 := by
  unfold Live Latches
  decide +kernel

theorem hypotheses_ClockCommandsComplete :
    Live on ∧
    hasTwin on = true ∧
    HandleFree rq aligned ∧
    getF aligned fTWIN_STAT_ROLE ≠ 2 ∧
    selected aligned = some 0 ∧
    alignKind aligned 0 ≠ .none ∧
    clkState aligned = kLOCKED ∧
    isPps aligned 0 = false ∧
    getF aligned fCLK_STAT_ALIGNING = 0 ∧
    (getF on fCLK_CTL_LOOP ≠ 0 ∨ getF (putF [(fCLK_CTL_SELMODE, 3)] on) fCLK_CTL_SELMODE = 3) := by
  unfold Live HandleFree
  decide +kernel

theorem hypotheses_ClockEventsComplete :
    clkLive on = true ∧
    entOfSource (putF [(fCLK_CFG_EN 0, 1), (fCLK_CFG_SOURCE 0, 2)] on) 2 = some 0 ∧
    (entState (putF [(fCLK_STS_STATE 0, 4)] on) 0 ≠ eOFF ∧ entState (putF [(fCLK_STS_STATE 0, 4)] on) 0 ≠ eNOSIG) ∧
    selected on ≠ some 0 ∧
    Room 2 on ∧
    (acting (putF [(fCLK_CFG_EN 0, 1), (fCLK_CFG_TYPE 0, 3)] on) 0 = true ∧ isPps (putF [(fCLK_CFG_EN 0, 1), (fCLK_CFG_TYPE 0, 3)] on) 0 = true) ∧
    clkState (putF [(fCLK_STAT_STATE, 1)] on) = kLOCKING ∧
    clkState (putF [(fCLK_STAT_STATE, 2)] on) = kLOCKED ∧
    clkState (putF [(fCLK_STAT_STATE, 4)] on) = kOPEN ∧
    MemForm on ∧
    selected aligned = some 0 ∧
    getF (putF [(fCLK_STAT_ALIGNING, 1)] aligned) fCLK_STAT_ALIGNING = 1 ∧
    getF (putF [(fCLK_STAT_ROOTLOCK, 1)] on) fCLK_STAT_ROOTLOCK = 1 := by
  unfold Room MemForm
  decide +kernel

theorem hypotheses_TwinsComplete :
    Live stby ∧
    hasTwin stby = true ∧
    roleRefused on 1 = false ∧
    (role on ≠ tSTANDBY ∨ sync on = 0) ∧
    HandleFree rq stby ∧
    joinOk stby = true ∧
    stby.twin.join = 0 ∧
    (inPair (peer 2) = true ∧ 2 ≤ switchSync (peer 2) ∧ switchSync (peer 2) ≠ 3) ∧
    (laneLive (setLane 8 { state := lUP } on) 8 = true ∧ laneState (setLane 8 { state := lUP } on) 8 = lUP) ∧
    (twinHead.length = 12 ∧ num twinHead 10 2 = crc16 (twinHead.take 10)) ∧
    (num twinHead 8 2 = getF on fTWIN_CFG_PAIRID ∧ num twinHead 6 1 % 4 = 0) ∧
    (role mirrored = tSTANDBY ∧ sync mirrored ≠ 0 ∧ mirrored.twin.join ≠ 2) ∧
    (tooLate mirrored 0 5 = false ∧ commandsLive mirrored = true) ∧
    tooLate mirrored 0 0 = true ∧
    Room 13 on ∧
    role on ≠ tACTIVE := by
  unfold Live HandleFree Room
  decide +kernel

theorem hypotheses_RefereeWordsComplete :
    Running (peer 2) ∧
    hasRef (peer 2) = true ∧
    inPair (peer 2) = true ∧
    (inPair (putF [(fTWIN_STAT_ROLE, 3)] on) = false ∧ role (putF [(fTWIN_STAT_ROLE, 3)] on) = tREFEREE) ∧
    (peer 2).twin.lostSent = false ∧
    Room 13 (peer 2) ∧
    wordValid mirrored grantWord = true ∧
    (num grantWord 2 1).testBit 1 = true ∧
    (num grantWord 2 1 % 2 = getF mirrored fTWIN_CFG_SIDE ∧ (num grantWord 2 1).testBit 2 = true ∧ role mirrored = tSTANDBY) ∧
    (num grantWord 2 1 % 2 ≠ getF (putF [(fTWIN_CFG_SIDE, 1)] (peer 2)) fTWIN_CFG_SIDE ∧ role (putF [(fTWIN_CFG_SIDE, 1)] (peer 2)) = tACTIVE) ∧
    { on with twin := { on.twin with owner := some 1 } }.twin.owner = some 1 ∧
    on.twin.owner = none := by
  unfold Running Room
  decide +kernel

theorem hypotheses_TwinsShareCommands :
    Live (putF [(fTWIN_STAT_ROLE, 2)] on) ∧
    getF (putF [(fTWIN_STAT_ROLE, 2)] on) fTWIN_STAT_ROLE = 2 ∧
    rq.ch ≠ 3 ∧
    dynAbsent on 0 = false ∧
    (hasMod on = true ∧ hasProt on = true) ∧
    joined (peer 2) = true ∧
    rq.target = none ∧
    rq3.target = some 9 ∧
    Live (peer 2) ∧
    HandleFree rq (peer 2) ∧
    (getF (peer 2) fTWIN_STAT_ROLE ≠ 2 ∨ rq.ch = 3) ∧
    3 % 65536 ≠ 0 ∧
    (∀ n ∈ maskList 16 (3 % 65536), outState (peer 2) n ≠ oLATCHED) ∧
    3 % 65536 &&& trainingLanes (peer 2) = 0 ∧
    targeted rq (peer 2) = true ∧
    (targeted rq3 (stage0 oARMED) = true ∧ outState (stage0 oARMED) (min 0 15) = oARMED ∧ sweepsOn (min 0 15) (stage0 oARMED) = false) ∧
    (targeted rq3 (stage0 oRUN) = true ∧ sourceBarred (stage0 oRUN) (min 0 15) = false ∧ calsOn (min 0 15) (stage0 oRUN) = false) := by
  unfold Live HandleFree
  decide +kernel

theorem hypotheses_ShardsAreTaken :
    16 ≤ (waiting16.kiln.waiting.filter (fun y => y.src == 2)).length ∧
    (waiting16.kiln.waiting.filter (fun y => y.src == 3)).length < 16 ∧
    Running waiting16 ∧
    (nextShard waiting16).isSome = true ∧
    nextShard on = none := by
  unfold Running
  decide +kernel

theorem hypotheses_KilnCommandsComplete :
    Live on ∧
    kindDefined 0 1 = true ∧
    kindDefined (min 10 10) 1 = true ∧
    on.kiln.log = [] ∧
    Running on ∧
    (logged.kiln.log ≠ [] ∧ logged.kiln.logPos < 3) ∧
    3 ≤ { logged with kiln := { logged.kiln with logPos := 3 } }.kiln.logPos ∧
    unitAbsent on (min 2 24) = false := by
  unfold Running Live
  decide +kernel

theorem hypotheses_SuppliesAndPowerComplete :
    Running on ∧
    getF on fPWR_STAT_DAMPER = 0 ∧
    Room 16 on ∧
    getF (putF [(fPWR_STAT_DAMPER, 1)] on) fPWR_STAT_DAMPER = 1 ∧
    on.kiln.standing = [] ∧
    ((1050 : Int) < 1051 ∧ on.pwr.tjWarned = false) ∧
    (1000 : Int) ≤ 1000 ∧
    ((1200 : Int) < 1201 ∧ on.pwr.tjCrit = false) ∧
    (1150 : Int) ≤ 1150 ∧
    Live on ∧
    HandleFree rq on ∧
    getF on fPWR_STAT_STANDBY = 0 ∧
    on.pwr.standby = .awake ∧
    (getF resting fPWR_STAT_STANDBY = 1 ∧ resting.pwr.standby = .gated) ∧
    Live resting ∧
    { resting with pwr := { resting.pwr with dormDue := true } }.pwr.dormDue = true ∧
    { on with pwr := { on.pwr with phase := .dormant } }.pwr.phase = .dormant := by
  unfold Running Live HandleFree Room
  decide +kernel

theorem hypotheses_FullResetsComplete :
    poweredUp on = true ∧
    Running on ∧
    { on with pwr := { on.pwr with softDue := true } }.pwr.softDue = true ∧
    State.reset.pwr.phase = .held ∧
    { on with pwr := { on.pwr with phase := .dormant } }.pwr.phase = .dormant ∧
    Live on := by
  unfold Running Live
  decide +kernel

theorem hypotheses_ControlResetsComplete :
    Live on ∧
    on.kiln.ctlReset = false ∧
    Running on ∧
    { on with kiln := { on.kiln with ctlReset := true } }.kiln.ctlReset = true ∧
    [(⟨2, 4, false⟩ : UnitReset)].find? (fun u => u.unit == 2) = some ⟨2, 4, false⟩ ∧
    { on with kiln := { on.kiln with windows := [⟨2, [2], true⟩] } }.kiln.windows = [⟨2, [2], true⟩] := by
  unfold Running Live
  decide +kernel

theorem hypotheses_StandbyBarsLatching :
    Live resting ∧
    getF resting fTWIN_STAT_ROLE ≠ 2 ∧
    inStandby resting = true ∧
    (portDef resting.oven (min 0 7)).isSome = true ∧
    (hasMod resting = true ∧ hasProt resting = true) ∧
    (aesDef resting.oven 0x50).isSome = true ∧
    (delayDef resting.oven 1).isSome = true ∧
    ((paramDef resting.oven 1).isSome = true ∧ fpIsNaN 0 = false) := by
  unfold Live
  decide +kernel

theorem hypotheses_FabricAndSupervisorComplete :
    Running on ∧
    beatTarget .sup 0x40000000 false 4 on = some (.reg, 0x40000000) ∧
    (lockedOut on .sup .reg = false ∧ grantOf on .reg [.sup] = some .sup) ∧
    (0x1A5F0 : Nat) % 65536 = 0xA5F0 ∧
    getF on (fFAB_HBEAT_COUNT 0) ≠ 1 % 65536 ∧
    (0 : Nat) ∉ on.pwr.hlpStop ∧
    Room 19 on ∧
    { on with lock := some (.dbg, 4) }.lock = some (.dbg, 4) ∧
    Room 15 on ∧
    (startDue up).isSome = true ∧
    on.kiln.resets.any (fun u => u.unit == unitOfAddr 0x40000000) = false := by
  unfold Running Room
  decide +kernel

theorem hypotheses_NvsAndSettingsComplete :
    Running on ∧
    1 % 2 = 1 ∧
    getF on fNVS_STAT_BUSY = 0 ∧
    nvsHeld on = false ∧
    getF (putF [(fNVS_LINE_LINE, 6208)] on) fNVS_LINE_LINE = 6208 ∧
    getF (putF [(fNVS_LINE_LINE, 6207)] on) fNVS_LINE_LINE < 6208 ∧
    getF (putF [(fNVS_STAT_BUSY, 1)] on) fNVS_STAT_BUSY = 1 ∧
    Live on ∧
    0x8000 ≤ 0x8000 ∧
    HandleFree rq on ∧
    Stopped isBootSave on := by
  unfold Running Live HandleFree Stopped
  decide +kernel

theorem hypotheses_UpdatesComplete :
    Live on ∧
    on.upd.session = none ∧
    getF on fUPD_STAT_HPEND = 0 ∧
    HandleFree rq session ∧
    sessionOf session rq 1 = some ⟨1, 0, true, 0x70800000, 64, [], []⟩ ∧
    BitVec.ofNat 32 (crc32 [0x31, 0x32, 0x33, 0x34, 0x35, 0x36, 0x37, 0x38, 0x39]) = (0xCBF43926 : Word) ∧
    0 + 9 ≤ 64 ∧
    ([] : List (Nat × Nat)).any (rangesMeet (0, 9)) = false ∧
    (doing 1 .updWrite).ops.find? (fun x => isUpdWrite x.kind) = some ⟨0, 1, .updWrite⟩ ∧
    Stopped isUpdClose session ∧
    (doing 1 (.updClose 5)).ops.find? (fun y => isUpdClose y.kind) = some ⟨0, 1, .updClose 5⟩ ∧
    Running session ∧
    (getF (putF [(fUPD_STAT_INACT, 3)] on) fUPD_STAT_INACT = 3 ∧ activateBars (putF [(fUPD_STAT_INACT, 3)] on) = false) ∧
    getF on fPWR_STAT_DAMPER = 0 ∧
    ovenEmpty on = true ∧
    (doing 1 .activate).ops.any (fun o => isActivate o.kind) = true ∧
    (getF (putF [(fUPD_STAT_HPEND, 2)] on) fUPD_STAT_HPEND = 2 ∧ getF (putF [(fUPD_STAT_HPEND, 2)] on) fUPD_STAT_MIG ≠ 3) ∧
    on.kiln.ctlReset = false := by
  unfold Running Live HandleFree Stopped
  decide +kernel

theorem hypotheses_WordsFollowTheirRules :
    (65535 : Nat) < 65536 ∧
    fpExp 0x7F800000 = 255 ∧
    fpExp 0x80000001 = 0 ∧
    (fpExp 0x3F800000 ≠ 0 ∧ fpExp 0x3F800000 ≠ 255) ∧
    rq.target = none ∧
    joined on = false ∧
    ((101375 : Nat) < 102400 - 1024 ∧ 102400 - 1024 ≤ (101376 : Nat)) := by
  decide +kernel

theorem hypotheses_HostCommandsLeave :
    (asks (.sysNop rq) = true ∧ asks (.clkStatus rq 0) = true) ∧
    stages (.stageSet rq 0 0 []) = true ∧
    starts (.clkAlign rq) = true := by
  decide +kernel

theorem hypotheses_AudioEventsLeave :
    portEvent (.portLost 0 0) = true ∧
    bakeEvent (.preFadeEnd 0) = true := by
  decide +kernel

theorem hypotheses_StageEventsLeave :
    stageEvent (.bus 0 0) = true := by
  decide +kernel

theorem hypotheses_LinkEventsLeave :
    laneEvent (.trunkLost 0 0) = true ∧
    macEvent (.ethLink 0 0 ⟨true, true, true⟩) = true ∧
    refereeEvent (.refLost 0) = true := by
  decide +kernel

theorem hypotheses_ClockAndSupplyEventsLeave :
    clockEvent (.rootLock 0) = true ∧
    supplyEvent (.tapReset 0) = true := by
  decide +kernel

end Sys2Proof.Tests
end

section
/-! What the units that a variant lacks answer (R7), and how the fields of a register answer a read and a write (R9). -/
namespace Sys2Proof.Machine

open Sys2Proof

/-! ## Absent units (R7) -/

/-- The units that the variant fuses take away. -/
theorem unitAbsent_iff (u : Nat) (s : State) : unitAbsent s u = true ↔
    (s.fuses.variant = .m ∧ (u = 11 ∨ u = 12)) ∨ (s.fuses.variant = .n ∧ u = 13) := by
  cases h : s.fuses.variant <;> simp [unitAbsent, hasMod, hasProt, hasTwin, h]

theorem unitAbsent_begin (c u : Nat) (s : State) : unitAbsent (begin_ c s) u = unitAbsent s u := rfl

section
variable {a : Nat} {s : State}

/-- The Kiln is in every variant. -/
theorem ne_kilnLog_of_absent (h : unitAbsent s (unitOfAddr a) = true) : a ≠ rKILN_LOG := by
  rintro rfl
  have hu : unitOfAddr rKILN_LOG = 1 := rfl
  rw [hu, unitAbsent_iff] at h
  omega

theorem regDecodes_of_absent (h : unitAbsent s (unitOfAddr a) = true) : regDecodes s a = true := by
  simp [regDecodes, h]

theorem peekReg_of_absent (h : unitAbsent s (unitOfAddr a) = true) : peekReg s a = 0 := if_pos h

theorem readWord_of_absent (h : unitAbsent s (unitOfAddr a) = true) : readWord s a = 0 := by
  rw [readWord, if_neg (ne_kilnLog_of_absent h), peekReg_of_absent h, Nat.zero_sub]

theorem afterRead_of_absent (h : unitAbsent s (unitOfAddr a) = true) : afterRead a s = s := if_pos h

theorem appliedWord_of_absent (h : unitAbsent s (unitOfAddr a) = true) : appliedWord s a = 0 := if_pos h

theorem busWrite_of_absent (h : unitAbsent s (unitOfAddr a) = true) (hr : inRegs a = true) (m : Master) (v : Nat) :
    busWrite m a v s = s := by
  simp [busWrite, hr, regDecodes_of_absent h, h]

theorem readStep_of_absent (h : unitAbsent s (unitOfAddr a) = true) (b : List Byte) :
    readStep ⟨s, b, none⟩ a = ⟨s, b ++ be4 0, none⟩ := by
  simp [readStep, regDecodes_of_absent h, afterRead_of_absent h, readWord_of_absent h]

theorem writeStep_of_absent (h : unitAbsent s (unitOfAddr a) = true) (hr : inRegs a = true) (v : Nat) (b : List Byte) :
    writeStep ⟨s, b, none⟩ (a, v) = ⟨s, b ++ be4 0, none⟩ := by
  simp [writeStep, regDecodes_of_absent h, busWrite_of_absent h hr, appliedWord_of_absent h]

end

/-! ## Register commands of one word (R65) -/

theorem live_begin {s : State} (h : Live s) (c : Nat) : Live (begin_ c s) := h

theorem regSpan_one {a : Nat} (h : inRegs a = true) : regSpan a 1 = [a] := by
  obtain ⟨-, hle⟩ : 0x40000000 ≤ a ∧ a ≤ regTop := by simpa [inRegs] using h
  simp [regSpan, hle]

theorem exec_regRead (r : Req) (a : Word) (n : Nat) (s : State) :
    exec (.regRead r a n) s = .next (after s (opRegRead r a n (begin_ r.c s))) := rfl

theorem exec_regWrite (r : Req) (a : Word) (ws : List Word) (s : State) :
    exec (.regWrite r a ws) s = .next (afterMem s (opRegWrite r a ws (begin_ r.c s))) := rfl

/-- A live REG_READ of one word reads the register at its address. -/
theorem opRegRead_one {s : State} (hl : Live s) (r : Req) (a : Word) (hr : inRegs (a.toNat / 4 * 4) = true) :
    opRegRead r a 1 s = replyWalk r 0x0100 (readStep ⟨s, [], none⟩ (a.toNat / 4 * 4)) := by
  have hone : clampN 1 256 1 = 1 := rfl
  rw [opRegRead, command_live hl _ _ _ _ (by simp [deniedIf, hr]), hone, regSpan_one hr]
  rfl

/-- A live REG_WRITE of one word writes the register at its address. -/
theorem opRegWrite_one {s : State} (hl : Live s) (r : Req) (a w : Word) (hr : inRegs (a.toNat / 4 * 4) = true) :
    opRegWrite r a [w] s = replyWalk r 0x0101 (writeStep ⟨s, [], none⟩ (a.toNat / 4 * 4, w.toNat)) := by
  rw [opRegWrite, command_live hl _ _ _ _ (by simp [deniedIf, hr]), List.length_singleton, regSpan_one hr]
  rfl

/-- Settles O18: the equations of each access to an absent unit, and the two commands by their one step. -/
theorem absentUnitsReadZero : Obligations.AbsentUnitsReadZero := by
  refine ⟨unitAbsent_iff, fun a v m s h => ?_, fun r a s hl hr h => ⟨?_, fun w => ?_⟩⟩
  · exact ⟨regDecodes_of_absent h, readWord_of_absent h, afterRead_of_absent h, fun hr => busWrite_of_absent h hr m v⟩
  · rw [← unitAbsent_begin r.c] at h
    rw [Ends, exec_regRead, opRegRead_one (live_begin hl r.c) r a hr, readStep_of_absent h]
    rfl
  · rw [← unitAbsent_begin r.c] at h
    rw [EndsMem, exec_regWrite, opRegWrite_one (live_begin hl r.c) r a w hr, writeStep_of_absent h hr]
    rfl

/-! ## The fields of a register (R9, R128) -/

/-- The place of a field of the register at `a`. -/
def fieldIn (a : Nat) (f : FieldRow) : Fld := ⟨a, f.lo, f.hi + 1 - f.lo⟩

/-- What a read does to one field: an RC field keeps the events of the read's own cycle. -/
def clearField (a : Nat) (s t : State) (f : FieldRow) : State :=
  if f.acc = .rc then setF (fieldIn a f) (min (freshCount s (fieldIn a f)) (getF s (fieldIn a f))) t else t

/-- What a write of `v` does to one field. -/
def storeField (a v : Nat) (s t : State) (f : FieldRow) : State :=
  match f.acc with
  | .rw => setF (fieldIn a f) (clampField f (bits v f.hi f.lo)) t
  | .w1c =>
    if freshCount s (fieldIn a f) = 0 then
      setF (fieldIn a f) (getF t (fieldIn a f) - (getF t (fieldIn a f) &&& bits v f.hi f.lo)) t
    else t
  | _ => t

theorem clearRc_eq_foldl (a : Nat) (s : State) : clearRc a s = (fieldsOf a).foldl (clearField a s) s := rfl

theorem writeFields_eq_foldl (a v : Nat) (s : State) : writeFields a v s = (fieldsOf a).foldl (storeField a v s) s := rfl

theorem key_fieldIn_ne (a : Nat) {x y : FieldRow} (h : x.lo ≠ y.lo) : (fieldIn a x).key ≠ (fieldIn a y).key := by
  simp only [fieldIn, Fld.key, fieldKey]
  omega

/-- A step over the fields of the register at `a` changes no field but the one it is given. -/
def ChangesOnlyItsField (a : Nat) (step : State → FieldRow → State) : Prop :=
  ∀ (t : State) (f : FieldRow) (g : Fld), (fieldIn a f).key ≠ g.key → getF (step t f) g = getF t g

theorem clearField_changesOnlyItsField (a : Nat) (s : State) : ChangesOnlyItsField a (clearField a s) := by
  intro t f g h
  unfold clearField
  split
  · exact getF_setF_ne _ _ _ _ h.symm
  · rfl

theorem storeField_changesOnlyItsField (a v : Nat) (s : State) : ChangesOnlyItsField a (storeField a v s) := by
  intro t f g h
  unfold storeField
  split
  · exact getF_setF_ne _ _ _ _ h.symm
  · split
    · exact getF_setF_ne _ _ _ _ h.symm
    · rfl
  · rfl

section
variable {a : Nat} {step : State → FieldRow → State}

/-- A walk over fields leaves every field that is not among them. -/
theorem getF_foldl_of_ne (hstep : ChangesOnlyItsField a step) {l : List FieldRow} {g : Fld}
    (h : ∀ f ∈ l, (fieldIn a f).key ≠ g.key) (s : State) : getF (l.foldl step s) g = getF s g := by
  induction l generalizing s with
  | nil => rfl
  | cons x xs ih =>
    obtain ⟨hx, hxs⟩ := List.forall_mem_cons.1 h
    exact (ih hxs _).trans (hstep s x g hx)

/-- What a walk over fields of different places leaves in one of them is what its own step leaves there, taken in a state in which it is
as it was. -/
theorem getF_foldl_of_mem (hstep : ChangesOnlyItsField a step) {l : List FieldRow} {f : FieldRow} (hf : f ∈ l)
    (hl : l.Pairwise (fun x y => x.lo ≠ y.lo)) (s : State) :
    ∃ t, getF t (fieldIn a f) = getF s (fieldIn a f) ∧ getF (l.foldl step s) (fieldIn a f) = getF (step t f) (fieldIn a f) := by
  induction l generalizing s with
  | nil => cases hf
  | cons x xs ih =>
    obtain ⟨hx, hxs⟩ := List.pairwise_cons.1 hl
    obtain rfl | hf := List.mem_cons.1 hf
    · exact ⟨s, rfl, getF_foldl_of_ne hstep (fun y hy => key_fieldIn_ne a (hx y hy).symm) _⟩
    · obtain ⟨t, ht, hlast⟩ := ih hf hxs (step s x)
      exact ⟨t, ht.trans (hstep s x _ (key_fieldIn_ne a (hx f hf))), hlast⟩

end

theorem getF_clearRc_of_ne {a : Nat} {g : Fld} (h : ∀ f ∈ fieldsOf a, (fieldIn a f).key ≠ g.key) (s : State) :
    getF (clearRc a s) g = getF s g :=
  getF_foldl_of_ne (clearField_changesOnlyItsField a s) h s

theorem getF_writeFields_of_ne {a : Nat} {g : Fld} (h : ∀ f ∈ fieldsOf a, (fieldIn a f).key ≠ g.key) (v : Nat) (s : State) :
    getF (writeFields a v s) g = getF s g :=
  getF_foldl_of_ne (storeField_changesOnlyItsField a v s) h s

section
variable {a : Nat} {f : FieldRow}

theorem getF_clearRc_rc (hf : f ∈ fieldsOf a) (hl : (fieldsOf a).Pairwise (fun x y => x.lo ≠ y.lo)) (hacc : f.acc = .rc) (s : State) :
    getF (clearRc a s) (fieldIn a f) =
      min (freshCount s (fieldIn a f)) (getF s (fieldIn a f)) % 2 ^ (fieldIn a f).width := by
  obtain ⟨t, -, h⟩ := getF_foldl_of_mem (clearField_changesOnlyItsField a s) hf hl s
  rw [clearRc_eq_foldl, h, clearField, if_pos hacc, getF_setF_self]

theorem getF_writeFields_rw (hf : f ∈ fieldsOf a) (hl : (fieldsOf a).Pairwise (fun x y => x.lo ≠ y.lo)) (hacc : f.acc = .rw)
    (v : Nat) (s : State) :
    getF (writeFields a v s) (fieldIn a f) = clampField f (bits v f.hi f.lo) % 2 ^ (fieldIn a f).width := by
  obtain ⟨t, -, h⟩ := getF_foldl_of_mem (storeField_changesOnlyItsField a v s) hf hl s
  simp [writeFields_eq_foldl, h, storeField, hacc]

theorem getF_writeFields_w1c (hf : f ∈ fieldsOf a) (hl : (fieldsOf a).Pairwise (fun x y => x.lo ≠ y.lo)) (hacc : f.acc = .w1c)
    (v : Nat) (s : State) :
    getF (writeFields a v s) (fieldIn a f) =
      if freshCount s (fieldIn a f) = 0 then
        (getF s (fieldIn a f) - (getF s (fieldIn a f) &&& bits v f.hi f.lo)) % 2 ^ (fieldIn a f).width
      else getF s (fieldIn a f) := by
  obtain ⟨t, ht, h⟩ := getF_foldl_of_mem (storeField_changesOnlyItsField a v s) hf hl s
  rw [writeFields_eq_foldl, h]
  simp only [storeField, hacc]
  split
  · rw [getF_setF_self, ht]
  · exact ht

end

theorem showField_wo {f : FieldRow} (h : f.acc = .wo) (s : State) (a : Nat) : showField s a f = 0 := if_pos h

/-- Settles O19: reads and writes walk over the fields of one register, each step changing its own field alone. -/
theorem registerFieldsAnswer : Obligations.RegisterFieldsAnswer := by
  refine ⟨fun a s g h => ⟨getF_clearRc_of_ne h s, fun v => getF_writeFields_of_ne h v s⟩, fun s a f h => showField_wo h s a,
    fun a v f s hf hl => ⟨fun hrc => getF_clearRc_rc hf hl hrc s, fun hrw => getF_writeFields_rw hf hl hrw v s,
      fun hw hz => ?_, fun hw hz => ?_⟩⟩
  · exact (getF_writeFields_w1c hf hl hw v s).trans (if_pos hz)
  · exact (getF_writeFields_w1c hf hl hw v s).trans (if_neg hz)

end Sys2Proof.Machine
end

section
/-! The words the engine makes and takes: CRCs and the items that carry them (R44, R45), claims (R306), the ingress check (R26), ramps (R85,
R135) and the boundary of a staging write (R18). -/
namespace Sys2Proof.Machine
open Sys2Proof

/-! ## CRCs and the items that carry them (R44, R45) -/

theorem iter_succ_lt {f : Nat → Nat} {b : Nat} (hf : ∀ c, f c < b) (n a : Nat) : iter f (n + 1) a < b := by
  induction n generalizing a with
  | zero => exact hf a
  | succ n ih => exact ih (f a)

theorem crcBit_lt {w poly : Nat} (hp : poly < 2 ^ w) (c : Nat) : crcBit w poly c < 2 ^ w := by
  have hc : c * 2 % 2 ^ w < 2 ^ w := Nat.mod_lt _ (Nat.two_pow_pos w)
  unfold crcBit
  split
  · exact Nat.xor_lt_two_pow hc hp
  · exact hc

/-- The CRC-16 fits the two bytes that carry it. -/
theorem crc16_lt (bs : List Byte) : crc16 bs < 2 ^ 16 :=
  List.foldlRecOn (motive := (· < 2 ^ 16)) bs (crcByte 16 0x1021) (by decide)
    fun _ _ _ _ => iter_succ_lt (crcBit_lt (by decide)) 7 _

theorem length_be2 (n : Nat) : (be2 n).length = 2 := rfl

theorem beNat_be2 {n : Nat} (h : n < 2 ^ 16) : beNat (be2 n) = n := by
  simp only [be2, beBytes, beNat, byteOf, List.foldl_cons, List.foldl_nil, BitVec.toNat_ofNat]
  omega

/-- The 14 bytes before the CRC of an item's header (R44). -/
def itemHeader (op : Nat) (tag : Half) (flags chn epoch : Nat) (payload : List Byte) : List Byte :=
  [0xA5, 0xC3] ++ be2 op ++ be2 tag.toNat ++ be2 payload.length ++ [byteOf flags, byteOf chn, byteOf epoch, 0, 0, 0]

section
variable (op fl ch ep : Nat) (tag : Half) (p : List Byte)

theorem length_itemHeader : (itemHeader op tag fl ch ep p).length = 14 := rfl

theorem makeItem_eq : makeItem op tag fl ch ep p =
    itemHeader op tag fl ch ep p ++ (be2 (crc16 (itemHeader op tag fl ch ep p)) ++ (p ++ (if fl.testBit 2 then be4 (crc32 p) else []))) := by
  simp only [makeItem, itemHeader, List.append_assoc]

theorem take_makeItem : (makeItem op tag fl ch ep p).take 14 = itemHeader op tag fl ch ep p := by
  rw [makeItem_eq, List.take_left' (length_itemHeader ..)]

theorem drop_makeItem : (makeItem op tag fl ch ep p).drop 14 =
    be2 (crc16 (itemHeader op tag fl ch ep p)) ++ (p ++ (if fl.testBit 2 then be4 (crc32 p) else [])) := by
  rw [makeItem_eq, List.drop_left' (length_itemHeader ..)]

/-- The header's CRC stands in bytes 14 and 15 (R45). -/
theorem n2_makeItem : n2 (makeItem op tag fl ch ep p) 14 = crc16 ((makeItem op tag fl ch ep p).take 14) := by
  rw [n2, num, sub, drop_makeItem, List.take_left' (length_be2 _), beNat_be2 (crc16_lt _), take_makeItem]

/-- The payload stands after the header, and its CRC after it where the item carries one (R45). -/
theorem drop_makeItem_payload :
    (makeItem op tag fl ch ep p).drop 16 = p ++ (if fl.testBit 2 then be4 (crc32 p) else []) := by
  rw [show 16 = 14 + 2 from rfl, ← List.drop_drop, drop_makeItem, List.drop_left' (length_be2 _)]

end

/-! ## Claims (R306) -/

theorem claimHigher_iff (a b : Nat) : claimHigher a b = true ↔
    a ≠ 0 ∧ (b = 0 ∨ (1 ≤ (a + 65536 - b) % 65536 ∧ (a + 65536 - b) % 65536 ≤ 32767)) := by
  by_cases ha : a = 0
  · simp [claimHigher, ha]
  · by_cases hb : b = 0 <;> simp [claimHigher, ha, hb]

theorem claimNext_eq {a : Nat} (h : a < 65536) : claimNext a = if a = 65535 then 1 else a + 1 := by
  unfold claimNext
  split <;> split <;> omega

/-! ## The ingress check (R26) -/

theorem ingress_e255 {w : Word} (h : fpExp w = 255) : ingress w = ⟨0, true⟩ := by
  simp [ingress, fpIsE255, h]

/-- A word with exponent and fraction 0 is its sign alone. -/
theorem eq_sign_of_fpExp_fpFrac {w : Word} (he : fpExp w = 0) (hf : fpFrac w = 0) : w = if fpSign w then 0x80000000 else 0 := by
  have hs : fpSign w = decide (w.toNat / 2 ^ 31 % 2 = 1) := Nat.testBit_eq_decide_div_mod_eq
  have hw : w.toNat < 2 ^ 32 := w.isLt
  unfold fpExp at he
  unfold fpFrac at hf
  by_cases h1 : w.toNat / 2 ^ 31 % 2 = 1
  · rw [hs, decide_eq_true h1, if_pos rfl]
    exact BitVec.eq_of_toNat_eq (show w.toNat = 2 ^ 31 by omega)
  · rw [hs, decide_eq_false h1]
    exact BitVec.eq_of_toNat_eq (show w.toNat = 0 by omega)

theorem ingress_exp_zero {w : Word} (h : fpExp w = 0) : ingress w = ⟨if fpSign w then 0x80000000 else 0, false⟩ := by
  have h255 : fpIsE255 w = false := by simp [fpIsE255, h]
  by_cases hf : fpFrac w = 0
  · have hsub : fpIsSub w = false := by simp [fpIsSub, hf]
    rw [← eq_sign_of_fpExp_fpFrac h hf]
    simp [ingress, h255, hsub]
  · have hsub : fpIsSub w = true := by simp [fpIsSub, h, hf]
    cases hs : fpSign w <;> simp [ingress, h255, hsub, hs, fpMake]

theorem ingress_normal {w : Word} (h0 : fpExp w ≠ 0) (h255 : fpExp w ≠ 255) : ingress w = ⟨w, false⟩ := by
  simp [ingress, fpIsE255, fpIsSub, h0, h255]

/-! ## Ramps (R85, R135) -/

theorem rampAt_of_end {l n : Nat} (h : l ≤ n + 1) (a t : Word) : rampAt a t l n = t := if_pos h

theorem rampNow_steady (v : Word) : rampNow (steady v) = v := rfl

/-- Each sample of a new ramp is a step of the line from the present value to the target. -/
theorem rampSample_rampTo (t : Word) (l n : Nat) (p : Ramp) : rampSample (rampTo t l p) n =
    if l ≤ n + 1 then t else fpAdd (rampNow p) (fpMul (fpSub t (rampNow p)) (fpRatio ((n : Int) + 1) l)) := by
  by_cases h : l ≤ n
  · simp [rampSample, rampTo, h, Nat.le_succ_of_le h]
  · simp [rampSample, rampTo, rampAt, h]

/-- After `n + 1` samples the present value is that of sample `n`. -/
theorem rampNow_rampAdvance (n : Nat) (p : Ramp) : rampNow (rampAdvance (n + 1) p) = rampSample p n := by
  unfold rampAdvance
  split
  case isTrue hend =>
    rw [rampNow_steady, rampSample]
    split
    · rfl
    · exact (rampAt_of_end hend _ _).symm
  case isFalse hgo =>
    have hn : ¬ p.len ≤ p.pos + n := by omega
    simp [rampNow, rampSample, hgo, hn]

/-! ## The boundary of a staging write (R18) -/

theorem dueOf_untargeted {r : Req} {s : State} (ht : r.target = none) (hj : joined s = false) :
    dueOf r s = batch s + if r.c < 101376 then 1 else 2 := by
  simp [dueOf, ht, hj]

/-- Settles O55: the law of each rule, one after the other. -/
theorem wordsFollowTheirRules : Obligations.WordsFollowTheirRules := by
  refine ⟨⟨by decide +kernel, by decide +kernel⟩, fun op fl ch ep tag p => ⟨n2_makeItem .., drop_makeItem_payload ..⟩,
    fun a b ha _ => ⟨claimHigher_iff a b, claimNext_eq ha⟩, fun w => ⟨ingress_e255, ingress_exp_zero, ingress_normal⟩,
    fun t l n p => ⟨rampSample_rampTo t l n p, rampNow_rampAdvance n p⟩, fun r s ht hj => ?_⟩
  rw [dueOf_untargeted ht hj]
  exact ⟨fun h => by rw [if_pos h], fun h => by rw [if_neg (Nat.not_lt.2 h)]⟩

end Sys2Proof.Machine
end

section
/-! The batch boundary (R17 to R20), the issue of a bundle by a DSP core (R98, R99, R108) and the overrun of a core (R89, R90). -/
namespace Sys2Proof.Machine
open Sys2Proof

theorem running_begin {s : State} (h : Running s) (c : Nat) : Running (begin_ c s) := h

/-! ## The last of several staged writes (R20, R167) -/

/-- What the last-only rule leaves of a write, given the writes after it. -/
def lastKept (w : StagedWrite) (later : List StagedWrite) : Option StagedWrite :=
  if (stagedPlace w).isSome && later.any (fun v => stagedPlace v == stagedPlace w) then none else restGate w later

theorem lastOnly_cons (w : StagedWrite) (t : List StagedWrite) : lastOnly (w :: t) = (lastKept w t).toList ++ lastOnly t := by
  rw [lastOnly, lastKept]
  split <;> rfl

/-- A property of staged writes that what is left of a write shares with it. -/
def SharedWithRest (p : StagedWrite → Bool) : Prop := ∀ v later x, lastKept v later = some x → p x = p v

section
variable {p : StagedWrite → Bool}

/-- Of writes without a property, none with it is left. -/
theorem filter_lastOnly_of_none (hp : SharedWithRest p) {m : List StagedWrite} (hm : ∀ v ∈ m, p v = false) :
    (lastOnly m).filter p = [] := by
  induction m with
  | nil => rfl
  | cons v t ih =>
    obtain ⟨hv, ht⟩ := List.forall_mem_cons.1 hm
    rw [lastOnly_cons, List.filter_append, ih ht, List.append_nil]
    cases hk : lastKept v t with
    | none => rfl
    | some x => simp [hp v t x hk, hv]

/-- Where a write is left whole and drops every earlier one with its property, it is the one with the property that is left. -/
theorem filter_lastOnly_append (hp : SharedWithRest p) {w : StagedWrite} {m : List StagedWrite} (hw : p w = true)
    (hkeep : lastKept w m = some w) (hdrop : ∀ v later, p v = true → w ∈ later → lastKept v later = none)
    (hm : ∀ v ∈ m, p v = false) (l : List StagedWrite) : (lastOnly (l ++ w :: m)).filter p = [w] := by
  induction l with
  | nil => simp [lastOnly_cons, hkeep, hw, filter_lastOnly_of_none hp hm]
  | cons v t ih =>
    rw [List.cons_append, lastOnly_cons, List.filter_append, ih]
    cases hk : lastKept v (t ++ w :: m) with
    | none => rfl
    | some x =>
      have hmem : w ∈ t ++ w :: m := List.mem_append_right t List.mem_cons_self
      have hv : p v = false := Bool.eq_false_iff.2 fun hv => nomatch hk.symm.trans (hdrop v _ hv hmem)
      have hx : p x = false := (hp v _ x hk).trans hv
      rw [Option.toList_some, List.filter_cons_of_neg (Bool.eq_false_iff.1 hx)]
      rfl

end

/-- Does a write start or stop port `n`? -/
def startsOrStops (n : Nat) : StagedWrite → Bool
  | .gate p a _ _ => p == n && decide (a ≤ 1)
  | _ => false

/-- The channels of port `n` that some of these writes name. -/
def namedBy (n : Nat) (later : List StagedWrite) : Nat := later.foldl (fun m v => m ||| gateNames v n) 0

theorem namedBy_eq_zero {n : Nat} {later : List StagedWrite} (h : ∀ v ∈ later, gateNames v n = 0) : namedBy n later = 0 :=
  List.foldlRecOn (motive := (· = 0)) later _ rfl fun m hm v hv => by rw [hm, h v hv]; rfl

theorem restGate_gate (n a k x : Nat) (later : List StagedWrite) : restGate (.gate n a k x) later =
    if a ≤ 1 then (if later.any (startsOrStops n) then none else some (.gate n a k (maskAndNot x (namedBy n later))))
    else if maskAndNot x (namedBy n later) = 0 then none else some (.gate n a k (maskAndNot x (namedBy n later))) := rfl

/-- What is left of a write is that write, or the same gate request for fewer channels. -/
theorem lastKept_some {v x : StagedWrite} {later : List StagedWrite} (h : lastKept v later = some x) :
    x = v ∨ ∃ n a k y z, v = .gate n a k y ∧ x = .gate n a k z := by
  unfold lastKept at h
  split at h
  · cases h
  · cases v with
    | gate n a k y =>
      rw [restGate_gate] at h
      refine .inr ⟨n, a, k, y, maskAndNot y (namedBy n later), rfl, ?_⟩
      split at h <;> exact (Option.some.inj (Option.ite_none_left_eq_some.1 h).2).symm
    | _ => exact .inl (Option.some.inj h).symm

theorem sharedWithRest_place (o : Option (Nat × Nat)) : SharedWithRest (fun v => stagedPlace v == o) := by
  intro v later x h
  obtain rfl | ⟨n, a, k, y, z, rfl, rfl⟩ := lastKept_some h <;> rfl

theorem sharedWithRest_startsOrStops (n : Nat) : SharedWithRest (startsOrStops n) := by
  intro v later x h
  obtain rfl | ⟨n, a, k, y, z, rfl, rfl⟩ := lastKept_some h <;> rfl

theorem restGate_of_place {w : StagedWrite} (h : (stagedPlace w).isSome = true) (later : List StagedWrite) :
    restGate w later = some w := by
  cases w with
  | gate => cases h
  | _ => rfl

/-- Of the writes to one place the last counts (R20). -/
theorem lastOnly_place {w : StagedWrite} (hw : (stagedPlace w).isSome = true) {m : List StagedWrite}
    (hm : ∀ v ∈ m, stagedPlace v ≠ stagedPlace w) (l : List StagedWrite) :
    (lastOnly (l ++ w :: m)).filter (fun v => stagedPlace v == stagedPlace w) = [w] := by
  refine filter_lastOnly_append (sharedWithRest_place _) (beq_self_eq_true _) ?keep ?drop (fun v hv => beq_false_of_ne (hm v hv)) l
  case keep =>
    have hnone : m.any (fun v => stagedPlace v == stagedPlace w) = false := by simpa using hm
    rw [lastKept, hnone, Bool.and_false, restGate_of_place hw]
    rfl
  case drop =>
    intro v later hv hmem
    have hplace : stagedPlace v = stagedPlace w := eq_of_beq hv
    have hany : later.any (fun u => stagedPlace u == stagedPlace v) = true :=
      List.any_eq_true.2 ⟨w, hmem, by rw [hplace]; exact beq_self_eq_true _⟩
    rw [lastKept, hplace, hw, ← hplace, hany]
    rfl

theorem startsOrStops_iff {n : Nat} {v : StagedWrite} : startsOrStops n v = true ↔ ∃ a k x, v = .gate n a k x ∧ a ≤ 1 := by
  constructor
  · intro h
    cases v with
    | gate p a k x =>
      obtain ⟨hp, ha⟩ := (Bool.and_eq_true _ _).mp h
      exact ⟨a, k, x, by rw [eq_of_beq hp], of_decide_eq_true ha⟩
    | _ => cases h
  · rintro ⟨a, k, x, rfl, ha⟩
    simp only [startsOrStops, beq_self_eq_true, Bool.true_and, decide_eq_true ha]

theorem lastKept_gate (n a k x : Nat) (later : List StagedWrite) : lastKept (.gate n a k x) later = restGate (.gate n a k x) later := rfl

/-- Of the starts and stops of one port the last counts (R167). -/
theorem lastOnly_startsOrStops {n a : Nat} (k x : Nat) (ha : a ≤ 1) {m : List StagedWrite}
    (hm : ∀ v ∈ m, gateNames v n = 0 ∧ startsOrStops n v = false) (l : List StagedWrite) :
    (lastOnly (l ++ .gate n a k x :: m)).filter (startsOrStops n) = [.gate n a k x] := by
  have hw : startsOrStops n (.gate n a k x) = true := startsOrStops_iff.2 ⟨a, k, x, rfl, ha⟩
  refine filter_lastOnly_append (sharedWithRest_startsOrStops n) hw ?keep ?drop (fun v hv => (hm v hv).2) l
  case keep =>
    have hnone : m.any (startsOrStops n) = false := List.any_eq_false.2 fun v hv => by simp [(hm v hv).2]
    have hmask : maskAndNot x 0 = x := by simp [maskAndNot]
    rw [lastKept_gate, restGate_gate, if_pos ha, hnone, namedBy_eq_zero fun v hv => (hm v hv).1, hmask]
    rfl
  case drop =>
    intro v later hv hmem
    obtain ⟨b, j, y, rfl, hb⟩ := startsOrStops_iff.1 hv
    rw [lastKept_gate, restGate_gate, if_pos hb, if_pos (List.any_eq_true.2 ⟨_, hmem, hw⟩)]

/-! ## What counters, shards and core events leave -/

theorem getF_bumpN_self (f : Fld) (n : Nat) (s : State) : getF (bumpN f n s) f = min (2 ^ f.width - 1) (getF s f + n) := by
  have hpos : 0 < 2 ^ f.width := Nat.two_pow_pos f.width
  rw [bumpN, getF_setF_self]
  split
  · rw [Nat.mod_eq_of_lt (by omega)]
    omega
  · rw [Nat.mod_eq_of_lt (by omega)]
    omega

theorem getF_bump_self (f : Fld) (s : State) : getF (bump f s) f = min (2 ^ f.width - 1) (getF s f + 1) := getF_bumpN_self f 1 s

theorem getF_bump_ne {f g : Fld} (h : g.key ≠ f.key) (s : State) : getF (bump f s) g = getF s g := getF_setF_ne f g _ s h

/-- A shard sent changes no field but the count of dropped shards (R337). -/
theorem getF_send {g : Fld} (h : g.key ≠ fKILN_CNT_DROP.key) (src inst cls kind ctx : Nat) (s : State) :
    getF (send src inst cls kind ctx s) g = getF s g := by
  unfold send enqueue
  split
  · exact getF_bump_ne h s
  · rfl

theorem core_send (src inst cls kind ctx : Nat) (s : State) (n : Nat) : core_ (send src inst cls kind ctx s) n = core_ s n := by
  unfold send enqueue
  split <;> rfl

theorem core_setF (f : Fld) (v : Nat) (s : State) (n : Nat) : core_ (setF f v s) n = core_ s n := rfl

theorem core_bump (f : Fld) (s : State) (n : Nat) : core_ (bump f s) n = core_ s n := rfl

/-! ## Halts and mutes (R90, R99, R126) -/

/-- The keys of the fields in which a halt of core `n` shows itself. -/
def haltKeys (n : Nat) : List Nat := [fCORE_STAT_ANYHALT.key, (fCORE_HALT_CORES (n / 32)).key, (fCORE_LOAD_BG n).key]

theorem mem_haltKeys {n k : Nat} : k ∈ haltKeys n ↔
    k = 0x40050000 * 32 + 1 ∨ k = (0x40050010 + 4 * (n / 32)) * 32 ∨ k = (0x40051008 + 16 * n) * 32 + 30 := by
  simp [haltKeys, Fld.key, fieldKey, fCORE_STAT_ANYHALT, rCORE_STAT, fCORE_HALT_CORES, rCORE_HALT, fCORE_LOAD_BG, rCORE_LOAD]

theorem getF_haltCore {n : Nat} {g : Fld} (h : g.key ∉ haltKeys n) (s : State) : getF (haltCore n s) g = getF s g := by
  simp only [haltKeys, List.mem_cons, not_or] at h
  obtain ⟨hany, hcores, hbg, -⟩ := h
  rw [haltCore, getF_setF_ne _ _ _ _ hbg, setMaskBit, getF_setF_ne _ _ _ _ hcores, getF_setF_ne _ _ _ _ hany]
  rfl

/-- A halted core, its background context abandoned (R126). -/
def haltedCore (c : CoreSt) : CoreSt :=
  { c with ctx := .halted, bgOk := false, branch := none, bgBranch := none, last := 0, sent := setBit c.sent 8 true }

theorem core_haltCore (n : Nat) (s : State) : core_ (haltCore n s) n = haltedCore (core_ s n) := by
  rw [haltCore, setMaskBit, core_setF, core_setF, core_setF, core__setCore_self, haltedCore]

theorem core_hardMute (m cls : Nat) (s : State) (n : Nat) : core_ (hardMute m cls s) n = core_ s n := rfl

theorem hard_hardMute (m cls : Nat) (s : State) : (tray (hardMute m cls s) m).hard = true :=
  congrArg TraySt.hard (tray_setTray_self m _ s)

theorem getF_hardMute_muted (m cls : Nat) (s : State) : getF (hardMute m cls s) fBAKE_STAT_MUTED = 1 := getF_setF_self _ _ _

/-- A mute changes no field but the two that show mutes. -/
theorem getF_hardMute {g : Fld} (h1 : g.key ≠ fBAKE_STAT_MUTED.key) (h2 : g.key ≠ fBAKE_MUTEMASK_TRAYS.key) (m cls : Nat) (s : State) :
    getF (hardMute m cls s) g = getF s g := by
  rw [hardMute, getF_setF_ne _ _ _ _ h1, setMaskBit, getF_setF_ne _ _ _ _ h2]
  rfl

/-! ## The overrun of a core (R89, R90) -/

theorem coreTray_of_coreDef {s : State} {n : Nat} {t : TrayDef} {d : CoreDef} (h : coreDef s.oven n = some (t, d)) :
    coreTray s n = some t := by
  rw [coreTray, h]
  rfl

section
variable {n : Nat} {s : State} {t : TrayDef}

theorem overrunCore_eq (h : coreTray s n = some t) : overrunCore n s =
    hardMute t.num 2 (bump fBAKE_CNT_OVERRUN (send 5 n 2 1 (coreCtx s n true (core_ s n).pc) (haltCore n s))) := by
  rw [overrunCore, h]

theorem core_overrunCore (h : coreTray s n = some t) : core_ (overrunCore n s) n = haltedCore (core_ s n) := by
  rw [overrunCore_eq h, core_hardMute, core_bump, core_send, core_haltCore]

theorem hard_overrunCore (h : coreTray s n = some t) : (tray (overrunCore n s) t.num).hard = true := by
  rw [overrunCore_eq h, hard_hardMute]

theorem getF_overrunCore_muted (h : coreTray s n = some t) : getF (overrunCore n s) fBAKE_STAT_MUTED = 1 := by
  rw [overrunCore_eq h, getF_hardMute_muted]

theorem getF_overrunCore_count (h : coreTray s n = some t) : getF (overrunCore n s) fBAKE_CNT_OVERRUN =
    min (2 ^ fBAKE_CNT_OVERRUN.width - 1) (getF s fBAKE_CNT_OVERRUN + 1) := by
  have hkey : fBAKE_CNT_OVERRUN.key = 0x40040018 * 32 + 16 := rfl
  have hhalt : fBAKE_CNT_OVERRUN.key ∉ haltKeys n := by
    rw [mem_haltKeys, hkey]
    omega
  rw [overrunCore_eq h, getF_hardMute (by decide) (by decide), getF_bump_self, getF_send (by decide), getF_haltCore hhalt]

end

/-- The overrun of a core past its deadline: halt, mute and count. -/
theorem exec_overrun {c : Nat} {n : Fin 128} {t : TrayDef} {d : CoreDef} {s : State} (hr : Running s) (hd : coreDef s.oven n = some (t, d))
    (ho : scheduleOpen (core_ s n) = true) (hc : d.deadline ≤ c) : Ends (.overrun c n) c s (overrunCore n) := by
  have hdef : coreDef (begin_ c s).oven n = some (t, d) := hd
  have hlate : scheduleOpen (core_ (begin_ c s) n) = true ∧ d.deadline ≤ c := ⟨ho, hc⟩
  have hexec : exec (.overrun c n) s = execOverrun c n s := rfl
  rw [Ends, hexec, execOverrun, run_eq, ifRunning_run (running_begin hr c)]
  simp only [hdef, if_pos hlate]

/-! ## An uncorrectable error (R99) -/

theorem getF_coreEvent_flag (n kind : Nat) (b : Bool) (a : Nat) (s : State) (hw : (flagOf n kind).width = 1)
    (hany : (flagOf n kind).key ≠ fCORE_STAT_ANYFLAG.key) (hdrop : (flagOf n kind).key ≠ fKILN_CNT_DROP.key) :
    getF (coreEvent n kind b a s) (flagOf n kind) = 1 := by
  have hset (u : State) : getF (setF fCORE_STAT_ANYFLAG 1 (setF (flagOf n kind) 1 u)) (flagOf n kind) = 1 :=
    calc getF (setF fCORE_STAT_ANYFLAG 1 (setF (flagOf n kind) 1 u)) (flagOf n kind)
      _ = getF (setF (flagOf n kind) 1 u) (flagOf n kind) := getF_setF_ne _ _ _ _ hany
      _ = 1 % 2 ^ (flagOf n kind).width := getF_setF_self _ _ _
      _ = 1 := congrArg (fun w => 1 % 2 ^ w) hw
  unfold coreEvent
  dsimp only
  split
  · exact hset _
  · rw [getF_send hdrop]
    exact hset _

theorem ctx_uncorrectable (n : Nat) (s : State) : (core_ (uncorrectable n s) n).ctx = .halted := by
  unfold uncorrectable
  dsimp only
  split
  · rw [core_hardMute, core_bump, core_haltCore, haltedCore]
  · rw [core_haltCore, haltedCore]

theorem fCORE_FLAGS_UECC_key (n : Nat) : (fCORE_FLAGS_UECC n).key = (0x40051000 + 16 * n) * 32 + 6 := rfl

theorem getF_uncorrectable_uecc {n : Nat} (hn : n < 128) (s : State) : getF (uncorrectable n s) (fCORE_FLAGS_UECC n) = 1 := by
  have hne (g : Fld) (hg : g.key < 0x40051000 * 32) : (fCORE_FLAGS_UECC n).key ≠ g.key := by
    rw [fCORE_FLAGS_UECC_key]
    omega
  have hhalt : (fCORE_FLAGS_UECC n).key ∉ haltKeys n := by
    rw [mem_haltKeys, fCORE_FLAGS_UECC_key]
    omega
  have hflag (b : Bool) (a : Nat) : getF (haltCore n (coreEvent n 6 b a s)) (fCORE_FLAGS_UECC n) = 1 :=
    (getF_haltCore hhalt _).trans
      (getF_coreEvent_flag n 6 b a s rfl (hne _ (by decide)) (hne _ (by decide)))
  unfold uncorrectable
  dsimp only
  split
  · rw [getF_hardMute (hne _ (by decide)) (hne _ (by decide)), getF_bump_ne (hne _ (by decide)), hflag]
  · exact hflag _ _

/-! ## The issue of a bundle (R98, R108) -/

/-- A core's next bundle with its memory accesses' check: an error corrected is counted, one that is not is R99's. -/
def issueWith (n : Nat) (ecc : Ecc) (s : State) : State :=
  match ecc with
  | .clean => issueBundle n s
  | .corrected => bump (fCORE_CNT_CORR n) (noteFresh (fCORE_CNT_CORR n) 1 (issueBundle n s))
  | .uncorrectable => uncorrectable n s

/-- A core has a bundle to issue, and its deadline has not passed. -/
structure IssueDue (n : Nat) (s : State) : Prop where
  clocks : clocksRun s = true
  ctx    : (core_ s n).ctx = .sched ∨ (core_ s n).ctx = .back
  cyc    : (core_ s n).cyc < 102400
  line   : ∀ t d, coreDef s.oven n = some (t, d) → scheduleOpen (core_ s n) = true → (core_ s n).cyc ≤ d.deadline

theorem coreStep_of_due {n : Nat} {s : State} (h : IssueDue n s) (ecc : Ecc) : coreStep n ecc s = issueWith n ecc s := by
  obtain ⟨hclk, hctx, hcyc, hline⟩ := h
  have hgo : (clocksRun s && ((core_ s n).ctx == .sched || (core_ s n).ctx == .back) && decide ((core_ s n).cyc < 102400)) = true := by
    simp [hclk, hctx, hcyc]
  unfold coreStep
  dsimp only
  rw [if_pos hgo]
  cases hd : coreDef s.oven n with
  | none => rfl
  | some e =>
    have hlate : (scheduleOpen (core_ s n) && decide (e.2.deadline < (core_ s n).cyc)) = false := by
      simpa using hline e.1 e.2 hd
    simp only [hlate]
    rfl

/-- The state in which a core's next bundle issues: everything of the batch before the core's cycle has come first (R98, R108). -/
def issueState (n : Nat) (s : State) : State := runFixedTo (core_ s n).cyc (begin_ (core_ s n).cyc s)

/-- A due bundle issues at its core's own cycle. -/
theorem exec_bundleIssue {n : Fin 128} {s : State} (hr : Running s) (h : IssueDue n (issueState n s)) (ecc : Ecc) :
    EndsMem (.bundleIssue n ecc) (core_ s n).cyc s (fun x => issueWith n ecc (runFixedTo (core_ s n).cyc x)) := by
  have hexec : exec (.bundleIssue n ecc) s = execBundleIssue n ecc s := rfl
  have hstep := coreStep_of_due h ecc
  rw [EndsMem, hexec, execBundleIssue, runMem_eq, ifRunning_run (running_begin hr _)]
  exact congrArg (fun x => Host.Outcome.next (afterMem s x)) hstep

/-! ## A bundle of NOPs (R108) -/

theorem bits_zero (hi lo : Nat) : bits 0 hi lo = 0 := by simp [bits]

theorem fpSlot_nop (c : CoreSt) (bg : Bool) (t u : Nat) : fpSlot c bg t u 0 = {} := by simp [fpSlot]

theorem dropLink_nop (t u : Nat) (fs : List Flight) : dropLink t u {} fs = fs := rfl

theorem memSlot_nop (n : Nat) (bg : Bool) (t : Nat) (c : CoreSt) (s : State) : memSlot n bg t 0 c s = { c := c, s := s } := by simp [memSlot]

theorem ctlSlot_nop (bg inDelay : Bool) (t pc : Nat) (rd c : CoreSt) : ctlSlot bg inDelay t pc 0 rd c = { c := c } := by simp [ctlSlot]

theorem settle_of_flight_nil {c : CoreSt} (h : c.flight = []) (t : Nat) : settle t c = c := by
  cases c
  simp_all [settle]

theorem refreshBg_of_sched {n : Nat} {s : State} (h : (core_ s n).ctx = .sched) : refreshBg n s = s := by
  rw [refreshBg, h]

/-- Bits 2 to 4 of ST are the activity of the three loops (R101). -/
theorem testBit_of_no_loop {st i : Nat} (h : st % 32 < 4) (h2 : 2 ≤ i) (h5 : i < 5) : st.testBit i = false := by
  have hpow : 2 ^ 2 ≤ 2 ^ i := Nat.pow_le_pow_right Nat.two_pos h2
  calc st.testBit i = (st % 2 ^ 5).testBit i := by rw [Nat.testBit_mod_two_pow, decide_eq_true h5, Bool.true_and]
    _ = false := Nat.testBit_lt_two_pow (Nat.lt_of_lt_of_le h hpow)

/-- Without an active loop the next bundle follows (R120). -/
theorem loopTest_of_no_loop {c : CoreSt} (h : c.st % 32 < 4) (x : Nat) : loopTest x c = ((x + 1) % 2048, c) := by
  have h2 : c.st.testBit 2 = false := testBit_of_no_loop h (by decide) (by decide)
  have h3 : c.st.testBit 3 = false := testBit_of_no_loop h (by decide) (by decide)
  have h4 : c.st.testBit 4 = false := testBit_of_no_loop h (by decide) (by decide)
  simp [loopTest, h2, h3, h4]

/-- A core past a bundle of NOPs: nothing but its PC, its cycle and the chains of its accumulators has changed. -/
def nextBundle (c : CoreSt) : CoreSt := { c with pc := (c.pc + 1) % 2048, cyc := c.cyc + 1, chain0 := none, chain1 := none }

theorem issueBundle_nop {n : Nat} {s : State} (hctx : (core_ s n).ctx = .sched) (hb : bundleAt s n (core_ s n).pc = 0)
    (hbr : (core_ s n).branch = none) (hst : (core_ s n).st % 32 < 4) (hfl : (core_ s n).flight = []) :
    issueBundle n s = bumpN (fCORE_CNT_SAT n) 0 (setCore n (nextBundle (core_ s n)) s) := by
  unfold issueBundle
  simp [hb, bits_zero, hctx, settle_of_flight_nil hfl, fpSlot_nop, memSlot_nop, ctlSlot_nop, hbr, dropLink_nop, loopTest_of_no_loop,
    hst, refreshBg_of_sched, when_, noteFresh, b01, nextBundle]

theorem core_issueBundle_nop {n : Nat} {s : State} (hctx : (core_ s n).ctx = .sched) (hb : bundleAt s n (core_ s n).pc = 0)
    (hbr : (core_ s n).branch = none) (hst : (core_ s n).st % 32 < 4) (hfl : (core_ s n).flight = []) :
    core_ (issueBundle n s) n = nextBundle (core_ s n) := by
  rw [issueBundle_nop hctx hb hbr hst hfl, bumpN, core_setF, core__setCore_self]

/-! ## The boundary (R12 to R19) -/

theorem exec_batchBoundary {s : State} (hr : Running s) : EndsMem .batchBoundary 0 s batchBoundary := by
  have hexec : exec .batchBoundary s = execBatchBoundary s := rfl
  rw [EndsMem, hexec, execBatchBoundary, runMem_eq, ifRunning_run (running_begin hr 0)]

/-- Settles O24: the boundary by its definition, the staged writes by the law of what is left of each, and the events of a core by what
each of them leaves of the core, its tray and the fields that show them. -/
theorem batchesAndBundlesComplete : Obligations.BatchesAndBundlesComplete := by
  refine ⟨⟨fun s hr => exec_batchBoundary hr, fun l m w hw hm => lastOnly_place hw hm l, ?gates⟩, ?bundles, ?overruns⟩
  case gates =>
    intro l m n a k x p hp ha hm
    subst hp
    exact lastOnly_startsOrStops k x ha hm l
  case bundles =>
    intro n s u hr hu hclk hctx hcyc hline
    subst hu
    have hdue : IssueDue n (issueState n s) := ⟨hclk, hctx, hcyc, hline⟩
    refine ⟨exec_bundleIssue hr hdue .clean, exec_bundleIssue hr hdue .corrected, exec_bundleIssue hr hdue .uncorrectable,
      ⟨_, exec_bundleIssue hr hdue .uncorrectable, ctx_uncorrectable n _, getF_uncorrectable_uecc n.isLt _⟩, ?_⟩
    intro hsched hb hbr hst hfl
    have hcore := core_issueBundle_nop hsched hb hbr hst hfl
    exact ⟨_, exec_bundleIssue hr hdue .clean, congrArg CoreSt.pc hcore, congrArg CoreSt.cyc hcore,
      (congrArg CoreSt.ctx hcore).trans hsched⟩
  case overruns =>
    intro c n t d s hr hd ho hc
    have htray : coreTray (begin_ c s) n = some t := coreTray_of_coreDef hd
    have hends := exec_overrun hr hd ho hc
    have hcore := core_overrunCore htray
    exact ⟨hends, _, hends, congrArg CoreSt.ctx hcore, congrArg CoreSt.bgOk hcore, hard_overrunCore htray,
      getF_overrunCore_muted htray, getF_overrunCore_count htray⟩

end Sys2Proof.Machine
end

section
/-! Host commands and events as effects: the checks that let a command through, the form in which its effect is stated, and bytes read back
after a store. -/
namespace Sys2Proof.Machine

open Sys2Proof

/-! ## Checks that pass (R49, R52, R83, R352) -/

@[simp] theorem bad_busyIf (b : Bool) : (busyIf b).bad = b := rfl
@[simp] theorem bad_deniedIf (b : Bool) (d : Nat) : (deniedIf b d).bad = b := rfl
@[simp] theorem bad_notNowIf (b : Bool) (d : Nat) : (notNowIf b d).bad = b := rfl

/-- No check fails when each of them passes. -/
theorem find?_bad_eq_none {gs : List Guard} (h : ∀ g ∈ gs, g.bad = false) : gs.find? (fun g => g.bad) = none :=
  List.find?_eq_none.2 fun g hg => by simp [h g hg]

section
variable {r : Req} {s : State}

theorem bad_handleLimit (h : HandleFree r s) : (handleLimit r s).bad = false :=
  decide_eq_false (Nat.not_le.2 h)

theorem bad_standbyDenied (h : Latches r s) : (standbyDenied r s).bad = false := by
  obtain ⟨hrole, -⟩ := h
  rcases hrole with hrole | hch
  · simp [standbyDenied, hrole]
  · simp [standbyDenied, hch]

theorem bad_standbyNotNow (h : Latches r s) : (standbyNotNow s).bad = false := h.2

end

/-! ## From a command to its effect -/

section
variable {i : Instr} {c : Nat} {op f : State → State} {s : State}

theorem ends_of_run (hexec : exec i s = run c op s) (hop : op (begin_ c s) = f (begin_ c s)) : Ends i c s f := by
  rw [Ends, hexec, run_eq, hop]

theorem endsMem_of_runMem (hexec : exec i s = runMem c op s) (hop : op (begin_ c s) = f (begin_ c s)) : EndsMem i c s f := by
  rw [EndsMem, hexec, runMem_eq, hop]

/-- An event has its effect while the engine runs. -/
theorem ends_of_event (hr : Running s) (hexec : exec i s = run c (ifRunning op) s) : Ends i c s op :=
  ends_of_run hexec (ifRunning_run (running_begin hr c) op)

end

/-! ## Bytes read back after a store -/

theorem cgetMany_csetMany_self {α : Type} [DecidableEq α] (d : Nat → α) (vs : List α) (m : Cells α) (k : Nat) :
    cgetMany d (csetMany d m k vs) k vs.length = vs := by
  induction vs generalizing m k with
  | nil => rfl
  | cons v t ih =>
    rw [csetMany, List.length_cons, cgetMany, ih, cget_csetMany_out _ _ _ (.inl (Nat.lt_succ_self k)), cget_cset_self]

theorem memBytes_setMemBytes_self (a : Nat) (bs : List Byte) (s : State) : memBytes (setMemBytes a bs s) a bs.length = bs :=
  cgetMany_csetMany_self _ _ _ _

theorem memByte_congr {s t : State} (h : t.mem = s.mem) (a : Nat) : memByte t a = memByte s a := by rw [memByte, memByte, h]

theorem memBytes_congr {s t : State} (h : t.mem = s.mem) (a n : Nat) : memBytes t a n = memBytes s a n := by
  rw [memBytes, memBytes, h]

/-- A command that leaves memory in its canonical form leaves it as its effect has it. -/
theorem mem_afterMem {s t : State} (h : MemForm t) : (afterMem s t).mem = t.mem := canonMem_of_wf h

/-! ## What a reply leaves -/

section
variable (r : Req) (op st d : Nat) (res : List Byte) (s : State)

theorem mem_reply : (reply r op st d res s).mem = s.mem := by rw [(sameButReply_reply r op st d res s).1]
theorem staged_reply : (reply r op st d res s).staged = s.staged := by rw [(sameButReply_reply r op st d res s).1]
theorem bundles_reply : (reply r op st d res s).bundles = s.bundles := by rw [(sameButReply_reply r op st d res s).1]
theorem commits_reply : (reply r op st d res s).commits = s.commits := by rw [(sameButReply_reply r op st d res s).1]

theorem getF_reply {f : Fld} (h : f.key ≠ fETH_STAT_LPI.key) : getF (reply r op st d res s) f = getF s f :=
  (sameButReply_reply r op st d res s).2 f h

end

theorem commits_accept (r : Req) (op : Nat) (k : OpKind) (s : State) : (accept r op k s).commits = s.commits := commits_reply ..

/-- An issued handle leaves every register field but LPI. -/
theorem getF_accept {f : Fld} (h : f.key ≠ fETH_STAT_LPI.key) (r : Req) (op : Nat) (k : OpKind) (s : State) :
    getF (accept r op k s) f = getF s f := getF_reply _ _ _ _ _ _ h

end Sys2Proof.Machine
end

section
/-! The proof and its commit (R66 to R77, R93). -/
namespace Sys2Proof.Machine

open Sys2Proof

/-! ## Writing and loading the proof (R73 to R75) -/

section
variable {s : State}

theorem commitPending_of_nil (h : s.commits = []) : commitPending s = false := by simp [commitPending, h]

theorem loadRunning_of_ne (h : proofState s ≠ proofVERIFYING) : loadRunning s = false := by simp [loadRunning, h]

theorem opBakeBegin_idle (hl : Live s) (hc : s.commits = []) (hp : proofState s ≠ proofVERIFYING) (r : Req) (n : Nat) :
    opBakeBegin r n s =
      replyOK r 0x0200 [] (setProofState proofWRITING { (emptyProof s) with proofTotal := clampN 64 8388608 n }) :=
  command_live hl _ _ _ _ (find?_bad_eq_none (by simp [commitPending_of_nil hc, loadRunning_of_ne hp]))

/-- The state in which BAKE_WRITE has stored its bytes. -/
def proofStored (o : Nat) (d : List Byte) (s : State) : State :=
  { setMemBytes (proofBase + o) d s with proofTop := max s.proofTop (o + d.length) }

theorem opBakeWrite_good {o : Nat} {crc : Word} {d : List Byte} (hl : Live s) (hp : proofState s = proofWRITING)
    (hcrc : crc32 d = crc.toNat) (hlen : o + d.length ≤ s.proofTotal) (r : Req) :
    opBakeWrite r o crc d s = replyOK r 0x0201 [] (proofStored o d s) := by
  rw [opBakeWrite, command_live hl _ _ _ _ (find?_bad_eq_none (by simp [hp])), if_neg (not_not_intro hcrc), if_neg (Nat.not_lt.2 hlen)]
  rfl

theorem opBakeEnd_writing (hl : Live s) {r : Req} (hf : HandleFree r s) (hp : proofState s = proofWRITING) :
    opBakeEnd r s = accept r 0x0202 (.bakeLoad none) (setProofState proofVERIFYING s) :=
  command_live hl _ _ _ _ (find?_bad_eq_none (by simp [bad_handleLimit hf, hp]))

theorem opBakeLoadFlash_idle (hl : Live s) {r : Req} (hf : HandleFree r s) (hc : s.commits = [])
    (hp : proofState s ≠ proofVERIFYING) (o : Nat) :
    opBakeLoadFlash r o s = accept r 0x0203 (.bakeLoad (some (o / 4 * 4))) (setProofState proofVERIFYING (emptyProof s)) :=
  command_live hl _ _ _ _ (find?_bad_eq_none (by simp [bad_handleLimit hf, commitPending_of_nil hc, loadRunning_of_ne hp]))

theorem opBakeLoadDone_running {o : Op} (hp : proofState s = proofVERIFYING) (ho : s.ops.find? (fun x => isBakeLoad x.kind) = some o) :
    opBakeLoadDone s = loadDone o s := by
  have hrun : loadRunning s = true := by simp [loadRunning, hp]
  simp only [opBakeLoadDone, hrun, if_true, ho]

theorem mem_after_proofStored (hm : MemForm s) (r : Req) (o : Nat) (d : List Byte) :
    (afterMem s (replyOK r 0x0201 [] (proofStored o d (begin_ r.c s)))).mem = (setMemBytes (proofBase + o) d s).mem := by
  have hreply : (replyOK r 0x0201 [] (proofStored o d (begin_ r.c s))).mem = (setMemBytes (proofBase + o) d s).mem := mem_reply ..
  have hform : MemForm (replyOK r 0x0201 [] (proofStored o d (begin_ r.c s))) := by
    rw [MemForm, hreply]
    exact memForm_setMemBytes _ _ hm
  exact (mem_afterMem hform).trans hreply

/-- BAKE_WRITE replies, its bytes stand in the proof, and every other byte of memory is as it was. -/
theorem exec_bakeWrite {r : Req} {o : Nat} {crc : Word} {d : List Byte} (hl : Live s) (hp : proofState s = proofWRITING)
    (hcrc : crc32 d = crc.toNat) (hlen : o + d.length ≤ s.proofTotal) (hm : MemForm s) :
    Yields (.bakeWrite r o crc d) s (fun t => Replied r 0x0201 [] s t ∧ memBytes t (proofBase + o) d.length = d ∧
      (∀ a, a < proofBase + o ∨ proofBase + o + d.length ≤ a → memByte t a = memByte s a)) := by
  have hends : EndsMem (.bakeWrite r o crc d) r.c s (fun u => replyOK r 0x0201 [] (proofStored o d u)) :=
    endsMem_of_runMem (op := opBakeWrite r o crc d) rfl (opBakeWrite_good (live_begin hl _) hp hcrc hlen r)
  refine ⟨_, hends, reply_sent r _ _ _ _ (proofStored o d (begin_ r.c s)), ?_, fun a ha => ?_⟩
  · exact (memBytes_congr (mem_after_proofStored hm r o d) _ _).trans (memBytes_setMemBytes_self _ _ _)
  · exact (memByte_congr (mem_after_proofStored hm r o d) a).trans (memByte_setMemBytes_out _ _ ha)

/-! ## The commit request (R76, R77) -/

/-- The state in which a commit of the trays `m` waits for the boundary `start`. -/
def commitWaits (r : Req) (m : Nat) (start : Word) (s : State) : State :=
  setF fBAKE_STAT_PENDING 1 { s with commits := s.commits ++ [⟨r.ch, nextHandle s r.ch, m, start, none, []⟩] }

/-- What BAKE_COMMIT of the trays `m` checks of the proof, the oven and the commits that wait. -/
structure CommitReady (r : Req) (m : Nat) (target : Word) (s : State) : Prop where
  valid   : proofState s = proofVALID
  named   : m ≠ 0
  allowed : commitAllowed s m = true
  apart   : s.commits.foldl (fun k x => k ||| commitTrays s x.mask) 0 &&& commitTrays s m = 0
  settled : fadeMask s &&& commitTrays s m = 0
  ahead   : targetTooNear s target = false
  alone   : joined s = false

theorem opBakeCommit_ready {r : Req} {m target : Word} (hl : Live s) (hlat : Latches r s) (hf : HandleFree r s)
    (h : CommitReady r (m.toNat &&& trayMask s.proof) target s) :
    opBakeCommit r m target s =
      accept r 0x0204 .commit (commitWaits r (m.toNat &&& trayMask s.proof) (commitStart r target s) s) := by
  obtain ⟨hvalid, hnamed, hallowed, hapart, hsettled, hahead, halone⟩ := h
  rw [opBakeCommit, command_live hl _ _ _ _ (find?_bad_eq_none (by simp [bad_handleLimit hf, bad_standbyDenied hlat,
    bad_standbyNotNow hlat, hvalid, hnamed, hallowed, hapart, hsettled, hahead, halone]))]
  simp only [halone, Bool.false_and, Bool.false_eq_true, if_false]
  rfl

theorem exec_bakeCommit {r : Req} {m target : Word} (hl : Live s) (hlat : Latches r s) (hf : HandleFree r s)
    (h : CommitReady r (m.toNat &&& trayMask s.proof) target s) :
    Yields (.bakeCommit r m target) s (fun t => Accepted r 0x0204 .commit s t ∧ getF t fBAKE_STAT_PENDING = 1 ∧
      t.commits = s.commits ++ [⟨r.ch, nextHandle s r.ch, m.toNat &&& trayMask s.proof, commitStart r target s, none, []⟩]) := by
  have hready : CommitReady r (m.toNat &&& trayMask (begin_ r.c s).proof) target (begin_ r.c s) :=
    ⟨h.valid, h.named, h.allowed, h.apart, h.settled, h.ahead, h.alone⟩
  have hends : Ends (.bakeCommit r m target) r.c s
      (fun u => accept r 0x0204 .commit (commitWaits r (m.toNat &&& trayMask u.proof) (commitStart r target u) u)) :=
    ends_of_run (op := opBakeCommit r m target) rfl (opBakeCommit_ready (live_begin hl _) hlat hf hready)
  refine ⟨_, hends, accept_accepted r _ _ (commitWaits r _ _ (begin_ r.c s)), ?_, ?_⟩
  · exact (getF_accept (by decide) r _ _ _).trans (getF_setF_self _ _ _)
  · exact commits_accept r _ _ _

/-! ## Status and report (R91, R92) -/

theorem opBakeStatus_live (hl : Live s) (r : Req) : opBakeStatus r s = replyOK r 0x0205
    (be4 (peekReg s rBAKE_STAT) ++ be4 (peekReg s rBAKE_OVEN_ID) ++ be4 (peekReg s rBAKE_PROOF_ID) ++ be4 (peekReg s rBAKE_LIVE) ++
      be4 (peekReg s rBAKE_FADEMASK) ++ be4 (peekReg s rBAKE_MUTEMASK)) s := by
  rw [opBakeStatus, command_live hl _ _ _ _ rfl]
  simp only [List.flatMap_cons, List.flatMap_nil, List.append_nil, List.append_assoc]

theorem opBakeReport_baked (hl : Live s) (ho : ovenEmpty s = false) (r : Req) (i n : Nat) : opBakeReport r i n s = replyOK r 0x0206
    (((s.oven.report.drop (min i (s.oven.report.length - 1))).take (clampN 1 255 n)).flatMap reportBytes) s :=
  command_live hl _ _ _ _ (find?_bad_eq_none (by simp [ho]))

end

/-- Settles O20: each command by what it does once its checks have passed. -/
theorem bakeCommandsComplete : Obligations.BakeCommandsComplete := by
  refine ⟨⟨?begin_, fun r o crc d s hl hp hcrc hlen hm => exec_bakeWrite hl hp hcrc hlen hm, ?end_, ?flash, ?done⟩,
    ?commit, ?status, ?report⟩
  case begin_ =>
    intro r n s hl hc hp
    exact endsMem_of_runMem (op := opBakeBegin r n) rfl (opBakeBegin_idle (live_begin hl _) hc hp r n)
  case end_ =>
    intro r s hl hf hp
    exact ends_of_run (op := opBakeEnd r) rfl (opBakeEnd_writing (live_begin hl _) hf hp)
  case flash =>
    intro r o s hl hf hc hp
    exact endsMem_of_runMem (op := opBakeLoadFlash r o) rfl (opBakeLoadFlash_idle (live_begin hl _) hf hc hp o)
  case done =>
    intro c o s hr hp ho
    exact endsMem_of_runMem (op := ifRunning opBakeLoadDone) rfl
      ((ifRunning_run (running_begin hr c) _).trans (opBakeLoadDone_running hp ho))
  case commit =>
    intro r m target s hl hlat hf hvalid hnamed hallowed hapart hsettled hahead halone
    exact exec_bakeCommit hl hlat hf ⟨hvalid, hnamed, hallowed, hapart, hsettled, hahead, halone⟩
  case status =>
    intro r s hl
    exact ends_of_run (op := opBakeStatus r) rfl (opBakeStatus_live (live_begin hl _) r)
  case report =>
    intro r i n s hl ho
    exact ends_of_run (op := opBakeReport r i n) rfl (opBakeReport_baked (live_begin hl _) ho r i n)

end Sys2Proof.Machine
end

section
/-! Parameters and coefficient bundles of a running bake (R79, R83 to R87, R93). -/
namespace Sys2Proof.Machine

open Sys2Proof

section
variable {r : Req} {s : State}

/-! ## Parameters (R84, R85) -/

/-- A written entry as it applies: its value within the parameter's limits, its ramp of at most 1024 samples. -/
def appliedEntry (b : Bake) (e : ParamEntry) : ParamEntry :=
  match paramDef b e.id with
  | some (_, d) => { e with value := clampParam d e.value, ramp := clampHi 1024 e.ramp }
  | none => e

/-- Applied entries replied and staged. -/
def answerEntries (r : Req) (vs : List ParamEntry) (s : State) : State :=
  replyOK r 0x0210 (beWords (vs.map (·.value)))
    (stage r 0x0210 (be2 vs.length ++ [0, 0] ++ vs.flatMap (fun e => be2 e.id ++ be2 e.ramp ++ beWord e.value))
      (vs.map (fun e => .param e.id e.ramp e.value)) s)

theorem opParamWrite_known {es : List ParamEntry} (hl : Live s) (hlat : Latches r s)
    (h : ∀ e ∈ es, (paramDef s.oven e.id).isSome = true ∧ fpIsNaN e.value = false) :
    opParamWrite r es s = answerEntries r (es.map (appliedEntry s.oven)) s := by
  have hknown : es.any (fun e => (paramDef s.oven e.id).isNone) = false :=
    List.any_eq_false.2 fun e he => by simp [Option.isNone_eq_false_iff.2 (h e he).1]
  refine command_live hl _ _ _ _ (find?_bad_eq_none ?_)
  simp only [List.forall_mem_cons, List.not_mem_nil, bad_standbyDenied hlat, bad_standbyNotNow hlat, bad_deniedIf, hknown,
    List.any_eq_false, true_and, false_imp_iff, implies_true, and_true]
  intro e he
  split <;> simp [(h e he).2]

theorem opParamRead_known {id : Nat} {p : ParamSt} (hl : Live s) (hd : (paramDef s.oven id).isSome = true)
    (hp : param s id = some p) (r : Req) : opParamRead r id s = replyOK r 0x0211
      (beWord (paramTarget s id) ++ beWord (rampShown s r.c p.ramp).1 ++ be2 (rampShown s r.c p.ramp).2 ++ [0, 0]) s := by
  rw [opParamRead, command_live hl _ _ _ _ (find?_bad_eq_none (by simp [Option.isNone_eq_false_iff.2 hd]))]
  simp only [hp]

/-! ## Bundles (R86, R87) -/

section
variable {id : Nat} {t : TrayDef} {d : BundleDef} {ws : List Word}

theorem opBundleWrite_good (hl : Live s) (hlat : Latches r s) (hd : bundleDef s.oven id = some (t, d))
    (hgood : (sectionsOf ws d.sections).all sectionGood = true) (l : Nat) :
    opBundleWrite r id d.sections l ws s = replyOK r 0x0212 []
      (stage r 0x0212 (be2 id ++ [byteOf d.sections, 0] ++ be2 (clampN 1 1024 l) ++ [0, 0] ++ beWords ws)
        [.bundle id (clampN 1 1024 l) ws] s) := by
  have hnone : (sectionsOf ws d.sections).findIdx? (fun c => !sectionGood c) = none :=
    List.findIdx?_eq_none_iff.2 fun c hc => by simp [List.all_eq_true.1 hgood c hc]
  rw [opBundleWrite, command_live hl _ _ _ _ (find?_bad_eq_none (by simp [hd, bad_standbyDenied hlat]))]
  simp only [hnone, hlat.2, Bool.false_eq_true, if_false]

theorem opBundleWrite_bad {i : Nat} (hl : Live s) (hlat : Latches r s) (hd : bundleDef s.oven id = some (t, d))
    (hbad : (sectionsOf ws d.sections).findIdx? (fun c => !sectionGood c) = some i) (l : Nat) :
    opBundleWrite r id d.sections l ws s = reply r 0x0212 stDENIED 7 [byteOf i, 0, 0, 0] (bump fBAKE_CNT_BUNDLE s) := by
  rw [opBundleWrite, command_live hl _ _ _ _ (find?_bad_eq_none (by simp [hd, bad_standbyDenied hlat]))]
  simp only [hbad]

end

/-- The test of a section's poles, for coefficients that are numbers. -/
theorem sectionGood_of_finite {b0 b1 b2 a1 a2 : Word} (h : ∀ w ∈ [b0, b1, b2, a1, a2], fpIsE255 w = false) :
    sectionGood [b0, b1, b2, a1, a2] = ((if (fpVal a2).m < 0 then (fpVal a2).neg else fpVal a2).lt ⟨1, 0⟩ &&
      (if (fpVal a1).m < 0 then (fpVal a1).neg else fpVal a1).lt (Dy.add ⟨1, 0⟩ (fpVal a2))) := by
  have hfinite : [b0, b1, b2, a1, a2].any fpIsE255 = false := List.any_eq_false.2 fun w hw => by simp [h w hw]
  simp only [sectionGood, hfinite, Bool.not_false, Bool.true_and]

end

/-- Settles O21: each command by what it does once its checks have passed. -/
theorem liveWritesComplete : Obligations.LiveWritesComplete := by
  refine ⟨?write, ?read, ?bundle⟩
  case write =>
    intro r es vs s hl hlat hes hvs
    subst hvs
    exact ends_of_run (op := opParamWrite r es) rfl (opParamWrite_known (live_begin hl _) hlat hes)
  case read =>
    intro r id p s hl hd hp
    exact ends_of_run (op := opParamRead r id) rfl (opParamRead_known (live_begin hl _) hd hp r)
  case bundle =>
    intro r id n l ws t d s hl hlat hd hn hgood
    subst hn
    exact ends_of_run (op := opBundleWrite r id d.sections l ws) rfl (opBundleWrite_good (live_begin hl _) hlat hd hgood l)

/-- Settles O22: the reply names the first bad section, and a reply leaves the bundles and the staged writes. -/
theorem badBundleIsDenied : Obligations.BadBundleIsDenied := by
  refine ⟨fun _ _ _ _ _ h => sectionGood_of_finite h, ?_⟩
  intro r id n l i ws t d s hl hlat hd hn hbad
  subst hn
  have hends : Ends (.bundleWrite r id d.sections l ws) r.c s
      (fun u => reply r 0x0212 stDENIED 7 [byteOf i, 0, 0, 0] (bump fBAKE_CNT_BUNDLE u)) :=
    ends_of_run (op := opBundleWrite r id d.sections l ws) rfl (opBundleWrite_bad (live_begin hl _) hlat hd hbad l)
  exact ⟨hends, _, hends, bundles_reply .., staged_reply ..⟩

end Sys2Proof.Machine
end

section
/-! The ends of fades (R77, R78, R80, R86). -/
namespace Sys2Proof.Machine

open Sys2Proof

/-! ## What the words of a core's memory leave -/

theorem bundles_foldState {α : Type} {f : α → State → State} (hf : ∀ a s, (f a s).bundles = s.bundles) (l : List α) (s : State) :
    (foldState f l s).bundles = s.bundles :=
  List.foldlRecOn (motive := fun t => t.bundles = s.bundles) l _ rfl fun t ht a _ => (hf a t).trans ht

theorem bundles_setDspWord (space loc : Nat) (v : Word) (s : State) : (setDspWord space loc v s).bundles = s.bundles := rfl

theorem bundles_storeDsp (space loc : Nat) (ws : List Word) (s : State) : (storeDsp space loc ws s).bundles = s.bundles := by
  unfold storeDsp
  exact bundles_foldState (fun (e : Word × Nat) t => bundles_setDspWord space (loc + e.2) e.1 t) _ s

theorem bundles_copyDsp (space src dst n : Nat) (s : State) : (copyDsp space src dst n s).bundles = s.bundles :=
  bundles_storeDsp ..

theorem bundles_placeBundle (d : BundleDef) (b : BundleSt) (s : State) : (placeBundle d b s).bundles = s.bundles := by
  unfold placeBundle
  dsimp only
  split
  · rw [bundles_storeDsp, bundles_storeDsp]
  · split
    · rw [bundles_storeDsp, bundles_storeDsp, bundles_copyDsp, bundles_storeDsp]
    · rw [bundles_storeDsp, bundles_storeDsp, bundles_storeDsp]

theorem bundle_dropOldSet (d : BundleDef) (b : BundleSt) (s : State) (id : Nat) : bundle (dropOldSet d b s) id = bundle s id := by
  rw [bundle, dropOldSet, bundles_placeBundle, bundles_copyDsp, bundle]

/-! ## The three ends -/

section
variable {s : State}

/-- A commit with at most a batch of its pre-fade left has none left. -/
theorem mem_commits_opPreFadeEnd {x : Commit} {k : Nat} (hx : x ∈ s.commits) (hf : x.fade = some k) (hk : k ≤ 8) :
    { x with fade := some 0 } ∈ (opPreFadeEnd s).commits :=
  List.mem_map.2 ⟨x, hx, by simp [hf, hk]⟩

theorem length_commits_opPreFadeEnd (s : State) : (opPreFadeEnd s).commits.length = s.commits.length := List.length_map _

theorem tray_showFades (s : State) (n : Nat) : tray (showFades s) n = tray s n := by
  simp only [showFades, tray, setF_fields]

theorem tray_opFadeInEnd {n : Nat} (h0 : 0 < (tray s n).fadeIn) (h8 : (tray s n).fadeIn ≤ 8) :
    tray (opFadeInEnd n s) n = { tray s n with fadeIn := 0 } := by
  simp only [opFadeInEnd, if_pos (And.intro h0 h8), tray_showFades, tray_setTray_self]

theorem bundle_opBundleCrossfadeEnd {id : Nat} {b : BundleSt} {x : List Word} {o : TrayDef} {d : BundleDef}
    (hd : bundleDef s.oven id = some (o, d)) (hb : bundle s id = some b) (hn : b.next = some x) (hl : b.len ≤ b.pos + 8) :
    bundle (opBundleCrossfadeEnd id s) id = some { b with cur := x, next := none, len := 0, pos := 0 } := by
  have hends : b.next.isSome = true ∧ b.len ≤ b.pos + 8 := ⟨by rw [hn]; rfl, hl⟩
  simp only [opBundleCrossfadeEnd, hb, hd]
  rw [if_pos hends, bundle_dropOldSet, bundle_setBundle_self, endBundleFade, hn]

end

/-- Settles O23: each event by what it leaves of its commit, its tray or its bundle. -/
theorem fadesEnd : Obligations.FadesEnd := by
  refine ⟨?preFade, ?fadeIn, ?crossfade⟩
  case preFade =>
    intro c x k s hr hx hf hk
    have hends : Ends (.preFadeEnd c) c s opPreFadeEnd := ends_of_event hr rfl
    exact ⟨_, hends, mem_commits_opPreFadeEnd (s := begin_ c s) hx hf hk, length_commits_opPreFadeEnd (begin_ c s)⟩
  case fadeIn =>
    intro c n s hr h0 h8
    have hends : Ends (.fadeInEnd c n) c s (opFadeInEnd n) := ends_of_event hr rfl
    exact ⟨_, hends, tray_opFadeInEnd (s := begin_ c s) h0 h8⟩
  case crossfade =>
    intro c id b x o d s hr hd hb hn hl
    have hends : Ends (.bundleCrossfadeEnd c id) c s (opBundleCrossfadeEnd id) := ends_of_event hr rfl
    exact ⟨_, hends, bundle_opBundleCrossfadeEnd (s := begin_ c s) hd hb hn hl⟩

end Sys2Proof.Machine
end

section
/-! The post-modify of a DSP core's pointer (R116). -/
namespace Sys2Proof.Machine

open Sys2Proof

/-- Without a buffer the pointer's new value is the remainder of the sum by 2^20, as an integer. -/
theorem coe_postModify_of_no_buffer (p b : Nat) (step : Int) : (postModify p b 0 step : Int) = ((p : Int) + step) % 2 ^ 20 := by
  rw [postModify, if_pos rfl, Int.toNat_of_nonneg (Int.emod_nonneg _ (by decide))]

/-- Where in its buffer of length `l` a step takes a pointer: R116's d. -/
def bufferOffset (p b l : Nat) (step : Int) : Nat := (((p : Int) - b + step) % l).toNat

section
variable {l : Nat} (hl : l ≠ 0) (p b : Nat) (step : Int)
include hl

theorem coe_bufferOffset : (bufferOffset p b l step : Int) = ((p : Int) - b + step) % l :=
  Int.toNat_of_nonneg (Int.emod_nonneg _ (Int.natCast_ne_zero.2 hl))

theorem bufferOffset_lt : bufferOffset p b l step < l := by
  have hmod : ((p : Int) - b + step) % l < l := Int.emod_lt_of_pos _ (Int.natCast_pos.2 (Nat.pos_of_ne_zero hl))
  rw [← coe_bufferOffset hl] at hmod
  exact Int.ofNat_lt.1 hmod

theorem dvd_sub_bufferOffset : (l : Int) ∣ (p : Int) - b + step - bufferOffset p b l step := by
  rw [coe_bufferOffset hl]
  exact Int.dvd_self_sub_emod

theorem postModify_of_buffer : postModify p b l step = (b + bufferOffset p b l step) % 2 ^ 20 := by
  rw [postModify, if_neg hl, ← coe_bufferOffset hl]
  exact Int.toNat_natCast ((b + bufferOffset p b l step) % 2 ^ 20)

end

/-- Settles O25: without a buffer by the remainder by 2^20, in a buffer by the offset the step takes the pointer to. -/
theorem pointersStep : Obligations.PointersStep := by
  refine ⟨?noBuffer, ?buffer⟩
  case noBuffer =>
    intro p b step
    have hval := coe_postModify_of_no_buffer p b step
    have hlt : ((p : Int) + step) % 2 ^ 20 < 2 ^ 20 := Int.emod_lt_of_pos _ (by decide)
    constructor
    · omega
    · rw [hval]
      exact Int.dvd_self_sub_emod
  case buffer =>
    intro p b l step hl
    exact ⟨bufferOffset p b l step, bufferOffset_lt hl p b step, dvd_sub_bufferOffset hl p b step, postModify_of_buffer hl p b step⟩

end Sys2Proof.Machine
end

section
/-! Checks of the mix, delay and dynamics commands, and what a command answers on a standby (R49, R150, R206, R227). -/
namespace Sys2Proof.Machine

open Sys2Proof

@[simp] theorem bad_absentIf (b : Bool) : (absentIf b).bad = b := rfl

theorem clampHi_eq_min (hi n : Nat) : clampHi hi n = min n hi := by
  unfold clampHi
  split <;> omega

/-- Entries that all name something leave none that names nothing. -/
theorem any_isNone_eq_false {α β : Type} {l : List α} {f : α → Option β} (h : ∀ e ∈ l, (f e).isSome = true) :
    l.any (fun e => (f e).isNone) = false :=
  List.any_eq_false.2 fun e he => by simp [Option.isNone_eq_false_iff.2 (h e he)]

/-! ## The STANDBY's answer (R150, R206, R227) -/

/-- A request of channels 0 to 2 to an engine in the STANDBY role. -/
structure ToStandby (r : Req) (s : State) : Prop where
  role : getF s fTWIN_STAT_ROLE = 2
  own  : r.ch ≠ 3

section
variable {r : Req} {s : State}

theorem standbyDenied_of_toStandby (h : ToStandby r s) : standbyDenied r s = deniedIf true 8 := by
  have hown : (r.ch != 3) = true := bne_iff_ne.2 h.own
  simp [standbyDenied, h.role, hown]

/-- Checks that pass before the STANDBY's check leave its DENIED, DETAIL 8, as the answer. -/
theorem command_toStandby (hl : Live s) (h : ToStandby r s) {pre : List Guard} (hpre : ∀ g ∈ pre, g.bad = false) (op : Nat)
    (post : List Guard) (k : State → State) :
    command r op (pre ++ standbyDenied r s :: post) k s = reply r op stDENIED 8 [] s := by
  have hfirst : (pre ++ deniedIf true 8 :: post).find? (fun g => g.bad) = some (deniedIf true 8) := by
    rw [List.find?_append, find?_bad_eq_none hpre]
    simp
  rw [standbyDenied_of_toStandby h]
  exact command_bad hl r op _ k (deniedIf true 8) hfirst

/-- A command whose first check is the STANDBY's. -/
theorem command_toStandby_first (hl : Live s) (h : ToStandby r s) (op : Nat) (post : List Guard) (k : State → State) :
    command r op (standbyDenied r s :: post) k s = reply r op stDENIED 8 [] s :=
  command_toStandby hl h (pre := []) (by simp) op post k

end

end Sys2Proof.Machine
end

section
/-! Crosspoints and routes: the commands of the mixer and the end of a ramp (R130 to R137, R149, R152). -/
namespace Sys2Proof.Machine

open Sys2Proof

section
variable {r : Req} {s : State}

/-! ## XP_SET and XP_READ -/

/-- A written entry as it applies: its gain within the limits, its ramp of at most 1024 samples. -/
def appliedXp (e : XpEntry) : XpEntry := { e with gain := fpParam gainMin gainMax e.gain, ramp := clampHi 1024 e.ramp }

/-- Applied entries replied and staged. -/
def answerXps (r : Req) (vs : List XpEntry) (s : State) : State :=
  replyOK r 0x0300 (beWords (vs.map (·.gain)))
    (stage r 0x0300 (be2 vs.length ++ [0, 0] ++ vs.flatMap (fun e => be2 e.src ++ be2 e.dst ++ beWord e.gain ++ be2 e.ramp ++ [0, 0]))
      (vs.map (fun e => .xp e.src e.dst e.gain e.ramp)) s)

/-- The crosspoints that applied entries reserve (R132). -/
def reservedXps (vs : List XpEntry) : List Nat := (vs.filter (fun e => !fpIsZero e.gain)).map (fun e => xpKey e.src e.dst)

theorem opXpSet_bound {es : List XpEntry} (hl : Live s) (hlat : Latches r s)
    (hes : ∀ e ∈ es, (sourceDef s.oven e.src).isSome = true ∧ (destDef s.oven e.dst).isSome = true ∧ fpIsNaN e.gain = false)
    (hquota : overQuota s (reservedXps (es.map appliedXp)) = false) :
    opXpSet r es s = answerXps r (es.map appliedXp) s := by
  have hbound : es.any (fun e => (sourceDef s.oven e.src).isNone || (destDef s.oven e.dst).isNone) = false :=
    List.any_eq_false.2 fun e he => by
      obtain ⟨hsrc, hdst, -⟩ := hes e he
      simp [Option.isNone_eq_false_iff.2 hsrc, Option.isNone_eq_false_iff.2 hdst]
  have hnan : es.any (fun e => fpIsNaN e.gain) = false := List.any_eq_false.2 fun e he => by simp [(hes e he).2.2]
  have hexcess : overQuota s (((es.map appliedXp).filter (fun e => !fpIsZero e.gain)).map (fun e => xpKey e.src e.dst)) = false := hquota
  unfold appliedXp at hexcess
  simp only [opXpSet, hbound, hnan, hexcess, Bool.and_false, Bool.false_and, when_, Bool.false_eq_true, if_false]
  exact command_live hl _ _ _ _ (find?_bad_eq_none (by simp [bad_standbyDenied hlat, bad_standbyNotNow hlat]))

theorem opXpRead_there {a b : Nat} {p : Ramp} (hl : Live s) (hsrc : (sourceDef s.oven a).isSome = true)
    (hdst : (destDef s.oven b).isSome = true) (hp : xp s a b = some p) (r : Req) : opXpRead r a b s = replyOK r 0x0301
      (beWord (xpTarget s a b) ++ beWord (rampShown s r.c p).1 ++ be2 (rampShown s r.c p).2 ++ [0, 0]) s := by
  rw [opXpRead, command_live hl _ _ _ _
    (find?_bad_eq_none (by simp [Option.isNone_eq_false_iff.2 hsrc, Option.isNone_eq_false_iff.2 hdst]))]
  simp only [hp, Option.isSome_some, Bool.true_or, if_true]

/-! ## ROUTE_SET and ROUTE_LATENCY -/

/-- A written entry as it applies: its gain within the limits. -/
def appliedRoute (e : RouteEntry) : RouteEntry := { e with gain := fpParam gainMin gainMax e.gain }

/-- Is a staged write a ROUTE_SET of a destination? -/
def routesTo (b : Nat) (w : StagedWrite) : Bool :=
  match w with
  | .route k _ _ => k == b
  | _ => false

/-- The staged writes that a ROUTE_SET for the same boundary does not replace (R137). -/
def keptByRoute (r : Req) (b : Nat) (s : State) : List Staged := s.staged.filter (fun x => !(x.due == dueOf r s && routesTo b x.w))

/-- The crosspoints that the applied entries of a route reserve (R132). -/
def reservedRoutes (b : Nat) (vs : List RouteEntry) : List Nat := (vs.filter (fun e => !fpIsZero e.gain)).map (fun e => xpKey e.src b)

/-- Applied entries replied and staged, in place of an earlier route for the same boundary. -/
def answerRoute (r : Req) (b l : Nat) (vs : List RouteEntry) (s : State) : State :=
  replyOK r 0x0302 (beWords (vs.map (·.gain)))
    (stage r 0x0302 (be2 b ++ be2 vs.length ++ be2 l ++ [0, 0] ++ vs.flatMap (fun e => be2 e.src ++ [0, 0] ++ beWord e.gain))
      [.route b l vs] { s with staged := keptByRoute r b s })

theorem opRouteSet_bound {b : Nat} {es : List RouteEntry} (hl : Live s) (hlat : Latches r s) (hdst : (destDef s.oven b).isSome = true)
    (hes : ∀ e ∈ es, (sourceDef s.oven e.src).isSome = true ∧ fpIsNaN e.gain = false)
    (hquota : overQuota { s with staged := keptByRoute r b s } (reservedRoutes b (es.map appliedRoute)) = false) (l : Nat) :
    opRouteSet r b l es s = answerRoute r b (clampHi 1024 l) (es.map appliedRoute) s := by
  have hsrcs : es.any (fun e => (sourceDef s.oven e.src).isNone) = false := any_isNone_eq_false fun e he => (hes e he).1
  have hnan : es.any (fun e => fpIsNaN e.gain) = false := List.any_eq_false.2 fun e he => by simp [(hes e he).2]
  unfold opRouteSet
  extract_lets unbound nan vs l' due drop excess denied
  have hunbound : unbound = false := by simp [unbound, Option.isNone_eq_false_iff.2 hdst, hsrcs]
  have hexcess : excess = false := Bool.and_eq_false_iff.2 (.inr hquota)
  have hdenied : denied = false := by simp [denied, hexcess]
  rw [hdenied, Bool.and_false, when_, if_neg Bool.false_ne_true]
  exact command_live hl _ _ _ _
    (find?_bad_eq_none (by simp [bad_standbyDenied hlat, bad_standbyNotNow hlat, hunbound, hexcess, nan, hnan]))

/-- What a route's delay line adds to its latency, and whether the line is between two delays (R149). -/
def lineLatency (e : ReportEntry) (s : State) : Nat × Bool :=
  match delayDef s.oven e.line, delay s e.line with
  | some (_, d), some x => (delayFraction d (x.next.getD x.cur), x.next.isSome)
  | _, _ => (0, false)

/-- A route's latency in fractions of a Core sample (R149). -/
def routeLatencyTotal (e : ReportEntry) (a b : Nat) (s : State) : Nat :=
  e.whole * 25600 + e.frac + (lineLatency e s).1 + (if e.flags.testBit 0 then asrcFraction s a + asrcFraction s b else 0) +
    (if e.flags.testBit 1 then hopFraction s a else 0)

theorem opRouteLatency_reported {a b : Nat} {e : ReportEntry} (hl : Live s) (ho : ovenEmpty s = false)
    (hdst : hasMod s = true ∨ b < 0x8000 ∨ 0x800F < b) (he : s.oven.report.find? (fun e => e.src == a && e.dst == b) = some e) (r : Req) :
    opRouteLatency r a b s = replyOK r 0x0303 (be4 (routeLatencyTotal e a b s / 25600) ++ be2 (routeLatencyTotal e a b s % 25600) ++
      [byteOf e.passes, byteOf (b01 (e.flags.testBit 0) + 2 * b01 (e.flags.testBit 1) + 4 * b01 (lineLatency e s).2)]) s := by
  have hpresent : (decide (0x8000 ≤ b) && decide (b ≤ 0x800F) && !hasMod s) = false := by
    rcases hdst with hmod | hlow | hhigh
    · simp [hmod]
    · simp [Nat.not_le.2 hlow]
    · simp [Nat.not_le.2 hhigh]
  rw [opRouteLatency, command_live hl _ _ _ _ (find?_bad_eq_none (by simp [hpresent, ho, he]))]
  simp only [he]
  rfl

/-! ## The end of a ramp to zero -/

theorem xpRampEnd_due {c a b : Nat} {p : Ramp} {t : TrayDef} {d : DestDef} (hp : xp s a b = some p) (hd : destDef s.oven b = some (t, d))
    (hleft : rampLeft p ≤ 8) (hzero : fpIsZero p.target = true) (hc : t.windowEnd ≤ c) :
    xpRampEnd c a b s = setXp a b (some (steady p.target)) s := by
  simp only [xpRampEnd, hp, hd, hleft, hzero, hc, and_self, if_true]

end

end Sys2Proof.Machine
end

section
/-! Delay lines: their commands and the end of a crossfade (R143 to R147, R152). -/
namespace Sys2Proof.Machine

open Sys2Proof

section
variable {r : Req} {s : State}

/-- A written entry as it applies: at most its line's longest delay, its ramp of at most 1024 samples. -/
def appliedDelay (b : Bake) (e : DelayEntry) : DelayEntry :=
  match delayDef b e.line with
  | some (_, d) => { e with delay := min e.delay (delayMax d), ramp := clampHi 1024 e.ramp }
  | none => e

/-- Applied entries replied and staged. -/
def answerDelays (r : Req) (vs : List DelayEntry) (s : State) : State :=
  replyOK r 0x0304 (vs.flatMap (fun e => be4 e.delay))
    (stage r 0x0304 (be2 vs.length ++ [0, 0] ++ vs.flatMap (fun e => be2 e.line ++ be2 e.ramp ++ be4 e.delay))
      (vs.map (fun e => .delay e.line e.ramp e.delay)) s)

theorem opDelaySet_known {es : List DelayEntry} (hl : Live s) (hlat : Latches r s)
    (hes : ∀ e ∈ es, (delayDef s.oven e.line).isSome = true) :
    opDelaySet r es s = answerDelays r (es.map (appliedDelay s.oven)) s :=
  command_live hl _ _ _ _
    (find?_bad_eq_none (by simp [bad_standbyDenied hlat, bad_standbyNotNow hlat, any_isNone_eq_false hes]))

theorem opDelayRead_known {k : Nat} {t : TrayDef} {d : DelayDef} {x : DelaySt} (hl : Live s) (hd : delayDef s.oven k = some (t, d))
    (hx : delay s k = some x) (r : Req) : opDelayRead r k s = replyOK r 0x0305 (be4 (delayTarget s d) ++ be4 x.cur ++ be4 (delayMax d) ++
      [byteOf (if x.held.isSome then 2 else if x.next.isSome then 1 else 0), byteOf d.packing, 0, 0]) s := by
  rw [opDelayRead, command_live hl _ _ _ _ (find?_bad_eq_none (by simp [hd]))]
  simp only [hd, hx]

theorem delayCrossfadeEnd_due {c k : Nat} {t : TrayDef} {d : DelayDef} {x : DelaySt} (hd : delayDef s.oven k = some (t, d))
    (hx : delay s k = some x) (hn : x.next.isSome = true) (hlen : x.len ≤ x.pos + rateSamples d.rate) (hc : d.cycle ≤ c) :
    delayCrossfadeEnd c k s = setDelay k (some (endDelayFade x)) s := by
  simp only [delayCrossfadeEnd, hd, hx, hn, hlen, hc, and_self, if_true]

end

end Sys2Proof.Machine
end

section
/-! The settings of the dynamics units (R138, R140, R152), and the mix family's commands together. -/
namespace Sys2Proof.Machine

open Sys2Proof

section
variable {r : Req} {s : State} {i : Nat} {t : TrayDef} {d : DynDef}

/-- Settings replied and staged. -/
def answerDyn (r : Req) (i m : Nat) (o : DynSet) (s : State) : State :=
  replyOK r 0x0400 (dynBytes o) (stage r 0x0400 (be2 i ++ be2 m ++ dynBytes o) [.dyn i m o] s)

theorem opDynSet_known {f : DynFields} (hl : Live s) (hlat : Latches r s) (ha : dynAbsent s i = false)
    (hd : dynDef s.oven i = some (t, d)) (hnan : anyNaN [f.thresh, f.ratio, f.knee, f.attack, f.release, f.makeup] = false) (m : Nat) :
    opDynSet r i m f s = answerDyn r i m (applyFields d m f (dynTarget s d)) s := by
  rw [opDynSet, command_live hl _ _ _ _
    (find?_bad_eq_none (by simp [bad_standbyDenied hlat, bad_standbyNotNow hlat, ha, hd, hnan]))]
  simp only [hd]
  rfl

/-- The settings of a dynamics unit, its applied gain and look-ahead, then a thermal and a headroom gain. -/
def dynReport (d : DynDef) (x : DynSt) (therm head : Word) (s : State) : List Byte :=
  dynBytes (dynTarget s d) ++ beWord x.app ++ be2 d.look ++ [0, 0] ++ beWord therm ++ beWord head

theorem opDynRead_known {x : DynSt} (hl : Live s) (ha : dynAbsent s i = false) (hd : dynDef s.oven i = some (t, d))
    (hx : dyn s i = some x) (r : Req) : opDynRead r i s = replyOK r 0x0401
      (dynReport d x (if isOutLim d then thermGain s (i - 0x800) s.pipeAt else fpOne)
        (if isOutLim d then headGain s (i - 0x800) else fpOne) s) s := by
  rw [opDynRead, command_live hl _ _ _ _ (find?_bad_eq_none (by simp [ha, hd]))]
  simp only [hd, hx]
  rfl

/-- A dynamics unit that is no output's limiter reports gains of 1. -/
theorem opDynRead_of_not_outLim {x : DynSt} (hl : Live s) (ha : dynAbsent s i = false) (hd : dynDef s.oven i = some (t, d))
    (hx : dyn s i = some x) (hout : isOutLim d = false) (r : Req) :
    opDynRead r i s = replyOK r 0x0401 (dynReport d x fpOne fpOne s) s := by
  simp only [opDynRead_known hl ha hd hx, hout, Bool.false_eq_true, if_false]

/-- An output's limiter reports the gains of its output. -/
theorem opDynRead_of_outLim {x : DynSt} (hl : Live s) (ha : dynAbsent s i = false) (hd : dynDef s.oven i = some (t, d))
    (hx : dyn s i = some x) (hout : isOutLim d = true) (r : Req) :
    opDynRead r i s = replyOK r 0x0401 (dynReport d x (thermGain s (i - 0x800) s.pipeAt) (headGain s (i - 0x800)) s) s := by
  simp only [opDynRead_known hl ha hd hx, hout, if_true]

end

/-- Settles O26: each command by what it does once its checks have passed, each end of a ramp by what it leaves once it is due. -/
theorem mixCommandsComplete : Obligations.MixCommandsComplete := by
  refine ⟨⟨?xpSet, ?xpRead, ?routeSet, ?delaySet, ?delayRead⟩, ⟨?latency, ?rampEnd, ?crossfadeEnd⟩, ?dynSet, ?dynRead, ?limRead⟩
  case xpSet =>
    intro r es vs s hl hlat hes hvs hquota
    subst hvs
    exact ends_of_run (op := opXpSet r es) rfl (opXpSet_bound (live_begin hl _) hlat hes hquota)
  case xpRead =>
    intro r a b p s hl hsrc hdst hp
    exact ends_of_run (op := opXpRead r a b) rfl (opXpRead_there (live_begin hl _) hsrc hdst hp r)
  case routeSet =>
    intro r b l es vs old s hl hlat hdst hes hvs hold hquota
    subst hvs hold
    exact ends_of_run (op := opRouteSet r b l es) rfl (opRouteSet_bound (live_begin hl _) hlat hdst hes hquota l)
  case delaySet =>
    intro r es vs s hl hlat hes hvs
    subst hvs
    exact ends_of_run (op := opDelaySet r es) rfl (opDelaySet_known (live_begin hl _) hlat hes)
  case delayRead =>
    intro r k t d x s hl hd hx
    exact ends_of_run (op := opDelayRead r k) rfl (opDelayRead_known (live_begin hl _) hd hx r)
  case latency =>
    intro r a b total e f s hl ho hdst he hf htotal
    subst hf htotal
    exact ends_of_run (op := opRouteLatency r a b) rfl (opRouteLatency_reported (live_begin hl _) ho hdst he r)
  case rampEnd =>
    intro c a b p t d s u hr hu hp hd hleft hzero hc
    subst hu
    exact endsMem_of_runMem rfl ((ifRunning_run (running_begin hr c) _).trans
      (congrArg refreshMix (xpRampEnd_due hp hd hleft hzero hc)))
  case crossfadeEnd =>
    intro c k t d x s u hr hu hd hx hn hlen hc
    subst hu
    exact endsMem_of_runMem rfl ((ifRunning_run (running_begin hr c) _).trans (delayCrossfadeEnd_due hd hx hn hlen hc))
  case dynSet =>
    intro r i m f t d s hl hlat ha hd hnan
    exact ends_of_run (op := opDynSet r i m f) rfl (opDynSet_known (live_begin hl _) hlat ha hd hnan m)
  case dynRead =>
    intro r i t d x s hl ha hd hx hout
    exact ends_of_run (op := opDynRead r i) rfl (opDynRead_of_not_outLim (live_begin hl _) ha hd hx hout r)
  case limRead =>
    intro r i t d x s hl ha hd hx hout
    exact ends_of_run (op := opDynRead r i) rfl (opDynRead_of_outLim (live_begin hl _) ha hd hx hout r)

end Sys2Proof.Machine
end

section
/-! What both twins must do at once: denied on the standby, shared by the active, and timed by the target of channel 3 (R150, R206, R227, R314). -/
namespace Sys2Proof.Machine

open Sys2Proof

section
variable {r : Req} {s : State}

theorem bad_absentMod (hmod : hasMod s = true) : (absentMod s).bad = false := by simp [absentMod, hmod]
theorem bad_absentProt (hprot : hasProt s = true) : (absentProt s).bad = false := by simp [absentProt, hprot]

/-! ## On the standby -/

/-- The deny counter is not the STANDBY's: its own check comes before the quota. -/
theorem opXpSet_toStandby (hl : Live s) (h : ToStandby r s) (es : List XpEntry) :
    opXpSet r es s = reply r 0x0300 stDENIED 8 [] s := by
  have hbad : ((standbyDenied r s).bad == false) = false := by rw [standbyDenied_of_toStandby h]; rfl
  simp only [opXpSet, hbad, Bool.and_false, when_, Bool.false_eq_true, if_false]
  exact command_toStandby_first hl h _ _ _

theorem opRouteSet_toStandby (hl : Live s) (h : ToStandby r s) (b l : Nat) (es : List RouteEntry) :
    opRouteSet r b l es s = reply r 0x0302 stDENIED 8 [] s := by
  have hbad : ((standbyDenied r s).bad == false) = false := by rw [standbyDenied_of_toStandby h]; rfl
  simp only [opRouteSet, hbad, Bool.and_false, when_, Bool.false_eq_true, if_false]
  exact command_toStandby_first hl h _ _ _

theorem opDelaySet_toStandby (hl : Live s) (h : ToStandby r s) (es : List DelayEntry) :
    opDelaySet r es s = reply r 0x0304 stDENIED 8 [] s :=
  command_toStandby_first hl h _ _ _

theorem opDynSet_toStandby (hl : Live s) (h : ToStandby r s) {i : Nat} (ha : dynAbsent s i = false) (m : Nat) (f : DynFields) :
    opDynSet r i m f s = reply r 0x0400 stDENIED 8 [] s :=
  command_toStandby hl h (pre := [absentIf (dynAbsent s i)]) (by simp [ha]) _ _ _

theorem opStageTrain_toStandby (hl : Live s) (h : ToStandby r s) (hmod : hasMod s = true) (hf : HandleFree r s) (m : Nat) :
    opStageTrain r m s = reply r 0x0600 stDENIED 8 [] s :=
  command_toStandby hl h (pre := [absentMod s, handleLimit r s]) (by simp [bad_absentMod hmod, bad_handleLimit hf]) _ _ _

theorem opStageRun_toStandby (hl : Live s) (h : ToStandby r s) (hmod : hasMod s = true) (m action : Nat) :
    opStageRun r m action s = reply r 0x0601 stDENIED 8 [] s :=
  command_toStandby hl h (pre := [absentMod s]) (by simp [bad_absentMod hmod]) _ _ _

theorem opStageSet_toStandby (hl : Live s) (h : ToStandby r s) (hmod : hasMod s = true) (o m : Nat) (ws : List Word) :
    opStageSet r o m ws s = reply r 0x0602 stDENIED 8 [] s :=
  command_toStandby hl h (pre := [absentMod s]) (by simp [bad_absentMod hmod]) _ _ _

theorem opProtSet_toStandby (hl : Live s) (h : ToStandby r s) (hprot : hasProt s = true) (o m : Nat) (ws : List Word) :
    opProtSet r o m ws s = reply r 0x0610 stDENIED 8 [] s :=
  command_toStandby hl h (pre := [absentProt s]) (by simp [bad_absentProt hprot]) _ _ _

theorem opProtSweep_toStandby (hl : Live s) (h : ToStandby r s) (hprot : hasProt s = true) (hf : HandleFree r s) (o : Nat) :
    opProtSweep r o s = reply r 0x0612 stDENIED 8 [] s :=
  command_toStandby hl h (pre := [absentProt s, handleLimit r s]) (by simp [bad_absentProt hprot, bad_handleLimit hf]) _ _ _

theorem opProtCal_toStandby (hl : Live s) (h : ToStandby r s) (hprot : hasProt s = true) (hf : HandleFree r s) (o k : Nat) :
    opProtCal r o k s = reply r 0x0613 stDENIED 8 [] s :=
  command_toStandby hl h (pre := [absentProt s, handleLimit r s]) (by simp [bad_absentProt hprot, bad_handleLimit hf]) _ _ _

/-! ## Staged for both twins (R314) -/

section
variable (op : Nat) (p : List Byte) (ws : List StagedWrite)

theorem dueOf_of_target {d : Word} (ht : r.target = some d) : dueOf r s = d := by simp only [dueOf, ht]

/-- A write of the active goes to its joined standby with the boundary it takes effect at. -/
theorem wire_stage_of_joined (hj : joined s = true) (ht : r.target = none) :
    (stage r op p ws s).wire = s.wire ++ [.ch3 (dueOf r s) op p] := by
  simp only [stage, hj, ht, Option.isNone_none, Bool.and_self, if_true]
  rfl

/-- A write that came with its boundary is sent to no one. -/
theorem wire_stage_of_target {d : Word} (ht : r.target = some d) : (stage r op p ws s).wire = s.wire := by
  simp only [stage, ht, Option.isNone_some, Bool.and_false, Bool.false_eq_true, if_false]

end

/-! ## Handled commands with a target boundary (R314) -/

theorem bad_standbyDenied_of_reaches (h : getF s fTWIN_STAT_ROLE ≠ 2 ∨ r.ch = 3) : (standbyDenied r s).bad = false := by
  rcases h with hrole | hch
  · simp [standbyDenied, hrole]
  · simp [standbyDenied, hch]

theorem startOrStage_of_targeted (ht : targeted r s = true) (op : Nat) (p : List Byte) (w : StagedWrite) (now : State → State) :
    startOrStage r op p w now s = stage r op p [w] s := if_pos ht

section
variable (hl : Live s) (hf : HandleFree r s) (hrole : getF s fTWIN_STAT_ROLE ≠ 2 ∨ r.ch = 3) (ht : targeted r s = true)
include hl hf hrole ht

theorem opStageTrain_targeted {m : Nat} (hmod : hasMod s = true) (hm : m % 65536 ≠ 0)
    (hlatched : ∀ n ∈ maskList 16 (m % 65536), outState s n ≠ oLATCHED) (hlanes : m % 65536 &&& trainingLanes s = 0) :
    opStageTrain r m s = accept r 0x0600 (.train (m % 65536))
      (stage r 0x0600 (be2 (m % 65536) ++ [0, 0]) [.train (m % 65536)] s) := by
  have hnone : (maskList 16 (m % 65536)).any (fun n => outState s n == oLATCHED) = false :=
    List.any_eq_false.2 fun n hn => by simp [hlatched n hn]
  rw [opStageTrain, command_live hl _ _ _ _ (find?_bad_eq_none (by
    simp [bad_absentMod hmod, bad_handleLimit hf, bad_standbyDenied_of_reaches hrole, hm, hnone, hlanes])), startOrStage_of_targeted ht]

theorem opProtSweep_targeted {o : Nat} (hprot : hasProt s = true) (harmed : outState s (min o 15) = oARMED)
    (hfree : sweepsOn (min o 15) s = false) : opProtSweep r o s = accept r 0x0612 (.sweep (min o 15))
      (stage r 0x0612 [byteOf (min o 15), 0, 0, 0] [.sweep (min o 15)] s) := by
  rw [opProtSweep, clampHi_eq_min, command_live hl _ _ _ _ (find?_bad_eq_none (by
    simp [bad_absentProt hprot, bad_handleLimit hf, bad_standbyDenied_of_reaches hrole, harmed, hfree])), startOrStage_of_targeted ht]

theorem opProtCal_targeted {o : Nat} (hprot : hasProt s = true) (hsource : sourceBarred s (min o 15) = false)
    (hrun : outState s (min o 15) = oRUN) (hfree : calsOn (min o 15) s = false) (k : Nat) :
    opProtCal r o k s = accept r 0x0613 (.cal (min o 15))
      (stage r 0x0613 [byteOf (min o 15), byteOf (BitVec.ofInt 8 (clampI (-40) 60 (signed 8 (k % 256)))).toNat, 0, 0]
        [.cal (min o 15) (clampI (-40) 60 (signed 8 (k % 256)))] s) := by
  rw [opProtCal, clampHi_eq_min, command_live hl _ _ _ _ (find?_bad_eq_none (by
    simp [bad_absentProt hprot, bad_handleLimit hf, bad_standbyDenied_of_reaches hrole, hsource, hrun, hfree]))]
  dsimp only
  rw [startOrStage_of_targeted ht]

end

end

/-- On a standby each of the four actions of STAGE_RUN is denied. -/
theorem ends_stageRun_toStandby {r : Req} {s : State} (hl : Live s) (h : ToStandby r s) (hmod : hasMod s = true) (m : Nat) :
    ∀ i ∈ [Instr.stageRunRun r m, .stageRunArm r m, .stageRunOff r m, .stageRunClearLatch r m],
      Ends i r.c s (reply r 0x0601 stDENIED 8 []) := by
  have hdenied (action : Nat) : opStageRun r m action (begin_ r.c s) = reply r 0x0601 stDENIED 8 [] (begin_ r.c s) :=
    opStageRun_toStandby (s := begin_ r.c s) hl ⟨h.role, h.own⟩ hmod m action
  simp only [List.forall_mem_cons, List.not_mem_nil, false_imp_iff, implies_true, and_true]
  exact ⟨ends_of_run rfl (hdenied 0), ends_of_run rfl (hdenied 1), ends_of_run rfl (hdenied 2), ends_of_run rfl (hdenied 3)⟩

/-- Settles O45: the standby's check answers first, staging follows R314, and a handled command with a target is accepted and staged. -/
theorem twinsShareCommands : Obligations.TwinsShareCommands := by
  refine ⟨?standby, ?staging, ?train, ?protection⟩
  case standby =>
    intro r s hl hrole hch
    have hlb : Live (begin_ r.c s) := live_begin hl _
    have hb : ToStandby r (begin_ r.c s) := ⟨hrole, hch⟩
    refine ⟨fun xs b l rs ds => ⟨?xp, ?route, ?delay⟩, fun k m f ha => ?dyn,
      fun m o ws hmod => ⟨fun hf => ?stageTrain, ends_stageRun_toStandby hl ⟨hrole, hch⟩ hmod m, ?stageSet⟩,
      fun m o k ws hprot => ⟨?protSet, fun hf => ⟨?protSweep, ?protCal⟩⟩⟩
    case xp => exact ends_of_run (op := opXpSet r xs) rfl (opXpSet_toStandby hlb hb xs)
    case route => exact ends_of_run (op := opRouteSet r b l rs) rfl (opRouteSet_toStandby hlb hb b l rs)
    case delay => exact ends_of_run (op := opDelaySet r ds) rfl (opDelaySet_toStandby hlb hb ds)
    case dyn => exact ends_of_run (op := opDynSet r k m f) rfl (opDynSet_toStandby hlb hb ha m f)
    case stageTrain => exact ends_of_run (op := opStageTrain r m) rfl (opStageTrain_toStandby hlb hb hmod hf m)
    case stageSet => exact ends_of_run (op := opStageSet r o m ws) rfl (opStageSet_toStandby hlb hb hmod o m ws)
    case protSet => exact ends_of_run (op := opProtSet r o m ws) rfl (opProtSet_toStandby hlb hb hprot o m ws)
    case protSweep => exact ends_of_run (op := opProtSweep r o) rfl (opProtSweep_toStandby hlb hb hprot hf o)
    case protCal => exact ends_of_run (op := opProtCal r o k) rfl (opProtCal_toStandby hlb hb hprot hf o k)
  case staging =>
    intro r op p ws s
    exact ⟨stage_staging r op p ws s, wire_stage_of_joined op p ws,
      fun d ht => ⟨dueOf_of_target ht, wire_stage_of_target op p ws ht⟩⟩
  case train =>
    intro r m s hl hmod hf hrole hm hlatched hlanes ht
    exact ends_of_run (op := opStageTrain r m) rfl (opStageTrain_targeted (live_begin hl _) hf hrole ht hmod hm hlatched hlanes)
  case protection =>
    intro r o s hl hprot hf hrole ht
    refine ⟨fun harmed hfree => ?sweep, fun k hsource hrun hfree => ?cal⟩
    case sweep =>
      exact ends_of_run (op := opProtSweep r o) rfl (opProtSweep_targeted (live_begin hl _) hf hrole ht hprot harmed hfree)
    case cal =>
      exact ends_of_run (op := opProtCal r o k) rfl (opProtCal_targeted (live_begin hl _) hf hrole ht hprot hsource hrun hfree k)

end Sys2Proof.Machine
end

section
/-! What an event may change of the state: a part of it, new shards at the Kiln, and register fields of some units (R334, R372). -/
namespace Sys2Proof.Machine

open Sys2Proof

theorem foldState_keeps {α β : Type} (g : State → β) {f : α → State → State} (hf : ∀ a s, g (f a s) = g s) (l : List α) (s : State) :
    g (foldState f l s) = g s :=
  List.foldlRecOn (motive := fun t => g t = g s) l _ rfl fun t ht a _ => (hf a t).trans ht

/-- The part of the state that a family of events may change: `part s t` is `s` with that part of `t`. Registers and the Kiln are in it,
and so is what every command begins with. -/
structure EventPart (part : State → State → State) : Prop where
  self : ∀ s, part s s = s
  trans : ∀ s t u, part (part s t) u = part s u
  regs : ∀ s m, part s { s with regs := m } = { s with regs := m }
  kiln : ∀ s k, part s { s with kiln := k } = { s with kiln := k }
  begin_ : ∀ c s, part s (begin_ c s) = begin_ c s
  after : ∀ s t, after s (part s t) = part s t

/-- From `s` to `t` only a part of the state, shards that wait and register fields of some units have changed. -/
def Leaves (part : State → State → State) (units : List Nat) (s t : State) : Prop :=
  t = part s t ∧ OnlySends s t ∧ RegsKept units s t

section
variable {part : State → State → State} (hp : EventPart part) {units : List Nat}

theorem leaves_of_part {s t : State} (ht : t = part s t) (hk : t.kiln = s.kiln) (hr : t.regs = s.regs) : Leaves part units s t :=
  ⟨ht, by rw [OnlySends, hk], fun f _ => by rw [getF, getF, hr]⟩

include hp

theorem leaves_refl (s : State) : Leaves part units s s := leaves_of_part (hp.self s).symm rfl rfl

theorem leaves_trans {s t u : State} (h : Leaves part units s t) (h' : Leaves part units t u) : Leaves part units s u := by
  obtain ⟨hpart, hkiln, hregs⟩ := h
  obtain ⟨hpart', hkiln', hregs'⟩ := h'
  refine ⟨?_, ?_, fun f hf => (hregs' f hf).trans (hregs f hf)⟩
  · calc u = part t u := hpart'
      _ = part (part s t) u := congrArg (part · u) hpart
      _ = part s u := hp.trans s t u
  · calc u.kiln = { t.kiln with waiting := u.kiln.waiting } := hkiln'
      _ = { s.kiln with waiting := u.kiln.waiting } := by rw [hkiln]

theorem leaves_foldState {α : Type} {f : α → State → State} {l : List α} {s t : State} (h : Leaves part units s t)
    (hf : ∀ a ∈ l, ∀ u, Leaves part units u (f a u)) : Leaves part units s (foldState f l t) :=
  List.foldlRecOn (motive := Leaves part units s) l _ h fun u hu a ha => leaves_trans hp hu (hf a ha u)

theorem leaves_setF {f : Fld} {s t : State} (h : Leaves part units s t) (hf : unitOfAddr (f.key / 32) ∈ units) (v : Nat) :
    Leaves part units s (setF f v t) :=
  leaves_trans hp h ⟨(hp.regs t _).symm, rfl, fun g hg => getF_setF_ne f g v t fun hkey => hg (hkey ▸ hf)⟩

/-- A shard waits at the Kiln, or its counter of dropped ones counts. -/
theorem leaves_send {s t : State} (h : Leaves part units s t) (h1 : 1 ∈ units) (src inst cls kind ctx : Nat) :
    Leaves part units s (send src inst cls kind ctx t) := by
  unfold send enqueue
  split
  · exact leaves_setF hp (f := fKILN_CNT_DROP) h h1 _
  · exact leaves_trans hp h ⟨(hp.kiln t _).symm, rfl, fun _ _ => rfl⟩

/-- What an event leaves, from what its effect leaves. -/
theorem leaves_event {i : Instr} {c : Nat} {op : State → State} {s t : State} (ht : exec i s = .next t)
    (hexec : exec i s = run c (ifRunning op) s) (hop : ∀ u, Leaves part units u (op u)) : Leaves part units s t := by
  have hrun : Leaves part units s (ifRunning op (begin_ c s)) := by
    refine leaves_trans hp (t := begin_ c s) (leaves_of_part (hp.begin_ c s).symm rfl rfl) ?_
    unfold ifRunning
    split
    · exact hop _
    · exact leaves_refl hp _
  have hafter : after s (ifRunning op (begin_ c s)) = ifRunning op (begin_ c s) := by
    rw [hrun.1, hp.after]
  have hnext : t = ifRunning op (begin_ c s) := by
    rw [hexec, run_eq, hafter] at ht
    exact (Host.Outcome.next.inj ht).symm
  rw [hnext]
  exact hrun

end

end Sys2Proof.Machine
end

section
/-! How a port's state moves (R157 to R165, R174). -/
namespace Sys2Proof.Machine

open Sys2Proof

/-! ## Places of the port fields (R173) -/

/-- Where the fields of a port stand, and of a channel of the ASRC bank. -/
theorem portKeys (n : Nat) :
    (fPORT_STS_STATE n).key = 0x40080104 * 32 + 512 * n ∧
    (fPORT_STS_RATE n).key = 0x40080104 * 32 + 512 * n + 3 ∧
    (fPORT_CNT_LOSTC n).key = 0x40080108 * 32 + 512 * n ∧
    (fPORT_CNT_GLITCHC n).key = 0x40080108 * 32 + 512 * n + 8 ∧
    (fASRC_RATIO_RATIO n).key = 0x40081000 * 32 + 256 * n ∧
    (fASRC_FRAC_FRACTION n).key = 0x40081004 * 32 + 256 * n ∧
    (fASRC_FRAC_LOCK n).key = 0x40081004 * 32 + 256 * n + 31 := by
  simp only [Fld.key, fieldKey, fPORT_STS_STATE, fPORT_STS_RATE, rPORT_STS, fPORT_CNT_LOSTC, fPORT_CNT_GLITCHC, rPORT_CNT, fASRC_RATIO_RATIO,
    rASRC_RATIO, fASRC_FRAC_FRACTION, fASRC_FRAC_LOCK, rASRC_FRAC]
  omega

/-- Where the fields stand that show several ports, and the count of dropped shards. -/
theorem portStatKeys :
    fPORT_STAT_LOST.key = 0x40080000 * 32 ∧ fPORT_STAT_RUN.key = 0x40080000 * 32 + 8 ∧ fKILN_CNT_DROP.key = 0x40010014 * 32 + 24 := by
  decide

/-! ## What the operations on a port leave -/

theorem getF_setPortState {f : Fld} {n : Nat} (hstate : f.key ≠ (fPORT_STS_STATE n).key) (hlost : f.key ≠ fPORT_STAT_LOST.key)
    (hrun : f.key ≠ fPORT_STAT_RUN.key) (v : Nat) (s : State) : getF (setPortState n v s) f = getF s f := by
  rw [setPortState, setMaskBit, getF_setF_ne _ _ _ _ hrun, setMaskBit, getF_setF_ne _ _ _ _ hlost, getF_setF_ne _ _ _ _ hstate]

theorem portState_setPortState {v : Nat} (hv : v < 8) (n : Nat) (s : State) : portState (setPortState n v s) n = v := by
  have hlost : (fPORT_STS_STATE n).key ≠ fPORT_STAT_LOST.key := by simp only [portKeys, portStatKeys]; omega
  have hrun : (fPORT_STS_STATE n).key ≠ fPORT_STAT_RUN.key := by simp only [portKeys, portStatKeys]; omega
  rw [portState, setPortState, setMaskBit, getF_setF_ne _ _ _ _ hrun, setMaskBit, getF_setF_ne _ _ _ _ hlost, getF_setF_self]
  exact Nat.mod_eq_of_lt hv

theorem getF_rate_setPortState (n m v : Nat) (s : State) : getF (setPortState n v s) (fPORT_STS_RATE m) = getF s (fPORT_STS_RATE m) :=
  getF_setPortState (by simp only [portKeys]; omega) (by simp only [portKeys, portStatKeys]; omega)
    (by simp only [portKeys, portStatKeys]; omega) v s

theorem getF_setPort (n : Nat) (q : PortSt) (s : State) (f : Fld) : getF (setPort n q s) f = getF s f := rfl

theorem portState_useFree (s : State) (n : Nat) : portState (useFree s) n = portState s n := rfl

theorem getF_useFree (s : State) (f : Fld) : getF (useFree s) f = getF s f := rfl

theorem getF_after (s t : State) (f : Fld) : getF (after s t) f = getF t f := rfl

theorem portState_after (s t : State) (n : Nat) : portState (after s t) n = portState t n := rfl

theorem kiln_after (s t : State) : (after s t).kiln = t.kiln := rfl

theorem portState_send (src inst cls kind ctx n : Nat) (s : State) : portState (send src inst cls kind ctx s) n = portState s n :=
  getF_send (by simp only [portKeys, portStatKeys]; omega) src inst cls kind ctx s

theorem getF_rate_send (src inst cls kind ctx n : Nat) (s : State) :
    getF (send src inst cls kind ctx s) (fPORT_STS_RATE n) = getF s (fPORT_STS_RATE n) :=
  getF_send (by simp only [portKeys, portStatKeys]; omega) src inst cls kind ctx s

theorem getF_rate_setF {k : Nat} (hk : k < 8) (n : Nat) (s : State) : getF (setF (fPORT_STS_RATE n) k s) (fPORT_STS_RATE n) = k :=
  (getF_setF_self _ _ _).trans (Nat.mod_eq_of_lt hk)

theorem kiln_setF (f : Fld) (v : Nat) (s : State) : (setF f v s).kiln = s.kiln := rfl

theorem port_setF (f : Fld) (v : Nat) (s : State) (n : Nat) : port (setF f v s) n = port s n := rfl

theorem portState_setF_rate (n v : Nat) (s : State) : portState (setF (fPORT_STS_RATE n) v s) n = portState s n :=
  getF_setF_ne _ _ _ _ (by simp only [portKeys]; omega)

theorem getF_unlockAsrc {f : Fld} (hf : ∀ k, f.key ≠ (fASRC_FRAC_LOCK k).key) (n : Nat) (s : State) :
    getF (unlockAsrc n s) f = getF s f :=
  foldState_keeps (getF · f) (fun k t => getF_setF_ne _ f 0 t (hf k)) _ s

theorem kiln_unlockAsrc (n : Nat) (s : State) : (unlockAsrc n s).kiln = s.kiln :=
  foldState_keeps State.kiln (f := fun k => setF (fASRC_FRAC_LOCK k) 0) (fun k => kiln_setF (fASRC_FRAC_LOCK k) 0) _ s

theorem kiln_setPortState (n v : Nat) (s : State) : (setPortState n v s).kiln = s.kiln := by
  rw [setPortState, setMaskBit, kiln_setF, setMaskBit, kiln_setF, kiln_setF]

theorem room_congr {s t : State} {src : Nat} (h : t.kiln = s.kiln) (hr : Room src s) : Room src t := by
  rw [Room, h]
  exact hr

theorem queued_congr {src inst cls kind ctx : Nat} {s t : State} (h : t.kiln = s.kiln) (hq : Queued src inst cls kind ctx s) :
    Queued src inst cls kind ctx t := by
  rw [Queued, h]
  exact hq

/-! ## LOST and a change of rate (R163, R165) -/

section
variable {n : Nat} {p : PortDef} {s : State}

/-- LOST as the audio of a port shows it: a converting one fades, and a claim pair that obeyed it holds (R163, R172). -/
def lostAudio (n : Nat) (p : PortDef) (s : State) : State :=
  let q := port s n
  when_ (p.claimPair && obeyed s (n / 2) == n && !claimHigher ((port s (n + 1 - 2 * (n % 2))).claim.getD 0) (q.claim.getD 0))
    (fun u => setPair (n / 2) (startHold (pair u (n / 2))) u)
    (setPort n { q with fade := if p.asrc then fadeDown 48 q.fade else q.fade } s)

theorem regs_lostAudio (n : Nat) (p : PortDef) (s : State) : (lostAudio n p s).regs = s.regs := by
  unfold lostAudio when_
  dsimp only
  split <;> rfl

theorem kiln_lostAudio (n : Nat) (p : PortDef) (s : State) : (lostAudio n p s).kiln = s.kiln := by
  unfold lostAudio when_
  dsimp only
  split <;> rfl

theorem getF_lostAudio (n : Nat) (p : PortDef) (s : State) (f : Fld) : getF (lostAudio n p s) f = getF s f := by
  rw [getF, regs_lostAudio, getF]

theorem lostPort_eq (hd : portDef s.oven n = some p) : lostPort n s =
    send 8 n 3 1 0 (bump (fPORT_CNT_LOSTC n) (setPortState n pLOST (unlockAsrc n (lostAudio n p s)))) := by
  rw [lostPort, hd]
  rfl

theorem portState_lostPort (hd : portDef s.oven n = some p) : portState (lostPort n s) n = pLOST := by
  rw [lostPort_eq hd, portState_send, portState, getF_bump_ne (by simp only [portKeys]; omega)]
  exact portState_setPortState (by decide) n _

theorem queued_lostPort (hd : portDef s.oven n = some p) (hr : Room 8 s) : Queued 8 n 3 1 0 (lostPort n s) := by
  have hkiln : (bump (fPORT_CNT_LOSTC n) (setPortState n pLOST (unlockAsrc n (lostAudio n p s)))).kiln = s.kiln := by
    rw [bump, bumpN, kiln_setF, kiln_setPortState, kiln_unlockAsrc, kiln_lostAudio]
  rw [lostPort_eq hd]
  exact send_queued (room_congr hkiln hr) n 3 1 0

theorem getF_lostc_lostPort (hd : portDef s.oven n = some p) : getF (lostPort n s) (fPORT_CNT_LOSTC n) =
    min (2 ^ (fPORT_CNT_LOSTC n).width - 1) (getF s (fPORT_CNT_LOSTC n) + 1) := by
  have hlock (k : Nat) : (fPORT_CNT_LOSTC n).key ≠ (fASRC_FRAC_LOCK k).key := by simp only [portKeys]; omega
  have hinner : getF (setPortState n pLOST (unlockAsrc n (lostAudio n p s))) (fPORT_CNT_LOSTC n) = getF s (fPORT_CNT_LOSTC n) := by
    rw [getF_setPortState (by simp only [portKeys]; omega) (by simp only [portKeys, portStatKeys]; omega)
      (by simp only [portKeys, portStatKeys]; omega), getF_unlockAsrc hlock, getF_lostAudio]
  rw [lostPort_eq hd, getF_send (by simp only [portKeys, portStatKeys]; omega), getF_bump_self, hinner]

/-- A port with a rate change fades where it converts, and forgets its lock and its frame errors. -/
def unsettledPort (p : PortDef) (q : PortSt) : PortSt :=
  { q with fade := if p.asrc then fadeDown 48 q.fade else q.fade, frameErrs := 0, locked := false }

theorem rateChanged_eq (hd : portDef s.oven n = some p) : rateChanged n s =
    setPortState n pDETECT (send 8 n 3 2 0 (setF (fPORT_STS_RATE n) 0
      (unlockAsrc n (setPort n (unsettledPort p (port s n)) s)))) := by
  rw [rateChanged, hd]
  rfl

theorem portState_rateChanged (hd : portDef s.oven n = some p) : portState (rateChanged n s) n = pDETECT := by
  rw [rateChanged_eq hd, portState_setPortState (by decide)]

theorem getF_rate_rateChanged (hd : portDef s.oven n = some p) : getF (rateChanged n s) (fPORT_STS_RATE n) = 0 := by
  rw [rateChanged_eq hd, getF_rate_setPortState, getF_rate_send, getF_rate_setF (by decide)]

theorem queued_rateChanged (hd : portDef s.oven n = some p) (hr : Room 8 s) : Queued 8 n 3 2 0 (rateChanged n s) := by
  rw [rateChanged_eq hd]
  have hkiln : (setF (fPORT_STS_RATE n) 0 (unlockAsrc n (setPort n (unsettledPort p (port s n)) s))).kiln = s.kiln := by
    rw [kiln_setF, kiln_unlockAsrc]
    rfl
  exact queued_congr (kiln_setPortState ..) (send_queued (room_congr hkiln hr) n 3 2 0)

/-! ## A classified rate (R162, R165) -/

theorem classifies {k : Nat} (hm : p.master = false) (hst : portState s n = pDETECT) (h1 : 1 ≤ k) (h6 : k ≤ 6) :
    ¬(p.master = true ∨ portState s n ≠ pDETECT ∨ k = 0 ∨ 6 < k) := by
  rw [hm, hst]
  simp only [Bool.false_eq_true, ne_eq, not_true_eq_false, false_or]
  omega

section
variable {k : Nat} (hd : portDef s.oven n = some p) (hm : p.master = false) (hst : portState s n = pDETECT) (h1 : 1 ≤ k) (h6 : k ≤ 6)
include hd hm hst h1 h6

theorem classified_converting (ha : p.asrc = true) : classified n k s =
    setPortState n pACQUIRE (unlockAsrc n (setPort n { port s n with locked := false } (setF (fPORT_STS_RATE n) k s))) := by
  simp only [classified, hd, if_neg (classifies hm hst h1 h6), ha, if_true]
  rfl

theorem classified_right (ha : p.asrc = false) (hk : k = p.rate) : classified n k s =
    useFree (setPortState n pALIGN (setPort n { port s n with alignLeft := 1 + (freeWord s).toNat % 2 } (setF (fPORT_STS_RATE n) k s))) := by
  simp only [classified, hd, if_neg (classifies hm hst h1 h6), ha, Bool.false_eq_true, if_false, if_pos hk]
  rfl

theorem classified_wrong (ha : p.asrc = false) (hk : k ≠ p.rate) :
    classified n k s = send 8 n 3 2 0 (setF (fPORT_STS_RATE n) k s) := by
  simp only [classified, hd, if_neg (classifies hm hst h1 h6), ha, Bool.false_eq_true, if_false, if_neg hk]

end

end

theorem getF_rate_acquiring {k : Nat} (hk : k < 8) (n : Nat) (q : PortSt) (s : State) :
    getF (setPortState n pACQUIRE (unlockAsrc n (setPort n q (setF (fPORT_STS_RATE n) k s)))) (fPORT_STS_RATE n) = k := by
  have hlock (j : Nat) : (fPORT_STS_RATE n).key ≠ (fASRC_FRAC_LOCK j).key := by simp only [portKeys]; omega
  rw [getF_rate_setPortState, getF_unlockAsrc hlock, getF_setPort, getF_rate_setF hk]

theorem getF_rate_aligning {k : Nat} (hk : k < 8) (n : Nat) (q : PortSt) (s : State) :
    getF (useFree (setPortState n pALIGN (setPort n q (setF (fPORT_STS_RATE n) k s)))) (fPORT_STS_RATE n) = k := by
  rw [getF_useFree, getF_rate_setPortState, getF_setPort, getF_rate_setF hk]

/-! ## The ratio trackers (R160, R165) -/

/-- What holds after the step of one element of a list, and every step keeps, holds after all. -/
theorem foldState_of_mem {α : Type} {P : State → Prop} {f : α → State → State} {a : α} {l : List α} (ha : a ∈ l)
    (hself : ∀ s, P (f a s)) (hkeep : ∀ b s, P s → P (f b s)) (s : State) : P (foldState f l s) := by
  obtain ⟨l₁, l₂, rfl⟩ := List.append_of_mem ha
  rw [foldState, List.foldl_append, List.foldl_cons]
  exact List.foldlRecOn l₂ _ (hself _) fun t ht b _ => hkeep b t ht

/-- Channel `k` of the ASRC bank shows a lock. -/
def ShowsLock (k ratio fraction : Nat) (t : State) : Prop :=
  getF t (fASRC_RATIO_RATIO k) = ratio ∧ getF t (fASRC_FRAC_FRACTION k) = fraction ∧ getF t (fASRC_FRAC_LOCK k) = 1

/-- The registers of a locked channel. -/
def lockChan (ratio fraction k : Nat) (s : State) : State :=
  setF (fASRC_FRAC_LOCK k) 1 (setF (fASRC_FRAC_FRACTION k) fraction (setF (fASRC_RATIO_RATIO k) ratio s))

/-- The fields in which a channel shows a lock. -/
def lockFields (k : Nat) : List Fld := [fASRC_RATIO_RATIO k, fASRC_FRAC_FRACTION k, fASRC_FRAC_LOCK k]

theorem lockAsrc_eq (owner ratio fraction : Nat) (s : State) :
    lockAsrc owner ratio fraction s = foldState (lockChan ratio (fraction % 25600)) (asrcChans s owner) s := rfl

theorem getF_lockChan_ne {k : Nat} {f : Fld} (hf : ∀ g ∈ lockFields k, f.key ≠ g.key) (ratio fraction : Nat) (s : State) :
    getF (lockChan ratio fraction k s) f = getF s f := by
  simp only [lockFields, List.forall_mem_cons] at hf
  obtain ⟨hratio, hfrac, hlock, -⟩ := hf
  rw [lockChan, getF_setF_ne _ _ _ _ hlock, getF_setF_ne _ _ _ _ hfrac, getF_setF_ne _ _ _ _ hratio]

theorem showsLock_lockChan {ratio fraction : Nat} (hr : ratio < 2 ^ 32) (hf : fraction < 2 ^ 15) (k : Nat) (s : State) :
    ShowsLock k ratio fraction (lockChan ratio fraction k s) := by
  refine ⟨?_, ?_, getF_setF_self _ _ _⟩
  · rw [lockChan, getF_setF_ne _ _ _ _ (by simp only [portKeys]; omega), getF_setF_ne _ _ _ _ (by simp only [portKeys]; omega),
      getF_setF_self]
    exact Nat.mod_eq_of_lt hr
  · rw [lockChan, getF_setF_ne _ _ _ _ (by simp only [portKeys]; omega), getF_setF_self]
    exact Nat.mod_eq_of_lt hf

/-- The lock of one channel leaves what another shows. -/
theorem showsLock_lockChan_ne {j k ratio fraction : Nat} {s : State} (hj : j ≠ k) (h : ShowsLock k ratio fraction s) (a b : Nat) :
    ShowsLock k ratio fraction (lockChan a b j s) := by
  have hne : ∀ f ∈ lockFields k, ∀ g ∈ lockFields j, f.key ≠ g.key := by
    simp only [lockFields, List.forall_mem_cons, List.not_mem_nil, false_imp_iff, implies_true, and_true, portKeys]
    omega
  have hkeep : ∀ f ∈ lockFields k, getF (lockChan a b j s) f = getF s f := fun f hf => getF_lockChan_ne (hne f hf) a b s
  simp only [lockFields, List.forall_mem_cons] at hkeep
  obtain ⟨hratio, hfrac, hlock, -⟩ := hkeep
  obtain ⟨hratio₀, hfrac₀, hlock₀⟩ := h
  exact ⟨hratio.trans hratio₀, hfrac.trans hfrac₀, hlock.trans hlock₀⟩

theorem showsLock_lockAsrc {owner ratio k : Nat} {s : State} (hr : ratio < 2 ^ 32) (hk : k ∈ asrcChans s owner) (fraction : Nat) :
    ShowsLock k ratio (fraction % 25600) (lockAsrc owner ratio fraction s) := by
  have hf : fraction % 25600 < 2 ^ 15 := by omega
  rw [lockAsrc_eq]
  refine foldState_of_mem hk (showsLock_lockChan hr hf k) (fun j t ht => ?_) s
  by_cases hj : j = k
  · subst hj
    exact showsLock_lockChan hr hf j t
  · exact showsLock_lockChan_ne hj ht _ _

theorem port_lockChan (ratio fraction k n : Nat) (s : State) : port (lockChan ratio fraction k s) n = port s n := by
  rw [lockChan, port_setF, port_setF, port_setF]

theorem port_lockAsrc (owner ratio fraction : Nat) (s : State) (n : Nat) : port (lockAsrc owner ratio fraction s) n = port s n := by
  rw [lockAsrc_eq]
  exact foldState_keeps (port · n) (fun k => port_lockChan ratio (fraction % 25600) k n) _ s

/-! ## The events -/

section
variable {c : Nat} {n : Fin 8} {p : PortDef} {s : State}

/-- At its cycle an event finds the port still in RUN, on a clock that it receives. -/
theorem slaveRuns_begin (hm : p.master = false) (hst : portState s n = pRUN) (c : Nat) :
    (!p.master && portState (begin_ c s) n == pRUN) = true := by
  have hrun : portState (begin_ c s) n = pRUN := hst
  rw [hm, hrun]
  rfl

theorem ends_portLost (hr : Running s) (hd : portDef s.oven n = some p) (hm : p.master = false) (hst : portState s n = pRUN) :
    Ends (.portLost c n) c s (lostPort n) := by
  refine ends_of_run (op := ifRunning _) rfl ((ifRunning_run (running_begin hr c) _).trans ?_)
  simp only [begin_fields, hd, slaveRuns_begin hm hst, if_true]

theorem ends_rateChange (hr : Running s) (hd : portDef s.oven n = some p) (hm : p.master = false) (hst : portState s n = pRUN) :
    Ends (.rateChange c n) c s (rateChanged n) := by
  refine ends_of_run (op := ifRunning _) rfl ((ifRunning_run (running_begin hr c) _).trans ?_)
  simp only [begin_fields, hd, slaveRuns_begin hm hst, if_true]

theorem ends_asrcLock_port (hr : Running s) (hst : portState s n = pACQUIRE) (w : Word) (f : Nat) :
    Ends (.asrcLock c n w f) c s (fun u => lockAsrc n w.toNat f (setPort n { port u n with locked := true } u)) :=
  ends_of_run (op := ifRunning _) rfl ((ifRunning_run (running_begin hr c) _).trans ((if_pos n.isLt).trans (if_pos hst)))

theorem ends_asrcLock_stream {o : Nat} (hr : Running s) (h8 : 8 ≤ o) (hst : (stream s o).state ≠ 0) (w : Word) (f : Nat) :
    Ends (.asrcLock c o w f) c s (lockAsrc o w.toNat f) :=
  ends_of_run (op := ifRunning _) rfl
    ((ifRunning_run (running_begin hr c) _).trans ((if_neg (Nat.not_lt.2 h8)).trans (if_neg hst)))

theorem ends_acquireTimeout (hr : Running s) (hst : portState s n = pACQUIRE) (hl : (port s n).locked = false) :
    Ends (.acquireTimeout c n) c s (fun u => send 8 n 3 2 0 (setPortState n pDETECT (setF (fPORT_STS_RATE n) 0 u))) :=
  ends_of_run (op := ifRunning _) rfl
    ((ifRunning_run (running_begin hr c) _).trans (if_pos ⟨hst, congrArg (!·) hl⟩))

theorem ends_portRateRepeat (hr : Running s) (hd : portDef s.oven n = some p) (hm : p.master = false) (ha : p.asrc = false)
    (hst : portState s n = pDETECT) (h0 : getF s (fPORT_STS_RATE n) ≠ 0) (hrate : getF s (fPORT_STS_RATE n) ≠ p.rate) :
    Ends (.portRateRepeat c n) c s (send 8 n 3 2 0) := by
  refine ends_of_run (op := ifRunning _) rfl ((ifRunning_run (running_begin hr c) _).trans ?_)
  have hst' : portState (begin_ c s) n = pDETECT := hst
  simp [hd, hm, ha, hst', getF_begin, h0, hrate]

end

/-- Settles O28: each event by its effect, and each effect by what it leaves in the port's fields and at the Kiln. -/
theorem portStatesMove : Obligations.PortStatesMove := by
  refine ⟨?lost, ?change, ?classify, ?lockPort, ?lockStream, ?timeout, ?again⟩
  case lost =>
    intro c n p s hr hd hm hst hroom
    have hdef : portDef (begin_ c s).oven n = some p := hd
    exact ⟨_, ends_portLost hr hd hm hst, (portState_after ..).trans (portState_lostPort hdef),
      queued_congr (kiln_after ..) (queued_lostPort hdef hroom), (getF_after ..).trans (getF_lostc_lostPort hdef)⟩
  case change =>
    intro c n p s hr hd hm hst hroom
    have hdef : portDef (begin_ c s).oven n = some p := hd
    exact ⟨_, ends_rateChange hr hd hm hst, (portState_after ..).trans (portState_rateChanged hdef),
      (getF_after ..).trans (getF_rate_rateChanged hdef), queued_congr (kiln_after ..) (queued_rateChanged hdef hroom)⟩
  case classify =>
    intro c k n p s hr hd hm hst h1 h6
    have hends : Ends (.rateClassified c n k) c s (classified n k) := ends_of_event hr rfl
    have hdef : portDef (begin_ c s).oven n = some p := hd
    have hdet : portState (begin_ c s) n = pDETECT := hst
    refine ⟨fun ha => ?_, fun ha hk => ?_, fun ha hk hroom => ?_⟩
    · have heq := classified_converting hdef hm hdet h1 h6 ha
      refine ⟨_, hends, (portState_after ..).trans ?_, (getF_after ..).trans ?_⟩
      · rw [heq, portState_setPortState (by decide)]
      · rw [heq, getF_rate_acquiring (by omega)]
    · have heq := classified_right hdef hm hdet h1 h6 ha hk
      refine ⟨_, hends, (portState_after ..).trans ?_, (getF_after ..).trans ?_⟩
      · rw [heq, portState_useFree, portState_setPortState (by decide)]
      · rw [heq, getF_rate_aligning (by omega)]
    · have heq := classified_wrong hdef hm hdet h1 h6 ha hk
      refine ⟨_, hends, (portState_after ..).trans ?_, (getF_after ..).trans ?_, queued_congr (kiln_after ..) ?_⟩
      · rw [heq, portState_send, portState_setF_rate, hdet]
      · rw [heq, getF_rate_send, getF_rate_setF (by omega)]
      · rw [heq]
        exact send_queued (room_congr (kiln_setF _ _ (begin_ c s)) hroom) n 3 2 0
  case lockPort =>
    intro c f n w s hr hst
    refine ⟨_, ends_asrcLock_port hr hst w f, ?_, fun k hk => ?_⟩
    · exact congrArg PortSt.locked ((port_lockAsrc ..).trans (port_setPort_self ..))
    · exact showsLock_lockAsrc (s := setPort n { port (begin_ c s) n with locked := true } (begin_ c s)) w.isLt hk f
  case lockStream =>
    intro c f o w s hr h8 hst
    refine ⟨_, ends_asrcLock_stream hr h8 hst w f, fun k hk => ?_⟩
    obtain ⟨hratio, -, hlock⟩ := showsLock_lockAsrc (s := begin_ c s) w.isLt hk f
    exact ⟨hratio, hlock⟩
  case timeout =>
    intro c n s hr hst hl hroom
    have hkiln : (setPortState n pDETECT (setF (fPORT_STS_RATE n) 0 (begin_ c s))).kiln = s.kiln := by
      rw [kiln_setPortState, kiln_setF]
      rfl
    refine ⟨_, ends_acquireTimeout hr hst hl, ?_, ?_, queued_congr (kiln_after ..) (send_queued (room_congr hkiln hroom) n 3 2 0)⟩
    · rw [portState_after, portState_send, portState_setPortState (by decide)]
    · rw [getF_after, getF_rate_send, getF_rate_setPortState, getF_rate_setF (by decide)]
  case again =>
    intro c n p s hr hd hm ha hst h0 hrate hroom
    refine ⟨_, ends_portRateRepeat hr hd hm ha hst h0 hrate, ?_, queued_congr (kiln_after ..) (send_queued (s := begin_ c s) hroom n 3 2 0)⟩
    exact (portState_after ..).trans ((portState_send ..).trans hst)

end Sys2Proof.Machine
end

section
/-! Glitches, gates, claim pairs, underruns and frames at a port (R154 to R172). -/
namespace Sys2Proof.Machine

open Sys2Proof

/-! ## Events beside the frames -/

section
variable {c : Nat} {s : State}

theorem ends_glitch {n : Fin 8} {w : Nat} (hr : Running s) (hw : w < getF s (fPORT_CTL_GLITCH n)) :
    Ends (.glitch c n w) c s (bump (fPORT_CNT_GLITCHC n)) :=
  ends_of_run (op := ifRunning _) rfl ((ifRunning_run (running_begin hr c) _).trans (if_pos hw))

theorem gateOf_setGate_self (q : PortSt) (k : Nat) (g : Gate) : gateOf (setGate q k g) k = g := getT_setT_self ..

/-- A gate's ramp starts though its signal has not crossed zero (R166). -/
def startRamp (n k : Nat) (g : Word) (l : Nat) (s : State) : State :=
  setPort n (setGate (port s n) k { gateOf (port s n) k with gain := rampTo g l (gateOf (port s n) k).gain, goal := none }) s

theorem ends_zctoTimeout {n : Fin 8} {k : Fin 32} {g : Word} {l : Nat} (hr : Running s) (hg : (gateOf (port s n) k).goal = some (g, l)) :
    Ends (.zctoTimeout c n k) c s (startRamp n k g l) := by
  have hgoal : (gateOf (port (begin_ c s) n) k).goal = some (g, l) := hg
  refine ends_of_run (op := ifRunning _) rfl ((ifRunning_run (running_begin hr c) _).trans ?_)
  simp only [hgoal]
  rfl

theorem gateOf_startRamp (n k : Nat) (g : Word) (l : Nat) (s : State) : gateOf (port (startRamp n k g l s) n) k =
    { gateOf (port s n) k with gain := rampTo g l (gateOf (port s n) k).gain, goal := none } := by
  rw [startRamp, port_setPort_self, gateOf_setGate_self]

theorem expireHold_holding {q : PairSt} (hh : q.hold = true) (hf : q.fade.target ≠ fpZero) :
    expireHold q = { q with held := 24, fade := { start := fpOne, target := fpZero, len := 48, pos := 0 } } :=
  if_pos ⟨hh, hf⟩

theorem pair_clearClaim (n : Nat) (s : State) : pair (clearClaim n s) (n / 2) = { pair s (n / 2) with high := 0 } :=
  pair_setPair_self ..

/-! ## An underrun (R169) -/

theorem stream_send (src inst cls kind ctx : Nat) (s : State) (o : Nat) : stream (send src inst cls kind ctx s) o = stream s o := by
  unfold send enqueue
  split <;> rfl

theorem stream_refreshUnderrun (i : Nat) (s : State) (o : Nat) : stream (refreshUnderrun i s) o = stream s o := by
  unfold refreshUnderrun
  split <;> rfl

theorem kiln_refreshUnderrun (i : Nat) (s : State) : (refreshUnderrun i s).kiln = s.kiln := by
  unfold refreshUnderrun
  split <;> rfl

/-- A stream whose last sample fades to zero. -/
def starved (x : StreamSt) : StreamSt :=
  { x with state := 4, under := min 65535 (x.under + 1), fade := { start := fpOne, target := fpZero, len := 16, pos := 0 } }

/-- The bundle of a stream, if it has one, shows whether it underruns. -/
def showUnderrun (o : Nat) (s : State) : State :=
  match bundleOf s.oven o with
  | some a => refreshUnderrun a.bundle s
  | none => s

theorem oven_send (src inst cls kind ctx : Nat) (s : State) : (send src inst cls kind ctx s).oven = s.oven := by
  unfold send enqueue
  split <;> rfl

theorem underrun_eq (o : Nat) (s : State) :
    underrun o s = showUnderrun o (send 8 o 3 5 0 (setStream o (starved (stream s o)) s)) := by
  rw [showUnderrun, oven_send]
  rfl

theorem stream_showUnderrun (o : Nat) (s : State) (k : Nat) : stream (showUnderrun o s) k = stream s k := by
  unfold showUnderrun
  split
  · exact stream_refreshUnderrun ..
  · rfl

theorem kiln_showUnderrun (o : Nat) (s : State) : (showUnderrun o s).kiln = s.kiln := by
  unfold showUnderrun
  split
  · exact kiln_refreshUnderrun ..
  · rfl

theorem stream_underrun (o : Nat) (s : State) : stream (underrun o s) o = starved (stream s o) := by
  rw [underrun_eq, stream_showUnderrun, stream_send, stream_setStream_self]

theorem queued_underrun {s : State} (hr : Room 8 s) (o : Nat) : Queued 8 o 3 5 0 (underrun o s) := by
  rw [underrun_eq]
  exact queued_congr (kiln_showUnderrun ..) (send_queued (s := setStream o (starved (stream s o)) s) hr o 3 5 0)

theorem ends_portUnderrun {o : Nat} (hr : Running s) (hst : (stream s o).state = 3)
    (hbuf : (stream s o).buf.any (fun e => e.1 / 64 == playPos s o) = false) : Ends (.portUnderrun c o) c s (underrun o) :=
  ends_of_run (op := ifRunning _) rfl
    ((ifRunning_run (running_begin hr c) _).trans (if_pos ⟨hst, congrArg (!·) hbuf⟩))

end

/-! ## A frame (R157, R158, R162, R164) -/

section
variable {n : Nat} {f : SaiFrame} {p : PortDef} {s : State}

/-- The port has seen a frame, with this many frame errors in a row. -/
def frameSeen (n : Nat) (f : SaiFrame) (errs : Nat) (s : State) : State := setPort n { port s n with frameErrs := errs, wpos := f.wpos } s

/-- A frame without an error, or at a port that makes the clock itself (R164). -/
theorem frameGood_of (h : f.fsGood = true ∨ p.master = true) : (f.fsGood || p.master) = true := Bool.or_eq_true_iff.2 h

theorem frameBad_of (hf : f.fsGood = false) (hm : p.master = false) : (f.fsGood || p.master) = false := by rw [hf, hm]; rfl

theorem saiFrame_good_direct (hd : portDef s.oven n = some p) (hst : portState s n = pRUN) (hg : f.fsGood = true ∨ p.master = true)
    (ha : p.asrc = false) : saiFrame n f s =
      inputFrame n p f (outputFrame n p f (shiftClaim n p (some (frameClaim p f)) (frameSeen n f 0 s))) := by
  simp [saiFrame, hd, hst, frameGood_of hg, ha, when_, pRUN, pOFF, pLOST, frameSeen]

theorem saiFrame_good_converting (hd : portDef s.oven n = some p) (hst : portState s n = pRUN) (hg : f.fsGood = true ∨ p.master = true)
    (ha : p.asrc = true) : saiFrame n f s = outputFrame n p f (asrcFrame n p f (frameSeen n f 0 s)) := by
  simp [saiFrame, hd, hst, frameGood_of hg, ha, when_, pRUN, pOFF, pLOST, frameSeen]

theorem saiFrame_good_lost (hd : portDef s.oven n = some p) (hst : portState s n = pLOST) (hg : f.fsGood = true ∨ p.master = true) :
    saiFrame n f s = setPortState n pDETECT (setF (fPORT_STS_RATE n) 0 (frameSeen n f 0 s)) := by
  simp [saiFrame, hd, hst, frameGood_of hg, when_, pOFF, pLOST, frameSeen]

/-- The port has seen a frame with an error, and counts its edge as a glitch (R164). -/
def badFrameSeen (n : Nat) (f : SaiFrame) (s : State) : State :=
  bump (fPORT_CNT_GLITCHC n) (frameSeen n f ((port s n).frameErrs + 1) s)

theorem saiFrame_bad_idle (hd : portDef s.oven n = some p) (hoff : portState s n ≠ pOFF) (hrun : portState s n ≠ pRUN)
    (hf : f.fsGood = false) (hm : p.master = false) : saiFrame n f s = badFrameSeen n f s := by
  simp [saiFrame, hd, hoff, hrun, frameBad_of hf hm, when_, badFrameSeen, frameSeen]

/-- Three errors in a row are a rate change. -/
theorem saiFrame_bad_direct (hd : portDef s.oven n = some p) (hst : portState s n = pRUN) (hf : f.fsGood = false) (hm : p.master = false)
    (ha : p.asrc = false) : saiFrame n f s =
      let w := inputFrame n p f (outputFrame n p f (shiftClaim n p (some (frameClaim p f)) (badFrameSeen n f s)))
      if 2 ≤ (port s n).frameErrs then rateChanged n w else w := by
  simp [saiFrame, hd, hst, frameBad_of hf hm, ha, when_, pRUN, pOFF, pLOST, badFrameSeen, frameSeen]

end

/-- The effect of a frame, from what it is to the port once the batch has come up to its cycle (R30). -/
theorem endsMem_saiFrame {c : Nat} {n : Fin 8} {f : SaiFrame} {s : State} {g : State → State} (hr : Running s)
    (hg : saiFrame n f (runFixedTo c (begin_ c s)) = g (begin_ c s)) : EndsMem (.saiFrame c n f) c s g :=
  endsMem_of_runMem (op := ifRunning _) rfl ((ifRunning_run (running_begin hr c) _).trans hg)

/-- Settles O29: each event by its effect, and a frame by what it is to a port in each of its states. -/
theorem portEventsComplete : Obligations.PortEventsComplete := by
  refine ⟨⟨fun c w n s hr hw => ends_glitch hr hw, ?zcto, ?hold, ?clear, ?underrun⟩, ?direct, ?converting, ?lost, ?badIdle, ?badDirect⟩
  case zcto =>
    intro c l n k g s hr hg
    exact ⟨_, ends_zctoTimeout hr hg, gateOf_startRamp n k g l (begin_ c s)⟩
  case hold =>
    intro c k s hr hh hf
    have hends : Ends (.claimHoldExpiry c k) c s (fun u => setPair k (expireHold (pair u k)) u) := ends_of_event hr rfl
    exact ⟨_, hends, (pair_setPair_self k _ _).trans (expireHold_holding hh hf)⟩
  case clear =>
    intro c m n s hr
    have hends : Ends (.clrclaim c m n) c s (clearClaim n) := ends_of_event hr rfl
    exact ⟨_, hends, pair_clearClaim n (begin_ c s)⟩
  case underrun =>
    intro c o s hr hst hbuf hroom
    exact ⟨_, ends_portUnderrun hr hst hbuf, queued_congr (kiln_after ..) (queued_underrun (s := begin_ c s) hroom o),
      stream_underrun o (begin_ c s)⟩
  case direct =>
    intro c n f p s u hr hu hd hst hg ha
    subst hu
    exact endsMem_saiFrame hr (saiFrame_good_direct hd hst hg ha)
  case converting =>
    intro c n f p s u hr hu hd hst hg ha
    subst hu
    exact endsMem_saiFrame hr (saiFrame_good_converting hd hst hg ha)
  case lost =>
    intro c n f p s u hr hu hd hst hg
    subst hu
    exact endsMem_saiFrame hr (saiFrame_good_lost hd hst hg)
  case badIdle =>
    intro c n f p s u hr hu hd hoff hrun hf hm
    subst hu
    exact endsMem_saiFrame hr (saiFrame_bad_idle hd hoff hrun hf hm)
  case badDirect =>
    intro c n f p s u hr hu hd hst hf hm ha
    subst hu
    exact endsMem_saiFrame hr (saiFrame_bad_direct hd hst hf hm ha)

end Sys2Proof.Machine
end

section
/-! What events at ports, trays and cores leave (R90, R174). -/
namespace Sys2Proof.Machine

open Sys2Proof

/-! ## Events at the ports -/

/-- The part of the state that events at the ports may change. -/
def portPart (s t : State) : State :=
  { s with cycle := t.cycle, wire := t.wire, fresh := t.fresh, free := t.free, regs := t.regs, kiln := t.kiln, ports := t.ports, pairs := t.pairs,
           streams := t.streams }

theorem eventPart_port : EventPart portPart where
  self _ := rfl
  trans _ _ _ := rfl
  regs _ _ := rfl
  kiln _ _ := rfl
  begin_ _ _ := rfl
  after _ _ := rfl

/-- Only what events at the ports may change has changed: of the registers those of the Kiln and of PORT. -/
def PortLeaves (s t : State) : Prop := Leaves portPart [1, 8] s t

theorem portLeaves_refl (s : State) : PortLeaves s s := leaves_refl eventPart_port s

theorem unit_port {f : Fld} (hlo : 0x40080000 * 32 ≤ f.key) (hhi : f.key < 0x40090000 * 32) : unitOfAddr (f.key / 32) ∈ [1, 8] := by
  have h8 : unitOfAddr (f.key / 32) = 8 := by
    unfold unitOfAddr
    omega
  simp [h8]

section
variable {s t : State} (h : PortLeaves s t)
include h

theorem portLeaves_setF {f : Fld} (hlo : 0x40080000 * 32 ≤ f.key) (hhi : f.key < 0x40090000 * 32) (v : Nat) : PortLeaves s (setF f v t) :=
  leaves_setF eventPart_port h (unit_port hlo hhi) v

theorem portLeaves_setPort (n : Nat) (q : PortSt) : PortLeaves s (setPort n q t) :=
  leaves_trans eventPart_port h (leaves_of_part rfl rfl rfl)

theorem portLeaves_setPair (k : Nat) (q : PairSt) : PortLeaves s (setPair k q t) :=
  leaves_trans eventPart_port h (leaves_of_part rfl rfl rfl)

theorem portLeaves_setStream (o : Nat) (x : StreamSt) : PortLeaves s (setStream o x t) :=
  leaves_trans eventPart_port h (leaves_of_part rfl rfl rfl)

theorem portLeaves_useFree : PortLeaves s (useFree t) := leaves_trans eventPart_port h (leaves_of_part rfl rfl rfl)

theorem portLeaves_send (inst cls kind ctx : Nat) : PortLeaves s (send 8 inst cls kind ctx t) :=
  leaves_send eventPart_port h (by decide) 8 inst cls kind ctx

theorem portLeaves_setPortState (n : Fin 8) (v : Nat) : PortLeaves s (setPortState n v t) := by
  have hstate : PortLeaves s (setF (fPORT_STS_STATE n) v t) :=
    portLeaves_setF h (by simp only [portKeys]; omega) (by simp only [portKeys]; omega) v
  exact portLeaves_setF (portLeaves_setF hstate (by decide) (by decide) _) (by decide) (by decide) _

theorem portLeaves_setRate (n : Fin 8) (v : Nat) : PortLeaves s (setF (fPORT_STS_RATE n) v t) :=
  portLeaves_setF h (by simp only [portKeys]; omega) (by simp only [portKeys]; omega) v

theorem portLeaves_unlockAsrc (n : Nat) : PortLeaves s (unlockAsrc n t) :=
  leaves_foldState eventPart_port h fun k hk u => by
    have hk64 : k < 64 := List.mem_range.1 (List.mem_filter.1 hk).1
    exact portLeaves_setF (portLeaves_refl u) (by simp only [portKeys]; omega) (by simp only [portKeys]; omega) 0

theorem portLeaves_lockAsrc (owner ratio fraction : Nat) : PortLeaves s (lockAsrc owner ratio fraction t) := by
  rw [lockAsrc_eq]
  refine leaves_foldState eventPart_port h fun k hk u => ?_
  have hk64 : k < 64 := List.mem_range.1 (List.mem_filter.1 hk).1
  have hratio : PortLeaves u (setF (fASRC_RATIO_RATIO k) ratio u) :=
    portLeaves_setF (portLeaves_refl u) (by simp only [portKeys]; omega) (by simp only [portKeys]; omega) ratio
  have hfrac : PortLeaves u (setF (fASRC_FRAC_FRACTION k) (fraction % 25600) (setF (fASRC_RATIO_RATIO k) ratio u)) :=
    portLeaves_setF hratio (by simp only [portKeys]; omega) (by simp only [portKeys]; omega) _
  exact portLeaves_setF hfrac (by simp only [portKeys]; omega) (by simp only [portKeys]; omega) 1

end

theorem portLeaves_lostPort (n : Fin 8) (s : State) : PortLeaves s (lostPort n s) := by
  cases hd : portDef s.oven n with
  | none =>
    rw [lostPort, hd]
    exact portLeaves_refl s
  | some p =>
    have haudio : PortLeaves s (lostAudio n p s) := by
      unfold lostAudio when_
      dsimp only
      split
      · exact portLeaves_setPair (portLeaves_setPort (portLeaves_refl s) _ _) _ _
      · exact portLeaves_setPort (portLeaves_refl s) _ _
    have hstate : PortLeaves s (setPortState n pLOST (unlockAsrc n (lostAudio n p s))) :=
      portLeaves_setPortState (portLeaves_unlockAsrc haudio n) n pLOST
    rw [lostPort_eq hd]
    exact portLeaves_send (portLeaves_setF hstate (by simp only [portKeys]; omega) (by simp only [portKeys]; omega) _) _ _ _ _

theorem portLeaves_rateChanged (n : Fin 8) (s : State) : PortLeaves s (rateChanged n s) := by
  cases hd : portDef s.oven n with
  | none =>
    rw [rateChanged, hd]
    exact portLeaves_refl s
  | some p =>
    have hrate : PortLeaves s (setF (fPORT_STS_RATE n) 0 (unlockAsrc n (setPort n (unsettledPort p (port s n)) s))) :=
      portLeaves_setRate (portLeaves_unlockAsrc (portLeaves_setPort (portLeaves_refl s) _ _) n) n 0
    rw [rateChanged_eq hd]
    exact portLeaves_setPortState (portLeaves_send hrate _ _ _ _) n pDETECT

theorem portLeaves_classified (n : Fin 8) (k : Nat) (s : State) : PortLeaves s (classified n k s) := by
  unfold classified
  have hrate : PortLeaves s (setF (fPORT_STS_RATE n) k s) := portLeaves_setRate (portLeaves_refl s) n k
  split
  · exact portLeaves_refl s
  · dsimp only
    split
    · exact portLeaves_refl s
    · split
      · exact portLeaves_setPortState (portLeaves_unlockAsrc (portLeaves_setPort hrate _ _) n) n pACQUIRE
      · split
        · exact portLeaves_useFree (portLeaves_setPortState (portLeaves_setPort hrate _ _) n pALIGN)
        · exact portLeaves_send hrate _ _ _ _

theorem portLeaves_underrun (o : Nat) (s : State) : PortLeaves s (underrun o s) := by
  have hsend : PortLeaves s (send 8 o 3 5 0 (setStream o (starved (stream s o)) s)) :=
    portLeaves_send (portLeaves_setStream (portLeaves_refl s) _ _) _ _ _ _
  rw [underrun_eq]
  unfold showUnderrun refreshUnderrun
  split
  · split
    · exact hsend
    · exact portLeaves_setF hsend (by decide) (by decide) _
  · exact hsend

/-- An event that does nothing, or what it does, as a condition has it. -/
theorem portLeaves_ite {c : Prop} [Decidable c] {s t u : State} (ht : PortLeaves s t) (hu : PortLeaves s u) :
    PortLeaves s (if c then t else u) := by
  split
  · exact ht
  · exact hu

theorem portLeaves_event {i : Instr} {s t : State} (hi : portEvent i = true) (ht : exec i s = .next t) : PortLeaves s t := by
  cases i with
  | portLost c n =>
    refine leaves_event eventPart_port ht (op := fun _ => _) rfl fun u => ?_
    split
    · exact portLeaves_ite (portLeaves_lostPort n u) (portLeaves_refl u)
    · exact portLeaves_refl u
  | rateChange c n =>
    refine leaves_event eventPart_port ht (op := fun _ => _) rfl fun u => ?_
    split
    · exact portLeaves_ite (portLeaves_rateChanged n u) (portLeaves_refl u)
    · exact portLeaves_refl u
  | rateClassified c n k => exact leaves_event eventPart_port ht rfl (portLeaves_classified n k)
  | asrcLock c o w f =>
    refine leaves_event eventPart_port ht (op := fun _ => _) rfl fun u => ?_
    refine portLeaves_ite (portLeaves_ite ?_ (portLeaves_refl u)) (portLeaves_ite (portLeaves_refl u) ?_)
    · exact portLeaves_lockAsrc (portLeaves_setPort (portLeaves_refl u) _ _) _ _ _
    · exact portLeaves_lockAsrc (portLeaves_refl u) _ _ _
  | acquireTimeout c n =>
    refine leaves_event eventPart_port ht (op := fun _ => _) rfl fun u => portLeaves_ite ?_ (portLeaves_refl u)
    exact portLeaves_send (portLeaves_setPortState (portLeaves_setRate (portLeaves_refl u) n 0) n pDETECT) _ _ _ _
  | portRateRepeat c n =>
    refine leaves_event eventPart_port ht (op := fun _ => _) rfl fun u => ?_
    split
    · exact portLeaves_ite (portLeaves_send (portLeaves_refl u) _ _ _ _) (portLeaves_refl u)
    · exact portLeaves_refl u
  | glitch c n w =>
    refine leaves_event eventPart_port ht (op := fun _ => _) rfl fun u => portLeaves_ite ?_ (portLeaves_refl u)
    exact portLeaves_setF (portLeaves_refl u) (by simp only [portKeys]; omega) (by simp only [portKeys]; omega) _
  | zctoTimeout c n k =>
    refine leaves_event eventPart_port ht (op := fun _ => _) rfl fun u => ?_
    dsimp only
    split
    · exact portLeaves_setPort (portLeaves_refl u) _ _
    · exact portLeaves_refl u
  | claimHoldExpiry c k => exact leaves_event eventPart_port ht rfl fun u => portLeaves_setPair (portLeaves_refl u) _ _
  | clrclaim c m n => exact leaves_event eventPart_port ht rfl fun u => portLeaves_setPair (portLeaves_refl u) _ _
  | portUnderrun c o =>
    exact leaves_event eventPart_port ht rfl fun u => portLeaves_ite (portLeaves_underrun o u) (portLeaves_refl u)
  | _ => cases hi

/-! ## Events at trays and cores -/

/-- The part of the state that events at trays and cores may change. -/
def bakePart (s t : State) : State :=
  { s with cycle := t.cycle, wire := t.wire, fresh := t.fresh, regs := t.regs, kiln := t.kiln, commits := t.commits, trays := t.trays,
           bundles := t.bundles, cores := t.cores, dsp := t.dsp }

theorem eventPart_bake : EventPart bakePart where
  self _ := rfl
  trans _ _ _ := rfl
  regs _ _ := rfl
  kiln _ _ := rfl
  begin_ _ _ := rfl
  after _ _ := rfl

/-- Only what events at trays and cores may change has changed: of the registers those of the Kiln, of BAKE and of CORE. -/
def BakeLeaves (s t : State) : Prop := Leaves bakePart [1, 4, 5] s t

theorem bakeLeaves_refl (s : State) : BakeLeaves s s := leaves_refl eventPart_bake s

section
variable {s t : State} (h : BakeLeaves s t)
include h

theorem bakeLeaves_setF {f : Fld} (hf : unitOfAddr (f.key / 32) ∈ [1, 4, 5]) (v : Nat) : BakeLeaves s (setF f v t) :=
  leaves_setF eventPart_bake h hf v

theorem bakeLeaves_setTray (n : Nat) (x : TraySt) : BakeLeaves s (setTray n x t) :=
  leaves_trans eventPart_bake h (leaves_of_part rfl rfl rfl)

theorem bakeLeaves_setCore (n : Nat) (x : CoreSt) : BakeLeaves s (setCore n x t) :=
  leaves_trans eventPart_bake h (leaves_of_part rfl rfl rfl)

theorem bakeLeaves_setBundle (id : Nat) (x : Option BundleSt) : BakeLeaves s (setBundle id x t) :=
  leaves_trans eventPart_bake h (leaves_of_part rfl rfl rfl)

theorem bakeLeaves_storeDsp (space loc : Nat) (ws : List Word) : BakeLeaves s (storeDsp space loc ws t) :=
  leaves_foldState eventPart_bake h fun _ _ _ => leaves_of_part rfl rfl rfl

theorem bakeLeaves_copyDsp (space src dst n : Nat) : BakeLeaves s (copyDsp space src dst n t) := bakeLeaves_storeDsp h _ _ _

theorem bakeLeaves_placeBundle (d : BundleDef) (b : BundleSt) : BakeLeaves s (placeBundle d b t) := by
  have hcur : BakeLeaves s (storeDsp d.space d.coef b.cur t) := bakeLeaves_storeDsp h _ _ _
  unfold placeBundle
  dsimp only
  split
  · exact bakeLeaves_storeDsp hcur _ _ _
  · split
    · exact bakeLeaves_storeDsp (bakeLeaves_storeDsp (bakeLeaves_copyDsp hcur _ _ _ _) _ _ _) _ _ _
    · exact bakeLeaves_storeDsp (bakeLeaves_storeDsp hcur _ _ _) _ _ _

theorem bakeLeaves_showFades : BakeLeaves s (showFades t) :=
  bakeLeaves_setF (bakeLeaves_setF h (by decide) _) (by decide) _

theorem bakeLeaves_haltCore (n : Fin 128) : BakeLeaves s (haltCore n t) := by
  have hcores : ∀ k : Fin 128, unitOfAddr ((fCORE_HALT_CORES (k / 32)).key / 32) ∈ [1, 4, 5] := by decide
  have hbg : ∀ k : Fin 128, unitOfAddr ((fCORE_LOAD_BG k).key / 32) ∈ [1, 4, 5] := by decide
  have hany : BakeLeaves s (setF fCORE_STAT_ANYHALT 1 (setCore n (haltedCore (core_ t n)) t)) :=
    bakeLeaves_setF (bakeLeaves_setCore h _ _) (by decide) 1
  exact bakeLeaves_setF (bakeLeaves_setF hany (hcores n) _) (hbg n) 0

theorem bakeLeaves_hardMute (m cls : Nat) : BakeLeaves s (hardMute m cls t) :=
  bakeLeaves_setF (bakeLeaves_setF (bakeLeaves_setTray h _ _) (by decide) _) (by decide) 1

end

theorem bakeLeaves_overrunCore (n : Fin 128) (s : State) : BakeLeaves s (overrunCore n s) := by
  cases hd : coreTray s n with
  | none =>
    rw [overrunCore, hd]
    exact bakeLeaves_refl s
  | some t =>
    have hsend : BakeLeaves s (send 5 n 2 1 (coreCtx s n true (core_ s n).pc) (haltCore n s)) :=
      leaves_send eventPart_bake (bakeLeaves_haltCore (bakeLeaves_refl s) n) (by decide) _ _ _ _ _
    rw [overrunCore_eq hd]
    exact bakeLeaves_hardMute (bakeLeaves_setF hsend (by decide) _) _ _

theorem bakeLeaves_opFadeInEnd (n : Nat) (s : State) : BakeLeaves s (opFadeInEnd n s) := by
  unfold opFadeInEnd
  dsimp only
  split
  · exact bakeLeaves_showFades (bakeLeaves_setTray (bakeLeaves_refl s) _ _)
  · exact bakeLeaves_refl s

theorem bakeLeaves_opBundleCrossfadeEnd (id : Nat) (s : State) : BakeLeaves s (opBundleCrossfadeEnd id s) := by
  unfold opBundleCrossfadeEnd
  split
  · split
    · exact bakeLeaves_placeBundle (bakeLeaves_copyDsp (bakeLeaves_setBundle (bakeLeaves_refl s) _ _) _ _ _ _) _ _
    · exact bakeLeaves_refl s
  · exact bakeLeaves_refl s

theorem bakeLeaves_event {i : Instr} {s t : State} (hi : bakeEvent i = true) (ht : exec i s = .next t) : BakeLeaves s t := by
  cases i with
  | preFadeEnd c => exact leaves_event eventPart_bake ht (op := opPreFadeEnd) rfl fun _ => leaves_of_part rfl rfl rfl
  | fadeInEnd c n => exact leaves_event eventPart_bake ht rfl (bakeLeaves_opFadeInEnd n)
  | bundleCrossfadeEnd c id => exact leaves_event eventPart_bake ht rfl (bakeLeaves_opBundleCrossfadeEnd id)
  | overrun c n =>
    refine leaves_event eventPart_bake ht (op := fun _ => _) rfl fun u => ?_
    split
    · split
      · exact bakeLeaves_overrunCore n u
      · exact bakeLeaves_refl u
    · exact bakeLeaves_refl u
  | _ => cases hi

/-- Settles O57: every event by the operations it is made of, each of which changes only its own part of the state. -/
theorem audioEventsLeave : Obligations.AudioEventsLeave :=
  ⟨fun _ _ _ hi ht => portLeaves_event hi ht, fun _ _ _ hi ht => bakeLeaves_event hi ht⟩

end Sys2Proof.Machine
end

section
/-! The port and stream commands (R166, R167, R176): what each does, and the one clause of their statement that fails. -/
namespace Sys2Proof.Machine

open Sys2Proof

/-! ## PORT_GATE (R166, R167, R176) -/

section
variable {r : Req} {s : State} {n l : Nat} {p : PortDef}

/-- A gate's action replied and staged, for the channels of `m` where it is a mute or an unmute. -/
def answerGate (r : Req) (n action l m : Nat) (s : State) : State :=
  replyOK r 0x0500 ([byteOf action, 0] ++ be2 l)
    (stage r 0x0500 ([byteOf n, byteOf action] ++ be2 l ++ be4 m) [.gate n action l (if action ≤ 1 then 2 ^ 32 - 1 else m)] s)

theorem opGate_known (hl : Live s) (hlat : Latches r s) (hd : portDef s.oven (min n 7) = some p) (action mask : Nat) :
    opGate r n action l mask s = answerGate r (min n 7) action (min l 1024) (mask % 2 ^ p.chans.length) s := by
  simp only [opGate, clampHi_eq_min]
  rw [command_live hl _ _ _ _ (find?_bad_eq_none (by simp [bad_standbyDenied hlat, bad_standbyNotNow hlat, hd]))]
  simp only [hd]
  rfl

theorem ends_portStart (hl : Live s) (hlat : Latches r s) (hd : portDef s.oven (min n 7) = some p) :
    Ends (.portStart r n l) r.c s (answerGate r (min n 7) 0 (min l 1024) 0) :=
  ends_of_run (op := opGate r n 0 l 0) rfl ((opGate_known (live_begin hl _) hlat hd 0 0).trans (by rw [Nat.zero_mod]))

theorem ends_portStop (hl : Live s) (hlat : Latches r s) (hd : portDef s.oven (min n 7) = some p) :
    Ends (.portStop r n l) r.c s (answerGate r (min n 7) 1 (min l 1024) 0) :=
  ends_of_run (op := opGate r n 1 l 0) rfl ((opGate_known (live_begin hl _) hlat hd 1 0).trans (by rw [Nat.zero_mod]))

theorem ends_portMute (hl : Live s) (hlat : Latches r s) (hd : portDef s.oven (min n 7) = some p) (m : Word) :
    Ends (.portMute r n l m) r.c s (answerGate r (min n 7) 2 (min l 1024) (m.toNat % 2 ^ p.chans.length)) :=
  ends_of_run (op := opGate r n 2 l m.toNat) rfl (opGate_known (live_begin hl _) hlat hd 2 m.toNat)

theorem ends_portUnmute (hl : Live s) (hlat : Latches r s) (hd : portDef s.oven (min n 7) = some p) (m : Word) :
    Ends (.portUnmute r n l m) r.c s (answerGate r (min n 7) 3 (min l 1024) (m.toNat % 2 ^ p.chans.length)) :=
  ends_of_run (op := opGate r n 3 l m.toNat) rfl (opGate_known (live_begin hl _) hlat hd 3 m.toNat)

/-! ## A gate's action at its boundary (R166, R167) -/

section
variable (hd : portDef s.oven n = some p)
include hd

theorem portState_applyGate_start (hoff : portState s n = pOFF) (l m : Nat) :
    portState (applyGate n 0 l m s) n = if p.master then pRUN else pDETECT := by
  simp only [applyGate, hd, hoff, ne_eq, not_true_eq_false, if_false]
  exact portState_setPortState (by split <;> decide) n _

theorem applyGate_stop (hon : portState s n ≠ pOFF) (l m : Nat) :
    (port (applyGate n 1 l m s) n).stopping = true ∧ portState (applyGate n 1 l m s) n = portState s n := by
  simp only [applyGate, hd, if_neg hon]
  exact ⟨congrArg PortSt.stopping (port_setPort_self ..), rfl⟩

/-- What PORT_MUTE stores is what its 32 bits take. -/
theorem getF_muted_applyGate_mute (l m : Nat) :
    getF (applyGate n 2 l m s) (fPORT_MUTE_MUTED n) = (getF s (fPORT_MUTE_MUTED n) ||| m) % 2 ^ 32 := by
  simp only [applyGate, hd]
  exact getF_setF_self _ _ _

theorem getF_muted_applyGate_unmute (l m : Nat) :
    getF (applyGate n 3 l m s) (fPORT_MUTE_MUTED n) = maskAndNot (getF s (fPORT_MUTE_MUTED n)) m % 2 ^ 32 := by
  simp only [applyGate, hd]
  exact getF_setF_self _ _ _

/-- Where PORT_MUTE holds no more than its 32 bits, mutes and unmutes show in it. -/
theorem getF_muted_applyGate_of_lt {m : Nat} (hs : getF s (fPORT_MUTE_MUTED n) < 2 ^ 32) (hm : m < 2 ^ 32) (l : Nat) :
    getF (applyGate n 2 l m s) (fPORT_MUTE_MUTED n) = getF s (fPORT_MUTE_MUTED n) ||| m ∧
      getF (applyGate n 3 l m s) (fPORT_MUTE_MUTED n) = maskAndNot (getF s (fPORT_MUTE_MUTED n)) m := by
  rw [getF_muted_applyGate_mute hd, getF_muted_applyGate_unmute hd]
  exact ⟨Nat.mod_eq_of_lt (Nat.or_lt_two_pow hs hm), Nat.mod_eq_of_lt (Nat.lt_of_le_of_lt (Nat.sub_le _ _) hs)⟩

end

/-! ## Status (R155, R156, R162, R176) -/

/-- The counters of a port, cleared. -/
def clearPortCounters (n : Nat) (s : State) : State :=
  foldState (fun f => setF f 0) [fPORT_CNT_SAT n, fPORT_CNT_SLIP n, fPORT_CNT_GLITCHC n, fPORT_CNT_LOSTC n]
    (setPort n { port s n with ingress := 0 } s)

/-- The state, the counters, the mutes and the ingress count of a port, replied. -/
def answerPortStatus (r : Req) (n : Nat) (s : State) : State :=
  replyOK r 0x0501 (be4 (peekReg s (rPORT_STS n)) ++ be4 (peekReg s (rPORT_CNT n)) ++ be4 (peekReg s (rPORT_MUTE n)) ++
    be4 (port s n).ingress) s

theorem ends_portStatus (hl : Live s) (k : Nat) : Ends (.portStatus r n k) r.c s (fun u =>
    if 1 ≤ k then clearPortCounters (min n 7) (answerPortStatus r (min n 7) u) else answerPortStatus r (min n 7) u) := by
  refine ends_of_run (op := opPortStatus r n k) rfl ?_
  simp only [opPortStatus, clampHi_eq_min]
  exact command_live (live_begin hl _) _ _ _ _ rfl

theorem ends_asrcRead (hl : Live s) (f k : Nat) : Ends (.asrcRead r f k) r.c s (fun u => replyOK r 0x0502
    ((List.range (min (clampN 1 64 k) (64 - min f 63))).flatMap
      (fun i => be4 (peekReg u (rASRC_RATIO (min f 63 + i))) ++ be4 (peekReg u (rASRC_FRAC (min f 63 + i))))) u) := by
  refine ends_of_run (op := opAsrcRead r f k) rfl ?_
  simp only [opAsrcRead, clampHi_eq_min]
  exact command_live (live_begin hl _) _ _ _ _ rfl

/-- A member of a bundle as BUNDLE_STATUS shows it: 1 underrun, 2 fading in, 0 live. -/
def memberStatus (s : State) (o : Nat) : List Byte :=
  [byteOf o, byteOf (if (stream s o).state = 4 then 1
    else if 0 < rampLeft (stream s o).fade ∧ (stream s o).fade.target = fpOne then 2 else 0)] ++ be2 (stream s o).under ++
    be4 (stream s o).stale

theorem ends_bundleStatus {b : Nat} {a : AlignDef} (hl : Live s) (ha : alignDef s.oven (min b 7) = some a) :
    Ends (.bundleStatus r b) r.c s (replyOK r 0x0503 (be4 (align_ s (min b 7)).playout ++ [byteOf a.members.length, 0, 0, 0] ++
      a.members.flatMap (memberStatus s))) := by
  refine ends_of_run (op := opBundleStatus r b) rfl ?_
  have hdef : alignDef (begin_ r.c s).oven (min b 7) = some a := ha
  simp only [opBundleStatus, clampHi_eq_min]
  rw [command_live (live_begin hl _) _ _ _ _ (find?_bad_eq_none (by simp [ha]))]
  simp only [hdef]
  rfl

end

/-! ## The clause that fails -/

/-- An input port of no channels. -/
def barePort : PortDef :=
  { port := 0, master := false, asrc := false, rate := 3, framing := 0, lineSlots := 2, dataBit := 1, outGroup := 0, width := 24, raw := false,
    release := 0, chans := [], claimPair := false, claimSlot := none, claimOut := false }

/-- A register file that holds 2^32 in the 32 bits of PORT0_MUTE, beside an oven with that port. A write of the field (`setF`) would have cut
it to its width. -/
def overfullMute : State :=
  { oven := { Bake.empty with ports := [barePort] }, regs := [((fPORT_MUTE_MUTED 0).key, 2 ^ 32)] }

theorem getF_overfullMute : getF overfullMute (fPORT_MUTE_MUTED 0) = 2 ^ 32 := rfl

/-- Refutes O27: its boundary clause speaks of every state, also of `overfullMute`, in which PORT_MUTE holds more than its 32 bits; a mute
of no channel then writes 0 back, not the 2^32 that stood there. Where the field fits, the clause holds (`getF_muted_applyGate_of_lt`), and
the others hold as they stand (`ends_portStart` to `ends_bundleStatus`). -/
theorem not_portCommandsComplete : ¬ Obligations.PortCommandsComplete := by
  rintro ⟨⟨-, -, -, -, hboundary⟩, -⟩
  have hport : portDef overfullMute.oven (0 : Fin 8) = some barePort := rfl
  obtain ⟨-, -, hmutes⟩ := hboundary 0 0 0 barePort overfullMute hport
  obtain ⟨hmute, -⟩ := hmutes (by decide)
  have hzero : getF (applyGate 0 2 0 0 overfullMute) (fPORT_MUTE_MUTED 0) = 0 := by
    rw [getF_muted_applyGate_mute (p := barePort) rfl, getF_overfullMute]
    rfl
  have hkept : getF (applyGate 0 2 0 0 overfullMute) (fPORT_MUTE_MUTED 0) = 2 ^ 32 := hmute
  omega

end Sys2Proof.Machine
end

section
/-! What the operations on an output of the stages change, and what they leave of it, of other outputs and at the Kiln (R193, R203, R204). -/
namespace Sys2Proof.Machine

open Sys2Proof

/-! ## Places of the stage fields (R204, R225) -/

/-- Where the fields of an output and of a lane stand. -/
theorem stageKeys (n : Nat) :
    (fSTAGE_STS_STATE n).key = 0x400B0100 * 32 + 1024 * n ∧
    (fSTAGE_CNT_CRCE n).key = 0x400B0114 * 32 + 1024 * n ∧
    (fSTAGE_LANE_LOCK n).key = 0x400B0040 * 32 + 128 * n + 12 ∧
    (fPROT_RUN_RETRY n).key = 0x400C012C * 32 + 2048 * n ∧
    (fPROT_RUN_PILOTON n).key = 0x400C012C * 32 + 2048 * n + 2 := by
  simp only [Fld.key, fieldKey, fSTAGE_STS_STATE, rSTAGE_STS, fSTAGE_CNT_CRCE, rSTAGE_CNT, fSTAGE_LANE_LOCK, rSTAGE_LANE, fPROT_RUN_RETRY,
    fPROT_RUN_PILOTON, rPROT_RUN]
  omega

/-- Where the fields stand that show several outputs, and the count of dropped shards. -/
theorem stageStatKeys :
    fSTAGE_STAT_RUN.key = 0x400B0000 * 32 ∧ fSTAGE_STAT_SAFE.key = 0x400B0000 * 32 + 16 ∧ fPROT_PROBE_ACTIVE.key = 0x400C0004 * 32 ∧
      fKILN_CNT_DROP.key = 0x40010014 * 32 + 24 := by
  decide

/-! ## A new state of an output (R193) -/

/-- The fields in which the state of output `n` shows itself. -/
def stateFields (n : Nat) : List Fld :=
  [fSTAGE_STS_STATE n, fSTAGE_STAT_SAFE, fSTAGE_STAT_RUN, fPROT_PROBE_ACTIVE, fPROT_RUN_PILOTON n]

/-- A view of the state that neither registers nor the protection's entries change stays as it was. -/
theorem setOutState_keeps {β : Type} {g : State → β} (hregs : ∀ s m, g { s with regs := m } = g s)
    (hprots : ∀ s m, g { s with prots := m } = g s) (n v : Nat) (s : State) : g (setOutState n v s) = g s := by
  have hprobe (on : Bool) (u : State) : g (setProbe n on u) = g u := by
    refine (hregs _ _).trans ?_
    split
    · exact hprots _ _
    · rfl
  calc g (setOutState n v s) = g (setProbe n _ _) := (hregs _ _).trans (hprots _ _)
    _ = g _ := hprobe _ _
    _ = g s := (hregs _ _).trans ((hregs _ _).trans (hregs _ _))

theorem out_setOutState (n v : Nat) (s : State) (k : Nat) : out_ (setOutState n v s) k = out_ s k :=
  setOutState_keeps (g := (out_ · k)) (fun _ _ => rfl) (fun _ _ => rfl) n v s

theorem kiln_setOutState (n v : Nat) (s : State) : (setOutState n v s).kiln = s.kiln :=
  setOutState_keeps (g := State.kiln) (fun _ _ => rfl) (fun _ _ => rfl) n v s

theorem getF_setProbe {f : Fld} (hf : f.key ≠ fPROT_PROBE_ACTIVE.key) (n : Nat) (on : Bool) (s : State) :
    getF (setProbe n on s) f = getF s f := by
  rw [setProbe, setMaskBit, getF_setF_ne _ _ _ _ hf]
  split <;> rfl

theorem getF_aimPilot {f : Fld} {n : Nat} (hf : f.key ≠ (fPROT_RUN_PILOTON n).key) (s : State) : getF (aimPilot n s) f = getF s f :=
  getF_setF_ne _ _ _ _ hf

theorem getF_setOutState {n : Nat} {f : Fld} (hf : ∀ g ∈ stateFields n, f.key ≠ g.key) (v : Nat) (s : State) :
    getF (setOutState n v s) f = getF s f := by
  simp only [stateFields, List.forall_mem_cons] at hf
  obtain ⟨hstate, hsafe, hrun, hprobe, hpilot, -⟩ := hf
  rw [setOutState, getF_aimPilot hpilot, getF_setProbe hprobe, setMaskBit, getF_setF_ne _ _ _ _ hrun, setMaskBit,
    getF_setF_ne _ _ _ _ hsafe, getF_setF_ne _ _ _ _ hstate]

theorem outState_setOutState {v : Nat} (hv : v < 8) (n : Nat) (s : State) : outState (setOutState n v s) n = v := by
  have hpilot : (fSTAGE_STS_STATE n).key ≠ (fPROT_RUN_PILOTON n).key := by simp only [stageKeys]; omega
  have hprobe : (fSTAGE_STS_STATE n).key ≠ fPROT_PROBE_ACTIVE.key := by simp only [stageKeys, stageStatKeys]; omega
  have hrun : (fSTAGE_STS_STATE n).key ≠ fSTAGE_STAT_RUN.key := by simp only [stageKeys, stageStatKeys]; omega
  have hsafe : (fSTAGE_STS_STATE n).key ≠ fSTAGE_STAT_SAFE.key := by simp only [stageKeys, stageStatKeys]; omega
  rw [outState, setOutState, getF_aimPilot hpilot, getF_setProbe hprobe, setMaskBit, getF_setF_ne _ _ _ _ hrun, setMaskBit,
    getF_setF_ne _ _ _ _ hsafe, getF_setF_self]
  exact Nat.mod_eq_of_lt hv

theorem outState_setOutState_ne {k n : Nat} (hk : k ≠ n) (v : Nat) (s : State) : outState (setOutState n v s) k = outState s k := by
  refine getF_setOutState ?_ v s
  simp only [stateFields, List.forall_mem_cons, List.not_mem_nil, false_imp_iff, implies_true, and_true, stageKeys, stageStatKeys]
  omega

theorem getF_retry_setOutState (n v : Nat) (s : State) : getF (setOutState n v s) (fPROT_RUN_RETRY n) = getF s (fPROT_RUN_RETRY n) := by
  refine getF_setOutState ?_ v s
  simp only [stateFields, List.forall_mem_cons, List.not_mem_nil, false_imp_iff, implies_true, and_true, stageKeys, stageStatKeys]
  omega

/-! ## What else leaves the state of an output -/

section
variable (n : Nat) (s : State)

theorem outState_setOut (k : Nat) (q : OutSt) : outState (setOut k q s) n = outState s n := rfl

theorem outState_setGl (l : Nat) (g : GlSt) : outState (setGl l g s) n = outState s n := rfl

theorem getF_setGl (l : Nat) (g : GlSt) (f : Fld) : getF (setGl l g s) f = getF s f := rfl

theorem kiln_setGl (l : Nat) (g : GlSt) : (setGl l g s).kiln = s.kiln := rfl

theorem out_setProt (k : Nat) (q : ProtSt) : out_ (setProt k q s) n = out_ s n := rfl

theorem kiln_setOut (q : OutSt) : (setOut n q s).kiln = s.kiln := rfl

theorem outState_setF {f : Fld} (hf : (fSTAGE_STS_STATE n).key ≠ f.key) (v : Nat) : outState (setF f v s) n = outState s n :=
  getF_setF_ne _ _ _ _ hf

theorem outState_send (src inst cls kind ctx : Nat) : outState (send src inst cls kind ctx s) n = outState s n :=
  getF_send (by simp only [stageKeys, stageStatKeys]; omega) src inst cls kind ctx s

theorem out_send (src inst cls kind ctx : Nat) : out_ (send src inst cls kind ctx s) n = out_ s n := by
  unfold send enqueue
  split <;> rfl

theorem gl_send (src inst cls kind ctx : Nat) : gl (send src inst cls kind ctx s) n = gl s n := by
  unfold send enqueue
  split <;> rfl

end

theorem outState_after (s t : State) (n : Nat) : outState (after s t) n = outState t n := rfl

theorem out_after (s t : State) (n : Nat) : out_ (after s t) n = out_ t n := rfl

/-- A shard that waits goes on waiting when another is sent. -/
theorem queued_send {src inst cls kind ctx : Nat} {s : State} (h : Queued src inst cls kind ctx s) (src' inst' cls' kind' ctx' : Nat) :
    Queued src inst cls kind ctx (send src' inst' cls' kind' ctx' s) := by
  unfold send enqueue
  split
  · exact h
  · exact List.mem_append_left _ h

/-! ## Into SAFE, OFF, ARMED, RUN and PRECHARGE (R193, R195, R203) -/

section
variable (n : Nat) (s : State)

theorem outState_enterSafe (retry : Bool) : outState (enterSafe n retry s) n = oSAFE := outState_setOutState (by decide) n _

theorem outState_enterOff : outState (enterOff n s) n = oOFF := outState_setOutState (by decide) n _

theorem outState_enterArmed : outState (enterArmed n s) n = oARMED := outState_setOutState (by decide) n _

theorem outState_enterRun : outState (enterRun n s) n = oRUN := outState_setOutState (by decide) n _

theorem outState_startPrecharge (fromSafe : Bool) : outState (startPrecharge n fromSafe s) n = oPRECHARGE :=
  outState_setOutState (by decide) n _

theorem kiln_enterSafe (retry : Bool) : (enterSafe n retry s).kiln = s.kiln := kiln_setOutState n oSAFE _

theorem kiln_enterOff : (enterOff n s).kiln = s.kiln := kiln_setOutState n oOFF _

theorem getF_retry_enterOff : getF (enterOff n s) (fPROT_RUN_RETRY n) = getF s (fPROT_RUN_RETRY n) := getF_retry_setOutState n oOFF _

/-- The soft start begins as RUN does (R195). -/
theorem soft_enterRun : (out_ (enterRun n s) n).soft = { start := fpZero, target := fpOne, len := 1024, pos := 0 } := by
  rw [enterRun, out_setOutState, clearLowPass, out_setProt, dropWindow, out_setProt, out_setProt, out__setOut_self]

end

theorem outState_enterSafe_ne {k n : Nat} (hk : k ≠ n) (retry : Bool) (s : State) : outState (enterSafe n retry s) k = outState s k :=
  outState_setOutState_ne hk oSAFE _

theorem outState_enterOff_ne {k n : Nat} (hk : k ≠ n) (s : State) : outState (enterOff n s) k = outState s k :=
  outState_setOutState_ne hk oOFF _

/-! ## A failed training (R193 to R195) -/

section
variable (n code cap : Nat) (s : State)

theorem outState_trainFailAt : outState (trainFailAt n code cap s) n = oOFF := by
  rw [trainFailAt, outState_send, outState_setOut, outState_enterOff]

theorem code_trainFailAt : (out_ (trainFailAt n code cap s) n).code = some code := by
  rw [trainFailAt, out_send, out__setOut_self]

end

theorem outState_trainFailAt_ne {k n : Nat} (hk : k ≠ n) (code cap : Nat) (s : State) :
    outState (trainFailAt n code cap s) k = outState s k := by
  rw [trainFailAt, outState_send, outState_setOut, outState_enterOff_ne hk]

/-- Codes 1 to 4 send IDENT_FAIL, the others PRECHARGE_FAIL. -/
theorem queued_trainFailAt {s : State} (hr : Room 11 s) (n code cap : Nat) :
    Queued 11 n 7 (if code ≤ 4 then 4 else 5) cap (trainFailAt n code cap s) := by
  rw [trainFailAt]
  exact send_queued (room_congr ((kiln_setOut ..).trans (kiln_enterOff n s)) hr) n 7 _ cap

end Sys2Proof.Machine
end

section
/-! Frames of the Gate Link and what its faults do to the outputs of a lane (R178 to R193, R202 to R204). -/
namespace Sys2Proof.Machine

open Sys2Proof

/-! ## The two outputs of a lane -/

/-- What the step of each output of a lane does to that output alone, it does whether the other's step comes before it or after. -/
theorem foldState_laneOuts {β : Type} {view : State → β} {step : Nat → State → State} {l n : Nat} (hn : n ∈ laneOuts l)
    (hother : ∀ k, k ≠ n → ∀ u, view (step k u) = view u) (s : State) :
    ∃ u, view u = view s ∧ view (foldState step (laneOuts l) s) = view (step n u) := by
  simp only [laneOuts, List.mem_cons, List.not_mem_nil, or_false] at hn
  rcases hn with rfl | rfl
  · exact ⟨s, rfl, hother _ (by omega) _⟩
  · exact ⟨step (2 * l) s, hother _ (by omega) s, rfl⟩

/-- Every step of a fold keeps what holds. -/
theorem foldState_preserves {α : Type} {P : State → Prop} {f : α → State → State} (hf : ∀ a s, P s → P (f a s)) (l : List α) {s : State}
    (h : P s) : P (foldState f l s) :=
  List.foldlRecOn (motive := P) l _ h fun t ht a _ => hf a t ht

/-! ## The fault of an output (R193, R202, R203) -/

theorem outState_faultOut {n : Nat} {s : State} (h : outState s n = oRUN ∨ outState s n = oARMED) (code : Nat) :
    outState (faultOut n code s) n = oSAFE := by
  simp only [faultOut, if_pos (h.symm.imp id .inl : outState s n = oARMED ∨ outState s n = oRUN ∨ _), outState_enterSafe]

theorem outState_faultOut_ne {k n : Nat} (hk : k ≠ n) (code : Nat) (s : State) : outState (faultOut n code s) k = outState s k := by
  unfold faultOut
  dsimp only
  split
  · exact outState_enterSafe_ne hk false s
  · split
    · exact outState_trainFailAt_ne hk code 0 s
    · split <;> rfl

theorem queued_trainFail {src inst cls kind ctx : Nat} {s : State} (h : Queued src inst cls kind ctx s) (n code : Nat) :
    Queued src inst cls kind ctx (trainFail n code s) := by
  rw [trainFail, trainFailAt]
  exact queued_send (queued_congr ((kiln_setOut ..).trans (kiln_enterOff n s)) h) _ _ _ _ _

theorem queued_faultOut {src inst cls kind ctx : Nat} {s : State} (h : Queued src inst cls kind ctx s) (n code : Nat) :
    Queued src inst cls kind ctx (faultOut n code s) := by
  unfold faultOut
  dsimp only
  split
  · exact queued_congr (kiln_enterSafe n s false) h
  · split
    · exact queued_trainFail h n code
    · split <;> exact h

/-! ## A lost link (R202) -/

section
variable {l : Nat} {s : State}

theorem glLose_locked (hlock : getF s (fSTAGE_LANE_LOCK l) = 1) : ∃ g, glLose l s =
    setGl l g (setF (fSTAGE_LANE_LOCK l) 0 (foldState (fun n => faultOut n 1) (laneOuts l) (send 11 (laneInst s l) 7 10 0 s))) :=
  ⟨_, if_neg (by omega)⟩

theorem lock_glLose (hlock : getF s (fSTAGE_LANE_LOCK l) = 1) : getF (glLose l s) (fSTAGE_LANE_LOCK l) = 0 := by
  obtain ⟨g, hlose⟩ := glLose_locked hlock
  rw [hlose, getF_setGl, getF_setF_self, Nat.zero_mod]

theorem queued_glLose (hlock : getF s (fSTAGE_LANE_LOCK l) = 1) (hr : Room 11 s) : Queued 11 (laneInst s l) 7 10 0 (glLose l s) := by
  obtain ⟨g, hlose⟩ := glLose_locked hlock
  have hfaults := foldState_preserves (P := Queued 11 (laneInst s l) 7 10 0) (f := fun n => faultOut n 1)
    (fun n _ hu => queued_faultOut hu n 1) (laneOuts l) (send_queued hr (laneInst s l) 7 10 0)
  rw [hlose]
  exact queued_congr (kiln_setGl ..) (queued_congr (kiln_setF ..) hfaults)

theorem outState_glLose (hlock : getF s (fSTAGE_LANE_LOCK l) = 1) {n : Nat} (hn : n ∈ laneOuts l)
    (h : outState s n = oRUN ∨ outState s n = oARMED) : outState (glLose l s) n = oSAFE := by
  obtain ⟨g, hlose⟩ := glLose_locked hlock
  obtain ⟨u, hu, hfold⟩ := foldState_laneOuts (view := (outState · n)) (step := fun k => faultOut k 1) hn
    (fun k hk => outState_faultOut_ne hk.symm 1) (send 11 (laneInst s l) 7 10 0 s)
  rw [outState_send] at hu
  rw [hlose, outState_setGl, outState_setF _ _ (by simp only [stageKeys]; omega), hfold, outState_faultOut (by rwa [hu])]

end

/-! ## A bus fault (R187) -/

/-- The bus of a lane has left its range: every output that is powered faults. -/
def busFault (l : Nat) (s : State) : State :=
  foldState (fun n => if isPowered (outState s n) then faultOut n 5 else id) (laneOuts l) (send 11 (laneInst s l) 7 9 0 s)

section
variable {l : Nat} {s : State}

theorem queued_busFault (hr : Room 11 s) : Queued 11 (laneInst s l) 7 9 0 (busFault l s) := by
  refine foldState_preserves (fun n u hu => ?_) (laneOuts l) (send_queued hr (laneInst s l) 7 9 0)
  split
  · exact queued_faultOut hu n 5
  · exact hu

theorem isPowered_of (n : Nat) (h : outState s n = oRUN ∨ outState s n = oARMED) : isPowered (outState s n) = true := by
  rcases h with h | h <;> rw [h] <;> rfl

theorem outState_busFault {n : Nat} (hn : n ∈ laneOuts l) (h : outState s n = oRUN ∨ outState s n = oARMED) :
    outState (busFault l s) n = oSAFE := by
  have hother (k : Nat) (hk : k ≠ n) (u : State) :
      outState ((if isPowered (outState s k) then faultOut k 5 else id) u) n = outState u n := by
    split
    · exact outState_faultOut_ne hk.symm 5 u
    · rfl
  obtain ⟨u, hu, hfold⟩ := foldState_laneOuts (view := (outState · n)) hn hother (send 11 (laneInst s l) 7 9 0 s)
  rw [outState_send] at hu
  rw [busFault, hfold, if_pos (isPowered_of n h), outState_faultOut (by rwa [hu])]

end

/-! ## A return frame (R191, R192, R202) -/

/-- A good return frame: the lane counts no miss, a new over-temperature is sent, and each channel, the lock and the message are taken. -/
def takeFrame (l : Nat) (f : ReturnFrame) (u : State) : State :=
  let v := setGl l { gl u l with valid := true, miss := 0, ovt := (num f.syms 3 1).testBit 6 } u
  let w := if (num f.syms 3 1).testBit 6 && !(gl u l).ovt then send 11 (laneInst u l) 7 6 0 v else v
  takeMessage l f (takeLock l f.flight (foldState (fun n => takeChannel n f ((gl u l).period % 2 == 0)) (laneOuts l) w))

/-- A bad return frame: the lane counts an error, and each of its outputs. -/
def badFrame (l : Nat) (s : State) : State :=
  foldState (fun n => bump (fSTAGE_CNT_CRCE n)) (laneOuts l)
    (send 11 (laneInst s l) 7 1 0 (setGl l { gl s l with errs := (gl s l).errs + 1 } s))

section
variable {l : Nat} {f : ReturnFrame} {s : State}

theorem returnFrame_good (hlive : glLive s = true) (hok : returnOk f = true) : returnFrame l f s = takeFrame l f s := by
  simp only [returnFrame, hlive, hok, Bool.not_true, Bool.false_eq_true, if_false, if_true, when_, takeFrame]

theorem returnFrame_bad (hlive : glLive s = true) (hok : returnOk f = false) : returnFrame l f s = badFrame l s := by
  simp only [returnFrame, hlive, hok, Bool.not_true, Bool.false_eq_true, if_false, badFrame]

theorem queued_badFrame (hr : Room 11 s) : Queued 11 (laneInst s l) 7 1 0 (badFrame l s) :=
  foldState_preserves (fun _ _ hu => hu) (laneOuts l)
    (send_queued (s := setGl l { gl s l with errs := (gl s l).errs + 1 } s) hr (laneInst s l) 7 1 0)

theorem errs_badFrame : (gl (badFrame l s) l).errs = (gl s l).errs + 1 := by
  have hfold : gl (badFrame l s) l = gl (send 11 (laneInst s l) 7 1 0 (setGl l { gl s l with errs := (gl s l).errs + 1 } s)) l :=
    foldState_keeps (gl · l) (fun _ _ => rfl) (laneOuts l) _
  rw [hfold, gl_send, gl_setGl_self]

theorem crce_badFrame {n : Nat} (hn : n ∈ laneOuts l) : getF (badFrame l s) (fSTAGE_CNT_CRCE n) =
    min (2 ^ (fSTAGE_CNT_CRCE n).width - 1) (getF s (fSTAGE_CNT_CRCE n) + 1) := by
  have hother (k : Nat) (hk : k ≠ n) (u : State) : getF (bump (fSTAGE_CNT_CRCE k) u) (fSTAGE_CNT_CRCE n) = getF u (fSTAGE_CNT_CRCE n) :=
    getF_bump_ne (by simp only [stageKeys]; omega) u
  obtain ⟨u, hu, hfold⟩ := foldState_laneOuts (view := (getF · (fSTAGE_CNT_CRCE n))) hn hother
    (send 11 (laneInst s l) 7 1 0 (setGl l { gl s l with errs := (gl s l).errs + 1 } s))
  rw [getF_send (by simp only [stageKeys, stageStatKeys]; omega)] at hu
  rw [badFrame, hfold, getF_bump_self, hu]
  rfl

end

/-! ## A modulation period (R178 to R190) -/

theorem open_modPeriod {s : State} (hlive : glLive s = true) (l : Nat) : (gl (modPeriod l s) l).open_ = true := by
  simp only [modPeriod, hlive, Bool.not_true, Bool.false_eq_true, if_false, gl_setGl_self]

/-! ## The events -/

section
variable {c : Nat} {s : State}

theorem glLive_begin (hlive : glLive s = true) (c : Nat) : glLive (begin_ c s) = true := hlive

theorem endsMem_modulationPeriod {l : Fin 8} (hr : Running s) :
    EndsMem (.modulationPeriod c l) c s (fun x => modPeriod l (runFixedTo c x)) :=
  endsMem_of_runMem (op := ifRunning _) rfl (ifRunning_run (running_begin hr c) _)

theorem ends_returnFrame_good {l : Fin 8} {f : ReturnFrame} (hlive : glLive s = true) (hok : returnOk f = true) :
    Ends (.returnFrame c l f) c s (takeFrame l f) :=
  ends_of_run (op := returnFrame l f) rfl (returnFrame_good (glLive_begin hlive c) hok)

theorem ends_returnFrame_bad {l : Fin 8} {f : ReturnFrame} (hlive : glLive s = true) (hok : returnOk f = false) :
    Ends (.returnFrame c l f) c s (badFrame l) :=
  ends_of_run (op := returnFrame l f) rfl (returnFrame_bad (glLive_begin hlive c) hok)

theorem ends_glLost {l : Fin 8} (hlive : glLive s = true) : Ends (.glLost c l) c s (glLose l) :=
  ends_of_run (op := fun _ => _) rfl (if_pos (glLive_begin hlive c))

theorem ends_bus {l : Fin 8} (hlive : glLive s = true) (hpow : (laneOuts l).any (fun n => isPowered (outState s n)) = true) :
    Ends (.bus c l) c s (busFault l) :=
  ends_of_run (op := fun _ => _) rfl (if_pos (Bool.and_eq_true_iff.2 ⟨glLive_begin hlive c, hpow⟩))

theorem ends_fcDrift {n : Fin 16} (hlive : glLive s = true) (hst : outState s n = oARMED ∨ outState s n = oRUN) :
    Ends (.fcDrift c n) c s (send 11 n 7 7 0) := by
  have hst' : (outState s n == oARMED || outState s n == oRUN) = true :=
    Bool.or_eq_true_iff.2 (hst.imp beq_iff_eq.2 beq_iff_eq.2)
  exact ends_of_run (op := fun _ => _) rfl (if_pos (Bool.and_eq_true_iff.2 ⟨glLive_begin hlive c, hst'⟩))

end

/-- Settles O31: each event by its effect, and each fault by what it leaves of the lane, its outputs and at the Kiln. -/
theorem gateLinkCompletes : Obligations.GateLinkCompletes := by
  refine ⟨⟨?period, fun c l f s hlive hok => ends_returnFrame_good hlive hok, ?bad⟩, ?lost, ?bus, ?drift⟩
  case period =>
    intro c l s u hr hu hlive
    subst hu
    exact ⟨endsMem_modulationPeriod hr, _, endsMem_modulationPeriod hr, open_modPeriod hlive l⟩
  case bad =>
    intro c l f s hlive hok hroom
    exact ⟨_, ends_returnFrame_bad hlive hok, queued_congr (kiln_after ..) (queued_badFrame (s := begin_ c s) hroom),
      errs_badFrame (s := begin_ c s), fun n hn => (getF_after ..).trans (crce_badFrame (s := begin_ c s) hn)⟩
  case lost =>
    intro c l s hlive hlock hroom
    have hlock' : getF (begin_ c s) (fSTAGE_LANE_LOCK l) = 1 := hlock
    exact ⟨_, ends_glLost hlive, queued_congr (kiln_after ..) (queued_glLose hlock' hroom), (getF_after ..).trans (lock_glLose hlock'),
      fun n hn hst => (outState_after ..).trans (outState_glLose hlock' hn hst)⟩
  case bus =>
    intro c l s hlive hpow hroom
    exact ⟨_, ends_bus hlive hpow, queued_congr (kiln_after ..) (queued_busFault (s := begin_ c s) hroom),
      fun n hn hst => (outState_after ..).trans (outState_busFault (s := begin_ c s) hn hst)⟩
  case drift =>
    intro c n s hlive hst hroom
    exact ⟨_, ends_fcDrift hlive hst, queued_congr (kiln_after ..) (send_queued (s := begin_ c s) hroom n 7 7 0)⟩

end Sys2Proof.Machine
end

section
/-! How the training of an output goes on and ends, and how its soft start ends (R193 to R195). -/
namespace Sys2Proof.Machine

open Sys2Proof

/-! ## A failed training (R193 to R195) -/

/-- An event by which a training fails turns the output off with its code, and sends IDENT_FAIL for codes 1 to 4, else PRECHARGE_FAIL. -/
theorem yields_trainFailAt {i : Instr} {c n code cap : Nat} {s : State} {f : State → State} (hends : Ends i c s f)
    (hfail : f (begin_ c s) = trainFailAt n code cap (begin_ c s)) (hr : Room 11 s) :
    Yields i s (fun t => outState t n = oOFF ∧ (out_ t n).code = some code ∧ Queued 11 n 7 (if code ≤ 4 then 4 else 5) cap t) := by
  refine ⟨_, hends, ?_⟩
  rw [hfail]
  exact ⟨(outState_after ..).trans (outState_trainFailAt ..), (congrArg OutSt.code (out_after ..)).trans (code_trainFailAt ..),
    queued_congr (kiln_after ..) (queued_trainFailAt (s := begin_ c s) hr n code cap)⟩

/-! ## The end of the link test (R194) -/

/-- The link test of an output has ended: a dirty link or a bus out of its range fails, else precharge begins. -/
def testEnded (n : Nat) (clean : Bool) (s : State) : State :=
  if !clean ∨ (gl s (laneOf n)).errs ≠ 0 then trainFail n 3 s
  else if !busOk s n then trainFail n 5 s
  else startPrecharge n ((out_ s n).code == some 255) s

section
variable {n : Nat} {s : State}

theorem testEnded_dirty : testEnded n false s = trainFailAt n 3 0 s := if_pos (.inl rfl)

theorem testEnded_bus (herrs : (gl s (laneOf n)).errs = 0) (hbus : busOk s n = false) : testEnded n true s = trainFailAt n 5 0 s := by
  simp [testEnded, herrs, hbus, trainFail]

theorem testEnded_clean (herrs : (gl s (laneOf n)).errs = 0) (hbus : busOk s n = true) :
    testEnded n true s = startPrecharge n ((out_ s n).code == some 255) s := by
  simp [testEnded, herrs, hbus]

end

/-! ## The check of precharge and the soft start (R195) -/

section
variable {n : Nat} {s : State}

theorem checkPassed_training (hretry : (prot s n).retrying = false) : checkPassed n s =
    setOut n { out_ (enterArmed n s) n with code := some 0 } (enterArmed n s) := by
  rw [checkPassed, hretry]
  rfl

/-- Where the soft start of an output leads once it has ended (R195). -/
def softEnded (n : Nat) (s : State) : State :=
  let t := setOut n { out_ s n with soft := steady (out_ s n).soft.target } s
  if (out_ s n).toward = 4 then enterArmed n t else if (out_ s n).toward ≠ 0 then enterOff n t else t

theorem softEnded_run (ht : (out_ s n).toward = 0) : outState (softEnded n s) n = outState s n ∧
    (out_ (softEnded n s) n).soft = steady (out_ s n).soft.target := by
  have heq : softEnded n s = setOut n { out_ s n with soft := steady (out_ s n).soft.target } s := by simp [softEnded, ht]
  rw [heq, out__setOut_self]
  exact ⟨outState_setOut .., rfl⟩

theorem softEnded_armed (ht : (out_ s n).toward = 4) : outState (softEnded n s) n = oARMED := by
  simp only [softEnded, if_pos ht, outState_enterArmed]

theorem softEnded_off (h0 : (out_ s n).toward ≠ 0) (h4 : (out_ s n).toward ≠ 4) : outState (softEnded n s) n = oOFF := by
  simp only [softEnded, if_neg h4, if_pos h0, outState_enterOff]

end

/-! ## The events -/

section
variable {c : Nat} {n : Fin 16} {s : State}

/-- The code of an output that did not answer in time: 2 for its record, 4 for its flight, else 1 (R194). -/
def timeoutCode (step : Nat) : Nat := if step = 2 then 2 else if step = 3 then 4 else 1

theorem timeoutCode_le (step : Nat) : timeoutCode step ≤ 4 := by
  unfold timeoutCode
  split
  · decide
  · split <;> decide

theorem ends_trainTimeout (hlive : glLive s = true) (hst : outState s n = oIDENT) :
    Ends (.trainTimeout c n) c s (fun u => trainFailAt n (timeoutCode (out_ u n).step) 0 u) := by
  simp only [glLive, Bool.and_eq_true] at hlive
  obtain ⟨⟨⟨hphase, hmod⟩, -⟩, -⟩ := hlive
  have hst' : (outState s n == oIDENT) = true := beq_iff_eq.2 hst
  exact ends_of_run (op := fun _ => _) rfl (if_pos (by rw [Bool.and_eq_true, Bool.and_eq_true]; exact ⟨⟨hphase, hmod⟩, hst'⟩))

/-- At its cycle an event still finds the Gate Link running and the output in its state. -/
theorem liveIn_begin {v : Nat} (hlive : glLive s = true) (hst : outState s n = v) (c : Nat) :
    (glLive (begin_ c s) && outState (begin_ c s) n == v) = true :=
  Bool.and_eq_true_iff.2 ⟨hlive, beq_iff_eq.2 hst⟩

theorem exec_linkTestEnd (c : Nat) (n : Fin 16) (clean : Bool) (s : State) : exec (.linkTestEnd c n clean) s =
    run c (fun u => if glLive u && outState u n == oTEST then testEnded n clean u else u) s := rfl

theorem ends_linkTestEnd (hlive : glLive s = true) (hst : outState s n = oTEST) (clean : Bool) :
    Ends (.linkTestEnd c n clean) c s (testEnded n clean) :=
  ends_of_run (exec_linkTestEnd c n clean s) (if_pos (liveIn_begin hlive hst c))

section
variable (hlive : glLive s = true) (hst : outState s n = oPRECHARGE)
include hlive hst

theorem ends_prechargeTimeout (hcap : (out_ s n).pcCap ≠ 0) :
    Ends (.prechargeTimeout c n) c s (fun u => trainFailAt n 6 (out_ u n).pcCap u) :=
  ends_of_run (op := fun _ => _) rfl
    (if_pos (Bool.and_eq_true_iff.2 ⟨liveIn_begin hlive hst c, bne_iff_ne.2 hcap⟩))

section
variable (hcap : (out_ s n).pcCap = 0) (h8 : (out_ s n).step ≠ 8)
include hcap h8

/-- The check of precharge is under way: every capacitor is charged, and no retry waits for its boundary. -/
theorem checking_begin (c : Nat) : (glLive (begin_ c s) && outState (begin_ c s) n == oPRECHARGE && (out_ (begin_ c s) n).pcCap == 0 &&
    (out_ (begin_ c s) n).step != 8) = true :=
  Bool.and_eq_true_iff.2 ⟨Bool.and_eq_true_iff.2 ⟨liveIn_begin hlive hst c, beq_iff_eq.2 hcap⟩, bne_iff_ne.2 h8⟩

theorem ends_prechargeCheckEnd_bad (hbad : (out_ s n).step = 9 ∨ capsInBand s n = false) :
    Ends (.prechargeCheckEnd c n) c s (trainFailAt n 7 0) :=
  ends_of_run (op := fun _ => _) rfl ((if_pos (checking_begin hlive hst hcap h8 c)).trans
    (if_pos (hbad.imp_right (congrArg (!·)))))

theorem ends_prechargeCheckEnd_good (h9 : (out_ s n).step ≠ 9) (hband : capsInBand s n = true) :
    Ends (.prechargeCheckEnd c n) c s (checkPassed n) := by
  have hgood : ¬((out_ (begin_ c s) n).step = 9 ∨ (!capsInBand (begin_ c s) n) = true) := by
    have h9' : (out_ (begin_ c s) n).step ≠ 9 := h9
    have hband' : capsInBand (begin_ c s) n = true := hband
    simp [h9', hband']
  exact ends_of_run (op := fun _ => _) rfl ((if_pos (checking_begin hlive hst hcap h8 c)).trans (if_neg hgood))

end

end

theorem ends_softStartEnd (hlive : glLive s = true) (hst : outState s n = oRUN) (hleft : rampLeft (out_ s n).soft ≤ 16) :
    Ends (.softStartEnd c n) c s (softEnded n) :=
  ends_of_run (op := fun _ => _) rfl
    (if_pos (Bool.and_eq_true_iff.2 ⟨liveIn_begin hlive hst c, decide_eq_true hleft⟩))

end

/-- Settles O32: each event by its effect, and each end of a training by what it leaves of the output and at the Kiln. -/
theorem stageSequenceMoves : Obligations.StageSequenceMoves := by
  refine ⟨?timeout, ?clean, ?dirty, ?busOut, ?slow, ?inBand, ?outOfBand, ?soft⟩
  case timeout =>
    intro c n s hlive hst hroom
    obtain ⟨t, hnext, hoff, hcode, hshard⟩ := yields_trainFailAt (ends_trainTimeout (c := c) hlive hst) rfl hroom
    rw [if_pos (timeoutCode_le _)] at hshard
    exact ⟨t, hnext, hoff, hshard, hcode⟩
  case clean =>
    intro c n s hlive hst herrs hbus
    have hstart := testEnded_clean (s := begin_ c s) herrs hbus
    refine ⟨_, ends_linkTestEnd hlive hst true, (outState_after ..).trans ?_⟩
    rw [hstart, outState_startPrecharge]
  case dirty =>
    intro c n s hlive hst hroom
    exact yields_trainFailAt (ends_linkTestEnd hlive hst false) testEnded_dirty hroom
  case busOut =>
    intro c n s hlive hst herrs hbus hroom
    exact yields_trainFailAt (ends_linkTestEnd hlive hst true) (testEnded_bus (s := begin_ c s) herrs hbus) hroom
  case slow =>
    intro c n s hlive hst hcap hroom
    exact yields_trainFailAt (ends_prechargeTimeout hlive hst hcap) rfl hroom
  case inBand =>
    intro c n s hlive hst hcap h8 h9 hband hretry
    have hpassed := checkPassed_training (s := begin_ c s) (n := n) hretry
    refine ⟨_, ends_prechargeCheckEnd_good hlive hst hcap h8 h9 hband, (outState_after ..).trans ?_,
      (congrArg OutSt.code (out_after ..)).trans ?_⟩
    · rw [hpassed, outState_setOut, outState_enterArmed]
    · rw [hpassed, out__setOut_self]
  case outOfBand =>
    intro c n s hlive hst hcap h8 hbad hroom
    exact yields_trainFailAt (ends_prechargeCheckEnd_bad hlive hst hcap h8 hbad) rfl hroom
  case soft =>
    intro c n s hlive hst hleft
    refine ⟨_, ends_softStartEnd hlive hst hleft, fun h0 => ?_, fun h4 => ?_, fun h0 h4 => ?_⟩
    · obtain ⟨hrun, hsoft⟩ := softEnded_run (s := begin_ c s) (n := n) h0
      exact ⟨(outState_after ..).trans (hrun.trans hst), (congrArg OutSt.soft (out_after ..)).trans hsoft⟩
    · exact (outState_after ..).trans (softEnded_armed (s := begin_ c s) h4)
    · exact (outState_after ..).trans (softEnded_off (s := begin_ c s) h0 h4)

end Sys2Proof.Machine
end

section
/-! The stage commands (R193 to R195, R206, R207): what each does once its checks have passed, and what an action does at its boundary. -/
namespace Sys2Proof.Machine

open Sys2Proof

/-! ## STAGE_TRAIN (R194, R207) -/

section
variable {r : Req} {s : State}

theorem startOrStage_now (ht : targeted r s = false) (op : Nat) (p : List Byte) (w : StagedWrite) (now : State → State) :
    startOrStage r op p w now s = now s := by
  rw [startOrStage, ht]
  rfl

/-- Without a target boundary training begins at once. -/
theorem opStageTrain_now {m : Nat} (hl : Live s) (hmod : hasMod s = true) (hf : HandleFree r s)
    (hrole : getF s fTWIN_STAT_ROLE ≠ 2 ∨ r.ch = 3) (hm : m % 65536 ≠ 0) (hlatched : ∀ n ∈ maskList 16 (m % 65536), outState s n ≠ oLATCHED)
    (hlanes : m % 65536 &&& trainingLanes s = 0) (ht : targeted r s = false) : opStageTrain r m s =
      accept r 0x0600 (.train (m % 65536)) (foldState (beginTrain (m % 65536)) (maskList 16 (m % 65536)) s) := by
  have hnone : (maskList 16 (m % 65536)).any (fun n => outState s n == oLATCHED) = false :=
    List.any_eq_false.2 fun n hn => by simp [hlatched n hn]
  rw [opStageTrain, command_live hl _ _ _ _ (find?_bad_eq_none (by
    simp [bad_absentMod hmod, bad_handleLimit hf, bad_standbyDenied_of_reaches hrole, hm, hnone, hlanes])), startOrStage_now ht]

/-- The result of output `n` in a training of the outputs of `m`: 9 for an output it did not name (R207). -/
def resultCode (s : State) (m n : Nat) : Nat := if m.testBit n then ((out_ s n).code).getD 9 else 9

/-- The training of the outputs of `m` completes with their results, which are then forgotten. -/
def answerTrained (o : Op) (m : Nat) (code : Nat → Nat) (s : State) : State :=
  finish o.ch o.h (if (maskList 16 m).all (fun n => code n == 0 || code n == 10) then stOK else stFAILED)
    ((List.range 16).map (fun n => byteOf (code n)))
    (foldState (fun n t => setOut n { out_ t n with code := none } t) (maskList 16 m) s)

theorem trainDone_trained {o : Op} {m : Nat} (hk : o.kind = .train m) (hall : (maskList 16 m).all (trained s) = true) :
    trainDone o s = answerTrained o m (resultCode s m) s := by
  simp only [trainDone, hk, if_pos hall]
  rfl

theorem ends_stageTrainDone {c m : Nat} {o : Op} (hr : Running s) (hops : s.ops.filter (fun x => isTrain x.kind) = [o])
    (hk : o.kind = .train m) (hall : (maskList 16 m).all (trained s) = true) :
    Ends (.stageTrainDone c) c s (answerTrained o m (resultCode s m)) := by
  refine ends_of_run (op := ifRunning _) rfl ((ifRunning_run (running_begin hr c) _).trans ?_)
  have hops' : (begin_ c s).ops.filter (fun x => isTrain x.kind) = [o] := hops
  rw [hops']
  exact trainDone_trained (s := begin_ c s) hk hall

/-! ## STAGE_RUN (R206, R207) -/

/-- An action replied and staged for the outputs of the mask that it acts on. -/
def answerRun (r : Req) (action k : Nat) (ns : List Nat) (s : State) : State :=
  replyOK r 0x0601 (be2 k) (stage r 0x0601 (be2 k ++ [byteOf action, 0]) (ns.map (fun n => .run n action)) s)

theorem opStageRun_taken {m k action : Nat} {ns : List Nat} (hl : Live s) (hlat : Latches r s) (hmod : hasMod s = true)
    (hoven : action = 0 → s.oven ≠ Bake.empty) (hns : ns = (maskList 16 (m % 65536)).filter (actsOn s action))
    (hk : k = ns.foldl (fun x n => x + 2 ^ n) 0) : opStageRun r m action s = answerRun r action k ns s := by
  subst hk hns
  have hproof : (action == 0 && s.oven == Bake.empty) = false := by
    simpa [Bool.and_eq_false_imp] using hoven
  rw [opStageRun, command_live hl _ _ _ _ (find?_bad_eq_none (by
    simp [bad_absentMod hmod, bad_standbyDenied hlat, bad_standbyNotNow hlat, hproof]))]
  rfl

/-! ## STAGE_SET, STAGE_STATUS and STAGE_SENSE (R207) -/

/-- The settings of output `n` with the fields of `m` replaced by those of `ws`. -/
def stageApplied (s : State) (m : Nat) (ws : List Word) (n : Nat) : List Word :=
  (applyWords (stageAddrs n) 0 m (ws.map (·.toNat)) (stageTarget s n)).map (BitVec.ofNat 32)

/-- Settings replied and staged for the outputs that an operand names. -/
def answerStageSet (r : Req) (o m : Nat) (ap : Nat → List Word) (s : State) : State :=
  replyOK r 0x0602 (beWords (ap ((outsNamed o).headD 0)))
    (stage r 0x0602 ([byteOf o, 0] ++ be2 m ++ beWords (ap ((outsNamed o).headD 0))) ((outsNamed o).map (fun n => .stage n m (ap n))) s)

theorem opStageSet_taken (hl : Live s) (hlat : Latches r s) (hmod : hasMod s = true) (o m : Nat) (ws : List Word) :
    opStageSet r o m ws s = answerStageSet r o m (stageApplied s m ws) s := by
  rw [opStageSet, command_live hl _ _ _ _ (find?_bad_eq_none (by
    simp [bad_absentMod hmod, bad_standbyDenied hlat, bad_standbyNotNow hlat]))]
  rfl

/-- The state, the counters and the lane of an output, and the record of its module where the lane has one. -/
def stageReport (s : State) (n : Nat) : List Byte :=
  be4 (peekReg s (rSTAGE_STS n)) ++ be4 (peekReg s (rSTAGE_CNT n)) ++ be4 (peekReg s (rSTAGE_LANE (laneOf n))) ++
    (if getF s (fSTAGE_LANE_IDOK (laneOf n)) = 1 then ((gl s (laneOf n)).ident ++ zeros 32).take 32 else zeros 32)

theorem opStageStatus_there (hl : Live s) (hmod : hasMod s = true) (o k : Nat) : opStageStatus r o k s =
    (if 1 ≤ k then foldState (fun f => setF f 0) [fSTAGE_CNT_NSSAT (min o 15), fSTAGE_CNT_CLIP (min o 15), fSTAGE_CNT_LIMIT (min o 15),
      fSTAGE_CNT_CRCE (min o 15)] else id) (replyOK r 0x0603 (stageReport s (min o 15)) s) := by
  simp only [opStageStatus, clampHi_eq_min]
  rw [command_live hl _ _ _ _ (find?_bad_eq_none (by simp [bad_absentMod hmod]))]
  have hreport : [rSTAGE_STS (min o 15), rSTAGE_CNT (min o 15), rSTAGE_LANE (laneOf (min o 15))].flatMap (fun a => be4 (peekReg s a)) =
      be4 (peekReg s (rSTAGE_STS (min o 15))) ++ be4 (peekReg s (rSTAGE_CNT (min o 15))) ++
        be4 (peekReg s (rSTAGE_LANE (laneOf (min o 15)))) := by
    simp
  rw [hreport, when_]
  by_cases hk : 1 ≤ k
  · rw [if_pos hk, if_pos (decide_eq_true hk)]
    rfl
  · rw [if_neg hk, if_neg (by simpa using hk)]
    rfl

/-- What the module of an output senses. -/
def senseReport (s : State) (n : Nat) : List Byte :=
  beWords ([(out_ s n).vbus, (out_ s n).vbf] ++
    (List.range 5).map (fun k => if k + 1 < cellsOf s n then ((out_ s n).fc[k]?).getD 0 else 0) ++
    [(out_ s n).i1, (out_ s n).v1, (out_ s n).temp, headGain s n]) ++ [byteOf (getF s (fSTAGE_STS_ROT n)), 0, 0, 0]

theorem opStageSense_there (hl : Live s) (hmod : hasMod s = true) (o : Nat) :
    opStageSense r o s = replyOK r 0x0604 (senseReport s (min o 15)) s := by
  simp only [opStageSense, clampHi_eq_min]
  rw [command_live hl _ _ _ _ (find?_bad_eq_none (by simp [bad_absentMod hmod]))]
  rfl

end

/-! ## An action at its boundary (R195, R207, R222) -/

section
variable {n : Nat} {s : State}

theorem stopSweep_idle (h : (prot s n).sweeping = false) : stopSweep n s = s := by
  rw [stopSweep, h]
  rfl

theorem outState_setRetry (n v : Nat) (s : State) : outState (setF (fPROT_RUN_RETRY n) v s) n = outState s n :=
  outState_setF n s (by simp only [stageKeys]; omega) v

theorem applyRun_run (hst : outState s n = oARMED) (hsw : (prot s n).sweeping = false) : applyRun n 0 s = enterRun n s := by
  simp [applyRun, actsOn, hst, stopSweep_idle hsw]

theorem applyRun_arm (hst : outState s n = oRUN) : applyRun n 1 s =
    setOut n { out_ s n with toward := 4, soft := rampTo fpZero 1024 (out_ s n).soft } s := by
  simp [applyRun, actsOn, hst]

theorem applyRun_off_safe (hst : outState s n = oSAFE) (hsw : (prot s n).sweeping = false) :
    applyRun n 2 s = enterOff n (setF (fPROT_RUN_RETRY n) 0 s) := by
  have hacts : actsOn s 2 n = true := by rw [actsOn, hst]; rfl
  have hrun : outState s n ≠ oRUN := by rw [hst]; decide
  have htrain : inTraining (setF (fPROT_RUN_RETRY n) 0 s) n = false := by rw [inTraining, outState_setRetry, hst]; rfl
  simp [applyRun, hacts, stopSweep_idle hsw, hrun, turnOff, htrain]

theorem applyRun_clearLatch (hst : outState s n = oLATCHED) : applyRun n 3 s = enterOff n (setF (fPROT_RUN_RETRY n) 0 s) := by
  simp [applyRun, actsOn, hst]

theorem retry_cleared (n : Nat) (s : State) : getF (enterOff n (setF (fPROT_RUN_RETRY n) 0 s)) (fPROT_RUN_RETRY n) = 0 := by
  rw [getF_retry_enterOff, getF_setF_self, Nat.zero_mod]

end

/-- Settles O30: each command by what it does once its checks have passed, each action by the state it brings its output to. -/
theorem stageCommandsComplete : Obligations.StageCommandsComplete := by
  refine ⟨⟨?train, ?trainDone⟩, ?run, ?arm, ?off, ?clearLatch, ?boundary, ?set, ?status, ?sense⟩
  case train =>
    intro r m s hl hmod hf hrole hm hlatched hlanes ht
    exact ends_of_run (op := opStageTrain r m) rfl (opStageTrain_now (live_begin hl _) hmod hf hrole hm hlatched hlanes ht)
  case trainDone =>
    intro c m o code s hr hops hk hall hcode
    subst hcode
    exact ends_stageTrainDone hr hops hk hall
  case run =>
    intro r m k ns s hl hlat hmod hoven hns hk
    exact ends_of_run (op := opStageRun r m 0) rfl (opStageRun_taken (live_begin hl _) hlat hmod (fun _ => hoven) hns hk)
  case arm =>
    intro r m k ns s hl hlat hmod hns hk
    exact ends_of_run (op := opStageRun r m 1) rfl (opStageRun_taken (live_begin hl _) hlat hmod (by simp) hns hk)
  case off =>
    intro r m k ns s hl hlat hmod hns hk
    exact ends_of_run (op := opStageRun r m 2) rfl (opStageRun_taken (live_begin hl _) hlat hmod (by simp) hns hk)
  case clearLatch =>
    intro r m k ns s hl hlat hmod hns hk
    exact ends_of_run (op := opStageRun r m 3) rfl (opStageRun_taken (live_begin hl _) hlat hmod (by simp) hns hk)
  case boundary =>
    intro n s
    refine ⟨fun hst hsw => ?_, fun hst => ?_, fun hst hsw => ?_, fun hst => ?_⟩
    · rw [applyRun_run hst hsw]
      exact ⟨outState_enterRun n s, soft_enterRun n s⟩
    · rw [applyRun_arm hst, out__setOut_self]
      exact ⟨rfl, rfl⟩
    · rw [applyRun_off_safe hst hsw]
      exact outState_enterOff n _
    · rw [applyRun_clearLatch hst]
      exact ⟨outState_enterOff n _, retry_cleared n s⟩
  case set =>
    intro r o m ws s hl hlat hmod
    exact ends_of_run (op := opStageSet r o m ws) rfl (opStageSet_taken (live_begin hl _) hlat hmod o m ws)
  case status =>
    intro r o k s hl hmod
    exact ends_of_run (op := opStageStatus r o k) rfl (opStageStatus_there (live_begin hl _) hmod o k)
  case sense =>
    intro r o s hl hmod
    exact ends_of_run (op := opStageSense r o) rfl (opStageSense_there (live_begin hl _) hmod o)

end Sys2Proof.Machine
end

section
/-! The protection commands (R210, R213, R219, R228): what each does once its checks have passed. -/
namespace Sys2Proof.Machine

open Sys2Proof

section
variable {r : Req} {s : State}

/-! ## PROT_SET and PROT_STATUS (R227, R228) -/

/-- The settings of output `n` with the fields of `m` replaced by those of `ws`. -/
def protApplied (s : State) (m : Nat) (ws : List Word) (n : Nat) : List Word :=
  (protApply s n m (ws.map (·.toNat)) (protTarget s n)).map (BitVec.ofNat 32)

/-- Settings replied and staged, each output's as its own write, for the outputs that an operand names. -/
def answerProtSet (r : Req) (o m : Nat) (ap : Nat → List Word) (s : State) : State :=
  replyOK r 0x0610 (beWords (ap ((outsNamed o).headD 0)))
    (foldState (fun n t => stage r 0x0610 ([byteOf n, 0, 0, 0] ++ be4 m ++ beWords (ap n)) [.prot n m (ap n)] t) (outsNamed o) s)

theorem opProtSet_taken (hl : Live s) (hlat : Latches r s) (hprot : hasProt s = true) (o m : Nat) (ws : List Word) :
    opProtSet r o m ws s = answerProtSet r o m (protApplied s m ws) s := by
  rw [opProtSet, command_live hl _ _ _ _ (find?_bad_eq_none (by
    simp [bad_absentProt hprot, bad_standbyDenied hlat, bad_standbyNotNow hlat]))]
  rfl

/-- The registers of an output's protection, its thermal gain and its two powers. -/
def protReport (s : State) (n : Nat) : List Byte :=
  be4 (peekReg s (rPROT_TEMP n)) ++ be4 (peekReg s (rPROT_MEAS n)) ++ be4 (peekReg s (rPROT_LOAD n)) ++
    be4 (peekReg s (rPROT_CNT n)) ++ be4 (peekReg s (rPROT_RUN n)) ++ beWords [thermGain s n s.pipeAt, (prot s n).pf, (prot s n).pss]

theorem opProtStatus_there (hl : Live s) (hprot : hasProt s = true) (o k : Nat) : opProtStatus r o k s =
    (if 1 ≤ k then clearProtCnt (min o 15) else id) (replyOK r 0x0611 (protReport s (min o 15)) s) := by
  simp only [opProtStatus, clampHi_eq_min]
  rw [command_live hl _ _ _ _ (find?_bad_eq_none (by simp [bad_absentProt hprot]))]
  have hregs (n : Nat) : [rPROT_TEMP n, rPROT_MEAS n, rPROT_LOAD n, rPROT_CNT n, rPROT_RUN n].flatMap (fun a => be4 (peekReg s a)) =
      be4 (peekReg s (rPROT_TEMP n)) ++ be4 (peekReg s (rPROT_MEAS n)) ++ be4 (peekReg s (rPROT_LOAD n)) ++
        be4 (peekReg s (rPROT_CNT n)) ++ be4 (peekReg s (rPROT_RUN n)) := by
    simp only [List.flatMap_cons, List.flatMap_nil, List.append_nil, List.append_assoc]
  rw [hregs, when_]
  by_cases hk : 1 ≤ k
  · rw [if_pos hk, if_pos (decide_eq_true hk)]
    rfl
  · rw [if_neg hk, if_neg (by simpa using hk)]
    rfl

/-! ## PROT_SWEEP and PROT_CAL without a target boundary (R219, R228) -/

section
variable (hl : Live s) (hprot : hasProt s = true) (hf : HandleFree r s) (hrole : getF s fTWIN_STAT_ROLE ≠ 2 ∨ r.ch = 3)
  (ht : targeted r s = false)
include hl hprot hf hrole ht

theorem opProtSweep_now {o : Nat} (harmed : outState s (min o 15) = oARMED) (hfree : sweepsOn (min o 15) s = false) :
    opProtSweep r o s = accept r 0x0612 (.sweep (min o 15)) (beginSweep (min o 15) s) := by
  rw [opProtSweep, clampHi_eq_min, command_live hl _ _ _ _ (find?_bad_eq_none (by
    simp [bad_absentProt hprot, bad_handleLimit hf, bad_standbyDenied_of_reaches hrole, harmed, hfree])), startOrStage_now ht]

theorem opProtCal_now {o : Nat} (hsource : sourceBarred s (min o 15) = false) (hrun : outState s (min o 15) = oRUN)
    (hfree : calsOn (min o 15) s = false) (k : Nat) : opProtCal r o k s =
      accept r 0x0613 (.cal (min o 15)) (beginCal (min o 15) (clampI (-40) 60 (signed 8 (k % 256))) s) := by
  rw [opProtCal, clampHi_eq_min, command_live hl _ _ _ _ (find?_bad_eq_none (by
    simp [bad_absentProt hprot, bad_handleLimit hf, bad_standbyDenied_of_reaches hrole, hsource, hrun, hfree]))]
  dsimp only
  rw [startOrStage_now ht]

end

end

/-- Settles O33: each command by what it does once its checks have passed. -/
theorem protectionCommandsComplete : Obligations.ProtectionCommandsComplete := by
  refine ⟨?set, ?status, ?sweep, ?cal⟩
  case set =>
    intro r o m ws s hl hlat hprot
    exact ends_of_run (op := opProtSet r o m ws) rfl (opProtSet_taken (live_begin hl _) hlat hprot o m ws)
  case status =>
    intro r o k s hl hprot
    exact ends_of_run (op := opProtStatus r o k) rfl (opProtStatus_there (live_begin hl _) hprot o k)
  case sweep =>
    intro r o s hl hprot hf hrole harmed hfree ht
    exact ends_of_run (op := opProtSweep r o) rfl (opProtSweep_now (live_begin hl _) hprot hf hrole ht harmed hfree)
  case cal =>
    intro r o k s hl hprot hf hrole hsource hrun hfree ht
    exact ends_of_run (op := opProtCal r o k) rfl (opProtCal_now (live_begin hl _) hprot hf hrole ht hsource hrun hfree k)

end Sys2Proof.Machine
end

section
/-! What the operations on an output's protection change, and what they leave (R210 to R225). -/
namespace Sys2Proof.Machine

open Sys2Proof

/-! ## Places of the protection's fields (R225) -/

/-- Where the fields stand that the ends of sweeps and calibrations write or show. -/
theorem protKeys (n : Nat) :
    (fPROT_TRK_R0 n).key = 0x400C0110 * 32 + 2048 * n ∧
    (fPROT_TEMP_TC n).key = 0x400C011C * 32 + 2048 * n ∧
    (fPROT_TEMP_TS n).key = 0x400C011C * 32 + 2048 * n + 16 ∧
    (fPROT_LOAD_CLASS n).key = 0x400C0124 * 32 + 2048 * n ∧
    (fPROT_LOAD_CAP n).key = 0x400C0124 * 32 + 2048 * n + 4 ∧
    (fPROT_LOAD_RHF n).key = 0x400C0124 * 32 + 2048 * n + 16 ∧
    (fPROT_RUN_PILOTON n).key = 0x400C012C * 32 + 2048 * n + 2 ∧
    (fPROT_RUN_PF n).key = 0x400C012C * 32 + 2048 * n + 16 ∧
    (fDYN_OUT_GR n).key = 0x40070100 * 32 + 128 * n ∧
    (fDYN_OUT_THERM n).key = 0x40070100 * 32 + 128 * n + 16 ∧
    (fDYN_OUT_HEAD n).key = 0x40070100 * 32 + 128 * n + 24 := by
  simp only [Fld.key, fieldKey, fPROT_TRK_R0, rPROT_TRK, fPROT_TEMP_TC, fPROT_TEMP_TS, rPROT_TEMP, fPROT_LOAD_CLASS, fPROT_LOAD_CAP,
    fPROT_LOAD_RHF, rPROT_LOAD, fPROT_RUN_PILOTON, fPROT_RUN_PF, rPROT_RUN, fDYN_OUT_GR, fDYN_OUT_THERM, fDYN_OUT_HEAD, rDYN_OUT]
  omega

/-- Where the fields stand that show several outputs, and the LPI field of ETH_STAT. -/
theorem protStatKeys :
    fPROT_STAT_LIMITING.key = 0x400C0000 * 32 ∧ fPROT_STAT_HOT.key = 0x400C0000 * 32 + 16 ∧
      fETH_STAT_LPI.key = 0x400A0000 * 32 + 2 := by
  decide

/-! ## The protection's entry of an output -/

section
variable (n : Nat) (s : State)

theorem prot_after (t : State) : prot (after s t) n = prot t n := rfl

theorem prot_setF (f : Fld) (v : Nat) : prot (setF f v s) n = prot s n := rfl

theorem getF_setProt (k : Nat) (q : ProtSt) (f : Fld) : getF (setProt k q s) f = getF s f := rfl

theorem prot_send (src inst cls kind ctx : Nat) : prot (send src inst cls kind ctx s) n = prot s n := by
  unfold send enqueue
  split <;> rfl

theorem prot_finishAll (p : OpKind → Bool) (st : Nat) (res : List Byte) : prot (finishAll p st res s) n = prot s n := by
  rw [(sameButFinish_finishAll p st res s).1]
  rfl

/-- The pilot is all of an output that its aim changes (R213). -/
theorem prot_aimPilot : prot (aimPilot n s) n = { prot s n with pilot := (prot (aimPilot n s) n).pilot } := by
  rw [aimPilot, prot_setF, prot_setProt_self]

/-- A window given up leaves its sums at 0 (R214). -/
theorem prot_dropWindow : prot (dropWindow n s) n =
    { prot s n with vc := 0, vs := 0, ic := 0, is_ := 0, lpVI := 0, lpII := 0, wn := 0, tcSum := 0, tcN := 0 } :=
  prot_setProt_self n _ s

theorem prot_refreshDynOut (k : Nat) : prot (refreshDynOut n s) k = prot s k := by
  rw [refreshDynOut, prot_setF, prot_setF, prot_setF]

theorem prot_showProt (k : Nat) : prot (showProt n s) k = prot s k := by
  have hdyn (u : State) : prot (when_ (clocksRun s) (refreshDynOut n) u) k = prot u k := by
    rw [when_]
    split
    · exact prot_refreshDynOut n u k
    · rfl
  rw [showProt, hdyn, setMaskBit, prot_setF, setMaskBit, prot_setF, prot_setF, setFI, prot_setF, setFI, prot_setF]

end

/-- What a new state of an output changes of its protection is the pilot's fade and the probe's window (R213, R221). -/
theorem setOutState_keepsProt {β : Type} {g : ProtSt → β} (hpilot : ∀ q r, g { q with pilot := r } = g q)
    (hprobe : ∀ q l, g { q with probe := l } = g q) (n v : Nat) (s : State) : g (prot (setOutState n v s) n) = g (prot s n) := by
  have hset (on : Bool) (u : State) : g (prot (setProbe n on u) n) = g (prot u n) := by
    rw [setProbe, setMaskBit, prot_setF]
    split
    · rw [prot_setProt_self, hprobe]
    · rfl
  rw [setOutState, prot_aimPilot, hpilot, hset]
  rfl

/-! ## What the protection shows (R151, R225) -/

/-- The fields in which the protection of output `n` shows itself. -/
def shownFields (n : Nat) : List Fld :=
  [fDYN_OUT_HEAD n, fDYN_OUT_THERM n, fDYN_OUT_GR n, fPROT_STAT_LIMITING, fPROT_STAT_HOT, fPROT_RUN_PF n, fPROT_TEMP_TC n, fPROT_TEMP_TS n]

theorem getF_showProt {n : Nat} {f : Fld} (hf : ∀ g ∈ shownFields n, f.key ≠ g.key) (s : State) : getF (showProt n s) f = getF s f := by
  simp only [shownFields, List.forall_mem_cons] at hf
  obtain ⟨hhead, htherm, hgr, hlimiting, hhot, hpf, htc, hts, -⟩ := hf
  have hdyn (u : State) : getF (when_ (clocksRun s) (refreshDynOut n) u) f = getF u f := by
    rw [when_]
    split
    · rw [refreshDynOut, getF_setF_ne _ _ _ _ hhead, getF_setF_ne _ _ _ _ htherm, getF_setF_ne _ _ _ _ hgr]
    · rfl
  rw [showProt, hdyn, setMaskBit, getF_setF_ne _ _ _ _ hlimiting, setMaskBit, getF_setF_ne _ _ _ _ hhot, getF_setF_ne _ _ _ _ hpf, setFI,
    getF_setF_ne _ _ _ _ htc, setFI, getF_setF_ne _ _ _ _ hts]

/-! ## R0 (R213, R228) -/

section
variable (n : Nat) (s : State)

theorem getF_r0_aimPilot : getF (aimPilot n s) (fPROT_TRK_R0 n) = getF s (fPROT_TRK_R0 n) :=
  getF_aimPilot (by simp only [protKeys]; omega) s

theorem getF_r0_showProt : getF (showProt n s) (fPROT_TRK_R0 n) = getF s (fPROT_TRK_R0 n) := by
  refine getF_showProt ?_ s
  simp only [shownFields, List.forall_mem_cons, List.not_mem_nil, false_imp_iff, implies_true, and_true, protKeys, protStatKeys]
  omega

theorem getF_r0_finishAll (p : OpKind → Bool) (st : Nat) (res : List Byte) :
    getF (finishAll p st res s) (fPROT_TRK_R0 n) = getF s (fPROT_TRK_R0 n) :=
  getF_finishAll p st res s _ (by simp only [protKeys, protStatKeys]; omega)

end

end Sys2Proof.Machine
end

section
/-! The ends of sweeps and calibrations, retries, and the windows of the tracker and the probe (R210 to R228). -/
namespace Sys2Proof.Machine

open Sys2Proof

/-! ## The end of a sweep (R220) -/

theorem ite_lt {c : Prop} [Decidable c] {a b m : Nat} (ha : a < m) (hb : b < m) : (if c then a else b) < m := by
  split
  · exact ha
  · exact hb

/-- A class fits its field. -/
theorem classify_lt (ps : List ZPoint) (low trip : Bool) : classify ps low trip < 8 := by
  unfold classify
  exact ite_lt (by decide) (ite_lt (by decide) (ite_lt (by decide) (ite_lt (by decide) (by decide))))

/-- The sweep of output `n` is over, and its class is stored. -/
def SweepStored (n cls : Nat) (u : State) : Prop := (prot u n).sweeping = false ∧ getF u (fPROT_LOAD_CLASS n) = cls

section
variable {n cls : Nat} {s u : State}

theorem sweepStored_stop (hcls : cls < 8) (n : Nat) (s : State) :
    SweepStored n cls (setF (fPROT_LOAD_CLASS n) cls (setProt n { prot s n with sweeping := false } s)) := by
  refine ⟨?_, (getF_setF_self _ _ _).trans (Nat.mod_eq_of_lt hcls)⟩
  rw [prot_setF, prot_setProt_self]

theorem sweepStored_free (h : SweepStored n cls u) (k : Nat) : SweepStored n cls { u with free := k } := h

/-- The capacitance and the resistance that a sweep may store stand beside the class. -/
theorem sweepStored_setF {f : Fld} (h : SweepStored n cls u) (hf : (fPROT_LOAD_CLASS n).key ≠ f.key) (v : Nat) :
    SweepStored n cls (setF f v u) := by
  obtain ⟨hsweeping, hclass⟩ := h
  refine ⟨?_, (getF_setF_ne _ _ _ _ hf).trans hclass⟩
  rw [prot_setF, hsweeping]

/-- A sweep that has its points or has tripped is over: its class is stored, and its handle completes. -/
theorem sweepDone_over (hsw : (prot s n).sweeping = true) (hover : 24 ≤ (prot s n).swPts.length ∨ (prot s n).sweepTrip = true) :
    ∃ res u, sweepDone n s = finishAll (isSweepOf n) stOK res u ∧
      SweepStored n (classify (prot s n).swPts (prot s n).swLow (prot s n).sweepTrip) u := by
  have hgo : ¬((!(prot s n).sweeping) = true ∨ ((prot s n).swPts.length < 24 ∧ (prot s n).sweepTrip = false)) := by
    rw [hsw]
    rintro (hstopped | ⟨hfew, hclear⟩)
    · exact absurd hstopped (by decide)
    · rcases hover with hpts | htrip
      · exact Nat.not_lt.2 hpts hfew
      · exact absurd (htrip.symm.trans hclear) (by decide)
  have hcap : (fPROT_LOAD_CLASS n).key ≠ (fPROT_LOAD_CAP n).key := by simp only [protKeys]; omega
  have hrhf : (fPROT_LOAD_CLASS n).key ≠ (fPROT_LOAD_RHF n).key := by simp only [protKeys]; omega
  have hstop := sweepStored_stop (classify_lt (prot s n).swPts (prot s n).swLow (prot s n).sweepTrip) n s
  rw [sweepDone, if_neg hgo]
  dsimp only
  split
  · exact ⟨_, _, rfl, sweepStored_setF (sweepStored_setF (sweepStored_free hstop _) hrhf _) hcap _⟩
  · exact ⟨_, _, rfl, sweepStored_free (sweepStored_free (sweepStored_free hstop _) _) _⟩

end

/-! ## The end of a calibration (R228) -/

theorem clampI_bounds {lo hi : Int} (h : lo ≤ hi) (n : Int) : lo ≤ clampI lo hi n ∧ clampI lo hi n ≤ hi := by
  unfold clampI
  split
  · exact ⟨Int.le_refl lo, h⟩
  · split
    · exact ⟨h, Int.le_refl hi⟩
    · exact ⟨Int.not_lt.1 ‹_›, Int.not_lt.1 ‹_›⟩

/-- R0 in mΩ from the first four windows of a calibration. -/
def calR0 (l : List Word) : Int := clampI 500 65535 (fpToInt (fpMul (fpMean (l.take 4)) 0x447A0000) 0)

/-- The calibration at temperature `d` is over: the model starts from `d`, and R0 and T0 are set. -/
def calibrated (n : Nat) (d : Int) (l : List Word) (s : State) : State :=
  setF (fPROT_TRK_R0 n) (calR0 l).toNat (setFI (fPROT_TRK_T0 n) d
    (setProt n { prot (setProt n { prot s n with cal := none } s) n with tc := fpOfInt d, ts := fpOfInt d }
      (setProt n { prot s n with cal := none } s)))

section
variable {n k : Nat} {d : Int} {l : List Word} {s : State}

theorem getF_r0_calibrated (n : Nat) (d : Int) (l : List Word) (s : State) :
    (getF (calibrated n d l s) (fPROT_TRK_R0 n) : Int) = calR0 l := by
  obtain ⟨hlo, hhi⟩ : 500 ≤ calR0 l ∧ calR0 l ≤ 65535 := clampI_bounds (by decide) _
  have hfits : (calR0 l).toNat < 2 ^ (fPROT_TRK_R0 n).width := by
    change (calR0 l).toNat < 65536
    omega
  rw [calibrated, getF_setF_self, Nat.mod_eq_of_lt hfits]
  omega

theorem prot_calibrated (n : Nat) (d : Int) (l : List Word) (s : State) :
    prot (calibrated n d l s) n = { prot s n with cal := none, tc := fpOfInt d, ts := fpOfInt d } := by
  rw [calibrated, prot_setF, setFI, prot_setF, prot_setProt_self, prot_setProt_self]

theorem calDone_enough (hcal : (prot s n).cal = some (d, l, k)) (hl : 4 ≤ l.length) : calDone n s =
    finishAll (isCalOf n) stOK (be4 (calR0 l).toNat) (showProt n (aimPilot n (dropWindow n (calibrated n d l s)))) := by
  have hover : calWindow.calOver (d, l, k) = true := Bool.or_eq_true_iff.2 (.inl (decide_eq_true hl))
  simp only [calDone, hcal, hover, Bool.not_true, Bool.false_eq_true, if_false, if_pos hl]
  rfl

theorem calDone_few (hcal : (prot s n).cal = some (d, l, k)) (hl : l.length < 4) (hk : 8 ≤ k) : calDone n s =
    finishAll (isCalOf n) stFAILED [] (aimPilot n (setProt n { prot s n with cal := none } s)) := by
  have hover : calWindow.calOver (d, l, k) = true := Bool.or_eq_true_iff.2 (.inr (decide_eq_true hk))
  simp only [calDone, hcal, hover, Bool.not_true, Bool.false_eq_true, if_false, if_neg (Nat.not_le.2 hl)]

theorem prot_calDone_enough (hcal : (prot s n).cal = some (d, l, k)) (hl : 4 ≤ l.length) :
    (prot (calDone n s) n).cal = none ∧ (prot (calDone n s) n).tc = fpOfInt d ∧ (prot (calDone n s) n).ts = fpOfInt d := by
  rw [calDone_enough hcal hl, prot_finishAll, prot_showProt, prot_aimPilot, prot_dropWindow, prot_calibrated]
  exact ⟨rfl, rfl, rfl⟩

theorem getF_r0_calDone_enough (hcal : (prot s n).cal = some (d, l, k)) (hl : 4 ≤ l.length) :
    (getF (calDone n s) (fPROT_TRK_R0 n) : Int) = calR0 l := by
  rw [calDone_enough hcal hl, getF_r0_finishAll, getF_r0_showProt, getF_r0_aimPilot, dropWindow, getF_setProt, getF_r0_calibrated]

theorem cal_calDone_few (hcal : (prot s n).cal = some (d, l, k)) (hl : l.length < 4) (hk : 8 ≤ k) :
    (prot (calDone n s) n).cal = none := by
  rw [calDone_few hcal hl hk, prot_finishAll, prot_aimPilot, prot_setProt_self]

theorem getF_r0_calDone_few (hcal : (prot s n).cal = some (d, l, k)) (hl : l.length < 4) (hk : 8 ≤ k) :
    getF (calDone n s) (fPROT_TRK_R0 n) = getF s (fPROT_TRK_R0 n) := by
  rw [calDone_few hcal hl hk, getF_r0_finishAll, getF_r0_aimPilot, getF_setProt]

end

/-! ## Retries (R222) -/

section
variable {n : Nat} {s : State}

/-- A retry that waits for precharge no longer waits in SAFE, and counts. -/
def retryBegun (n : Nat) (s : State) : State :=
  setF (fPROT_RUN_RETRY n) (getF s (fPROT_RUN_RETRY n) + 1)
    (setProt n { prot s n with retryWait := false, retryDue := false, retrying := true } s)

theorem startRetry_cooled (hwait : (prot s n).retryWait = true) (hsafe : outState s n = oSAFE)
    (hcool : fpLt (prot s n).tc (pTmax s n) = true) (hfree : s.upd.gHold = false) :
    startRetry n s = startPrecharge n true (retryBegun n s) := by
  have hwaits : ¬((!(prot s n).retryWait) = true ∨ outState s n ≠ oSAFE) := by
    rw [hwait]
    rintro (hidle | hleft)
    · exact absurd hidle (by decide)
    · exact hleft hsafe
  have hgo : fpLt (prot s n).tc (pTmax s n) = true ∧ ¬s.upd.gHold = true := ⟨hcool, by rw [hfree]; decide⟩
  exact (if_neg hwaits).trans (if_pos hgo)

theorem prot_retryBegun (n : Nat) (s : State) :
    prot (retryBegun n s) n = { prot s n with retryWait := false, retryDue := false, retrying := true } := by
  rw [retryBegun, prot_setF, prot_setProt_self]

theorem getF_retry_startPrecharge (n : Nat) (fromSafe : Bool) (s : State) :
    getF (startPrecharge n fromSafe s) (fPROT_RUN_RETRY n) = getF s (fPROT_RUN_RETRY n) := getF_retry_setOutState n oPRECHARGE _

theorem retrying_startPrecharge (n : Nat) (fromSafe : Bool) (s : State) :
    (prot (startPrecharge n fromSafe s) n).retrying = (prot s n).retrying :=
  setOutState_keepsProt (g := ProtSt.retrying) (fun _ _ => rfl) (fun _ _ => rfl) n oPRECHARGE _

theorem retryWait_startPrecharge (n : Nat) (fromSafe : Bool) (s : State) :
    (prot (startPrecharge n fromSafe s) n).retryWait = (prot s n).retryWait :=
  setOutState_keepsProt (g := ProtSt.retryWait) (fun _ _ => rfl) (fun _ _ => rfl) n oPRECHARGE _

end

/-! ## The windows of the tracker and the probe (R214, R221) -/

theorem wn_measWindowEnd (n : Nat) (s : State) : (prot (measWindowEnd n s) n).wn = 0 := by
  unfold measWindowEnd
  dsimp only
  split
  · rw [prot_dropWindow]
  · rw [prot_dropWindow]

section
variable {n : Nat} {s : State}

/-- The probe listens on the output, and its window has sense pairs and a current of 1 mA or more. -/
structure ProbeHeard (n : Nat) (s : State) : Prop where
  active : (getF s fPROT_PROBE_ACTIVE).testBit n = true
  pairs  : (prot s n).probe.n ≠ 0
  loud   : fpLt (lockAmp (prot s n).probe) 0x3A83126F = false

theorem probeWindowEnd_heard (h : ProbeHeard n s) :
    ¬((!(getF (setProt n { prot s n with probe := {} } s) fPROT_PROBE_ACTIVE).testBit n) = true ∨
      (prot s n).probe.n = 0 ∨ fpLt (lockAmp (prot s n).probe) 0x3A83126F = true) := by
  obtain ⟨hactive, hpairs, hloud⟩ := h
  rw [getF_setProt, hactive]
  rintro (hidle | hempty | hquiet)
  · exact absurd hidle (by decide)
  · exact hpairs hempty
  · exact absurd (hloud.symm.trans hquiet) (by decide)

/-- Up to the tenth, a window of the probe goes into its reference. -/
theorem prot_probeWindowEnd_first (h : ProbeHeard n s) (hz : (prot s n).zref = none) : prot (probeWindowEnd n s) n =
    { prot s n with
      probe := {}
      zWins := (prot s n).zWins ++ [probeZ (prot s n).probe]
      zref := if 10 ≤ (prot s n).zWins.length + 1 then some (fpMean ((prot s n).zWins ++ [probeZ (prot s n).probe])) else none } := by
  unfold probeWindowEnd
  dsimp only
  rw [if_neg (probeWindowEnd_heard h)]
  simp only [prot_setProt_self, hz, List.length_append, List.length_singleton]

/-- Against a reference, a window of the probe counts as high or ends the run of high ones. -/
theorem prot_probeWindowEnd_later {z0 : Word} (h : ProbeHeard n s) (hz : (prot s n).zref = some z0) : prot (probeWindowEnd n s) n =
    { prot s n with
      probe := {}
      lossRun := if fpLe (fpMul (fpRatio (getF s (fPROT_AMB_PROBEK n)) 10) z0) (probeZ (prot s n).probe)
        then min 3 ((prot s n).lossRun + 1) else 0 } := by
  unfold probeWindowEnd
  dsimp only
  rw [if_neg (probeWindowEnd_heard h)]
  simp only [prot_setProt_self, hz, getF_setProt]
  rw [apply_ite (prot · n)]
  simp only [prot_send, setMaskBit, prot_setF, prot_setProt_self, ite_self]

end

end Sys2Proof.Machine
end

section
/-! The copies of the thermal models in retention RAM, and the words of memory read back after a store (R27, R211). -/
namespace Sys2Proof.Machine

open Sys2Proof

/-! ## Words of memory (R27) -/

theorem length_leBytes (k n : Nat) : (leBytes k n).length = k := by
  induction k generalizing n with
  | zero => rfl
  | succ k ih => rw [leBytes, List.length_cons, ih]

theorem leNat_leBytes (k n : Nat) : leNat (leBytes k n) = n % 256 ^ k := by
  induction k generalizing n with
  | zero => exact (Nat.mod_one n).symm
  | succ k ih =>
    calc leNat (leBytes (k + 1) n) = n % 256 + 256 * (n / 256 % 256 ^ k) := by rw [leBytes, leNat, ih, byteOf, BitVec.toNat_ofNat]
      _ = n % (256 * 256 ^ k) := Nat.mod_mul.symm
      _ = n % 256 ^ (k + 1) := by rw [Nat.pow_succ']

theorem cgetMany_csetMany_out {α : Type} [DecidableEq α] (d : Nat → α) (vs : List α) (m : Cells α) {j k n : Nat}
    (h : j + n ≤ k ∨ k + vs.length ≤ j) : cgetMany d (csetMany d m k vs) j n = cgetMany d m j n := by
  induction n generalizing j with
  | zero => rfl
  | succ n ih => rw [cgetMany, cgetMany, ih (by omega), cget_csetMany_out d vs m (by omega)]

theorem memWord_congr {s t : State} (h : t.mem = s.mem) (a : Nat) : memWord t a = memWord s a := congrArg leNat (memBytes_congr h a 4)

theorem memWord_setMemWord_self (a : Nat) (w : Word) (s : State) : memWord (setMemWord a w.toNat s) a = w.toNat := by
  have hread := memBytes_setMemBytes_self a (leBytes 4 w.toNat) s
  rw [length_leBytes] at hread
  rw [memWord, setMemWord, hread, leNat_leBytes]
  exact Nat.mod_eq_of_lt w.isLt

/-- Of two words that share no byte, a store to one leaves the other. -/
theorem memWord_setMemWord_out {a b : Nat} (h : b + 4 ≤ a ∨ a + 4 ≤ b) (n : Nat) (s : State) :
    memWord (setMemWord a n s) b = memWord s b :=
  congrArg leNat (cgetMany_csetMany_out memDefault _ _ (by rwa [length_leBytes]))

/-! ## The copies (R211) -/

/-- The copy of output `n` holds its two temperatures. -/
def ThermalCopied (n : Nat) (t : State) : Prop :=
  memWord t (thermalAddr n) = (prot t n).tc.toNat ∧ memWord t (thermalAddr n + 4) = (prot t n).ts.toNat

theorem prot_copyThermal (k n : Nat) (s : State) : prot (copyThermal k s) n = prot s n := rfl

theorem memForm_copyThermal {s : State} (h : MemForm s) (n : Nat) : MemForm (copyThermal n s) :=
  memForm_setMemWord _ _ (memForm_setMemWord _ _ h)

theorem thermalCopied_self (n : Nat) (s : State) : ThermalCopied n (copyThermal n s) := by
  rw [ThermalCopied, prot_copyThermal, copyThermal]
  exact ⟨(memWord_setMemWord_out (.inl (Nat.le_refl _)) _ _).trans (memWord_setMemWord_self _ _ _), memWord_setMemWord_self _ _ _⟩

/-- The copy of another output stands elsewhere. -/
theorem thermalCopied_other {n : Nat} {s : State} (h : ThermalCopied n s) {k : Nat} (hk : k ≠ n) :
    ThermalCopied n (copyThermal k s) := by
  obtain ⟨htc, hts⟩ := h
  rw [ThermalCopied, prot_copyThermal, copyThermal]
  constructor
  · rw [memWord_setMemWord_out (by unfold thermalAddr; omega), memWord_setMemWord_out (by unfold thermalAddr; omega), htc]
  · rw [memWord_setMemWord_out (by unfold thermalAddr; omega), memWord_setMemWord_out (by unfold thermalAddr; omega), hts]

theorem thermalCopied_copyThermal {n : Nat} {s : State} (k : Nat) (h : ThermalCopied n s) : ThermalCopied n (copyThermal k s) := by
  by_cases hk : k = n
  · subst hk
    exact thermalCopied_self k s
  · exact thermalCopied_other h hk

/-- The copies of all 16 outputs. -/
def thermalCopies (s : State) : State := foldState copyThermal (List.range 16) s

theorem thermalCopied_copies {n : Nat} (hn : n < 16) (s : State) : ThermalCopied n (thermalCopies s) :=
  foldState_of_mem (P := ThermalCopied n) (List.mem_range.2 hn) (thermalCopied_self n) (fun k _ => thermalCopied_copyThermal k) s

theorem prot_thermalCopies (n : Nat) (s : State) : prot (thermalCopies s) n = prot s n :=
  foldState_keeps (prot · n) (fun k t => prot_copyThermal k n t) _ s

theorem memForm_thermalCopies {s : State} (h : MemForm s) : MemForm (thermalCopies s) := by
  rw [thermalCopies]
  exact foldState_preserves (P := MemForm) (f := copyThermal) (fun n _ ht => memForm_copyThermal ht n) (List.range 16) h

theorem endsMem_thermalCopy {c : Nat} {s : State} (hr : Running s) (hprot : hasProt s = true) : EndsMem (.thermalCopy c) c s thermalCopies :=
  endsMem_of_runMem (op := ifRunning _) rfl ((ifRunning_run (running_begin hr c) _).trans (if_pos hprot))

end Sys2Proof.Machine
end

section
/-! The events of the protection (R210 to R228): sweeps, calibrations, retries, the copies and the windows end with their effects. -/
namespace Sys2Proof.Machine

open Sys2Proof

/-- An event that completes the operations of a kind leaves none of them running. -/
theorem stopped_after {p : OpKind → Bool} {st : Nat} {res : List Byte} {s t u : State} (h : t = finishAll p st res u) :
    Stopped p (after s t) := by
  rw [h]
  exact finishAll_stopped p st res u

section
variable {c : Nat} {n : Fin 16} {s : State} (hr : Running s)
include hr

theorem yields_protSweepDone (hsw : (prot s n).sweeping = true) (hover : 24 ≤ (prot s n).swPts.length ∨ (prot s n).sweepTrip = true) :
    Yields (.protSweepDone c n () ()) s (fun t => Stopped (isSweepOf n) t ∧ (prot t n).sweeping = false ∧
      getF t (fPROT_LOAD_CLASS n) = classify (prot s n).swPts (prot s n).swLow (prot s n).sweepTrip) := by
  obtain ⟨res, u, hdone, hsweeping, hclass⟩ := sweepDone_over (s := begin_ c s) hsw hover
  refine ⟨_, ends_of_event (op := sweepDone n) hr rfl, stopped_after hdone, ?_, ?_⟩
  · rw [prot_after, hdone, prot_finishAll, hsweeping]
  · rw [getF_after, hdone, getF_finishAll _ _ _ _ _ (by simp only [protKeys, protStatKeys]; omega)]
    exact hclass

theorem yields_protCalDone_enough {k : Nat} {d : Int} {l : List Word} (hcal : (prot s n).cal = some (d, l, k)) (hl : 4 ≤ l.length) :
    Yields (.protCalDone c n) s (fun t => Stopped (isCalOf n) t ∧ (prot t n).cal = none ∧ (getF t (fPROT_TRK_R0 n) : Int) = calR0 l ∧
      (prot t n).tc = fpOfInt d ∧ (prot t n).ts = fpOfInt d) := by
  have hcal' : (prot (begin_ c s) n).cal = some (d, l, k) := hcal
  obtain ⟨hnone, htc, hts⟩ := prot_calDone_enough hcal' hl
  exact ⟨_, ends_of_event (op := calDone n) hr rfl, stopped_after (calDone_enough hcal' hl), hnone, getF_r0_calDone_enough hcal' hl, htc, hts⟩

theorem yields_protCalDone_few {k : Nat} {d : Int} {l : List Word} (hcal : (prot s n).cal = some (d, l, k)) (hl : l.length < 4)
    (hk : 8 ≤ k) : Yields (.protCalDone c n) s (fun t => Stopped (isCalOf n) t ∧ (prot t n).cal = none ∧
      getF t (fPROT_TRK_R0 n) = getF s (fPROT_TRK_R0 n)) := by
  have hcal' : (prot (begin_ c s) n).cal = some (d, l, k) := hcal
  exact ⟨_, ends_of_event (op := calDone n) hr rfl, stopped_after (calDone_few hcal' hl hk), cal_calDone_few hcal' hl hk,
    getF_r0_calDone_few hcal' hl hk⟩

theorem yields_retryStart (hwait : (prot s n).retryWait = true) (hsafe : outState s n = oSAFE)
    (hcool : fpLt (prot s n).tc (pTmax s n) = true) (hfree : s.upd.gHold = false) :
    Yields (.retryStart c n) s (fun t => outState t n = oPRECHARGE ∧ (prot t n).retrying = true ∧ (prot t n).retryWait = false ∧
      getF t (fPROT_RUN_RETRY n) = (getF s (fPROT_RUN_RETRY n) + 1) % 2 ^ (fPROT_RUN_RETRY n).width) := by
  have hbegun := startRetry_cooled (s := begin_ c s) (n := n) hwait hsafe hcool hfree
  refine ⟨_, ends_of_event (op := startRetry n) hr rfl, ?_, ?_, ?_, ?_⟩
  · rw [outState_after, hbegun, outState_startPrecharge]
  · rw [prot_after, hbegun, retrying_startPrecharge, prot_retryBegun]
  · rw [prot_after, hbegun, retryWait_startPrecharge, prot_retryBegun]
  · rw [getF_after, hbegun, getF_retry_startPrecharge, retryBegun, getF_setF_self]
    rfl

theorem ends_retryClear (hrun : outState s n = oRUN) : Ends (.retryClear c n) c s (setF (fPROT_RUN_RETRY n) 0) :=
  ends_of_run (op := ifRunning _) rfl ((ifRunning_run (running_begin hr c) _).trans (if_pos hrun))

theorem yields_thermalCopy (hprot : hasProt s = true) (hm : MemForm s) :
    Yields (.thermalCopy c) s (fun t => ∀ n < 16, memWord t (thermalAddr n) = (prot s n).tc.toNat ∧
      memWord t (thermalAddr n + 4) = (prot s n).ts.toNat) := by
  refine ⟨_, endsMem_thermalCopy hr hprot, fun n hn => ?_⟩
  have hmem := mem_afterMem (s := s) (memForm_thermalCopies (s := begin_ c s) hm)
  obtain ⟨htc, hts⟩ := thermalCopied_copies hn (begin_ c s)
  rw [prot_thermalCopies] at htc hts
  exact ⟨(memWord_congr hmem _).trans htc, (memWord_congr hmem _).trans hts⟩

theorem ends_measWindowEnd : Ends (.measWindowEnd c n) c s (measWindowEnd n) := ends_of_event hr rfl

theorem ends_probeWindowEnd : Ends (.probeWindowEnd c n () ()) c s (probeWindowEnd n) := ends_of_event hr rfl

end

/-- What the probe has heard does not depend on the cycle. -/
theorem probeHeard_begin {n : Nat} {s : State} (h : ProbeHeard n s) (c : Nat) : ProbeHeard n (begin_ c s) := ⟨h.active, h.pairs, h.loud⟩

/-- Settles O34: each event by its effect, and each effect by what it leaves of the output's protection, its registers or the copies. -/
theorem protectionEventsComplete : Obligations.ProtectionEventsComplete := by
  refine ⟨⟨?sweep, ?cal, ?calFailed⟩, ?retry, ?forget, ?copies, ?window, ?probeFirst, ?probeLater⟩
  case sweep =>
    intro c n s hr hsw hover
    exact yields_protSweepDone hr hsw hover
  case cal =>
    intro c k n d l s hr hcal hl
    exact yields_protCalDone_enough hr hcal hl
  case calFailed =>
    intro c k n d l s hr hcal hl hk
    exact yields_protCalDone_few hr hcal hl hk
  case retry =>
    intro c n s hr hwait hsafe hcool hfree
    exact yields_retryStart hr hwait hsafe hcool hfree
  case forget =>
    intro c n s hr hrun
    exact ends_retryClear hr hrun
  case copies =>
    intro c s hr hprot hm
    exact yields_thermalCopy hr hprot hm
  case window =>
    intro c n s hr _
    exact ⟨ends_measWindowEnd hr, _, ends_measWindowEnd hr, wn_measWindowEnd n (begin_ c s)⟩
  case probeFirst =>
    intro c n z s hr hactive hpairs hloud hz hzdef
    subst hzdef
    have hprot := prot_probeWindowEnd_first (probeHeard_begin ⟨hactive, hpairs, hloud⟩ c) hz
    exact ⟨_, ends_probeWindowEnd hr, congrArg ProtSt.zWins hprot, congrArg ProtSt.probe hprot, congrArg ProtSt.zref hprot⟩
  case probeLater =>
    intro c n z z0 s hr hactive hpairs hloud hz hzdef
    subst hzdef
    have hprot := prot_probeWindowEnd_later (probeHeard_begin ⟨hactive, hpairs, hloud⟩ c) hz
    exact ⟨_, ends_probeWindowEnd hr, congrArg ProtSt.probe hprot, congrArg ProtSt.lossRun hprot⟩

end Sys2Proof.Machine
end

section
/-! What the operations on a lane change, and what they leave of its state, its registers and the Kiln (R238, R239, R247, R253). -/
namespace Sys2Proof.Machine

open Sys2Proof

/-! ## Places of the trunk's fields (R253) -/

/-- Where the fields of a trunk lane stand. -/
theorem laneKeys (n : Nat) :
    (fTL_STS_STATE n).key = 0x40090104 * 32 + 1024 * n ∧
    (fTL_STS_CTLEF n).key = 0x40090104 * 32 + 1024 * n + 3 ∧
    (fTL_STS_MAPOK n).key = 0x40090104 * 32 + 1024 * n + 8 ∧
    (fTL_OFFS_OFFS n).key = 0x40090110 * 32 + 1024 * n ∧
    (fTL_PEER_NODE_ID n).key = 0x40090114 * 32 + 1024 * n ∧
    (fTL_CNT_CRCE n).key = 0x40090118 * 32 + 1024 * n ∧
    (fTL_CNT_CODE n).key = 0x40090118 * 32 + 1024 * n + 8 ∧
    (fTL_CNT_SLIP n).key = 0x40090118 * 32 + 1024 * n + 16 ∧
    (fTL_CNT_DOWN n).key = 0x40090118 * 32 + 1024 * n + 24 ∧
    (fTL_CLAIM_HIGH n).key = 0x4009011C * 32 + 1024 * n ∧
    (fTL_CLAIM_LAST n).key = 0x4009011C * 32 + 1024 * n + 16 := by
  simp only [Fld.key, fieldKey, fTL_STS_STATE, fTL_STS_CTLEF, fTL_STS_MAPOK, rTL_STS, fTL_OFFS_OFFS,
    rTL_OFFS, fTL_PEER_NODE_ID, rTL_PEER, fTL_CNT_CRCE, fTL_CNT_CODE, fTL_CNT_SLIP, fTL_CNT_DOWN, rTL_CNT, fTL_CLAIM_HIGH, fTL_CLAIM_LAST,
    rTL_CLAIM]
  omega

/-- Where the fields stand that show several lanes, the count of dropped shards, and the LPI field of ETH_STAT. -/
theorem trunkStatKeys :
    fTRUNK_STAT_UP.key = 0x40090000 * 32 ∧ fTRUNK_STAT_TRAINING.key = 0x40090000 * 32 + 8 ∧ fTWIN_STAT_TWUP.key = 0x400D0000 * 32 + 5 ∧
      fKILN_CNT_DROP.key = 0x40010014 * 32 + 24 ∧ fETH_STAT_LPI.key = 0x400A0000 * 32 + 2 := by
  decide

/-! ## What leaves a lane -/

section
variable (l : Nat) (s : State)

theorem lane_after (t : State) : lane (after s t) l = lane t l := rfl

theorem laneState_after (t : State) : laneState (after s t) l = laneState t l := rfl

theorem lane_setF (f : Fld) (v : Nat) : lane (setF f v s) l = lane s l := rfl

theorem lane_bump (f : Fld) : lane (bump f s) l = lane s l := rfl

theorem getF_setLane (k : Nat) (q : LaneSt) (f : Fld) : getF (setLane k q s) f = getF s f := rfl

theorem kiln_setLane (k : Nat) (q : LaneSt) : (setLane k q s).kiln = s.kiln := rfl

theorem kiln_bump (f : Fld) : (bump f s).kiln = s.kiln := rfl

theorem lane_send (src inst cls kind ctx : Nat) : lane (send src inst cls kind ctx s) l = lane s l := by
  unfold send enqueue
  split <;> rfl

theorem lane_finishAll (p : OpKind → Bool) (st : Nat) (res : List Byte) : lane (finishAll p st res s) l = lane s l := by
  rw [(sameButFinish_finishAll p st res s).1]
  rfl

theorem kiln_finishAll (p : OpKind → Bool) (st : Nat) (res : List Byte) : (finishAll p st res s).kiln = s.kiln := by
  rw [(sameButFinish_finishAll p st res s).1]

/-- STATE of a trunk lane and the entry of a twin lane are all that its state rests on. -/
theorem laneState_congr {t : State} (hreg : getF t (fTL_STS_STATE l) = getF s (fTL_STS_STATE l)) (hlane : (lane t l).state = (lane s l).state) :
    laneState t l = laneState s l := by
  rw [laneState, laneState, hreg, hlane]

theorem laneState_setF {f : Fld} (hf : (fTL_STS_STATE l).key ≠ f.key) (v : Nat) : laneState (setF f v s) l = laneState s l :=
  laneState_congr l s (getF_setF_ne _ _ _ _ hf) rfl

theorem laneState_setLane {q : LaneSt} (hq : q.state = (lane s l).state) : laneState (setLane l q s) l = laneState s l :=
  laneState_congr l s rfl (by rw [lane_setLane_self, hq])

theorem laneState_send (src inst cls kind ctx : Nat) : laneState (send src inst cls kind ctx s) l = laneState s l :=
  laneState_congr l s (getF_send (by simp only [laneKeys, trunkStatKeys]; omega) _ _ _ _ _ _) (by rw [lane_send])

theorem laneState_finishAll (p : OpKind → Bool) (st : Nat) (res : List Byte) : laneState (finishAll p st res s) l = laneState s l :=
  laneState_congr l s (getF_finishAll _ _ _ _ _ (by simp only [laneKeys, trunkStatKeys]; omega)) (by rw [lane_finishAll])

end

/-! ## A new state of a lane (R239) -/

/-- The fields in which the state of lane `l` shows itself. -/
def laneStateFields (l : Nat) : List Fld := [fTL_STS_STATE l, fTRUNK_STAT_TRAINING, fTRUNK_STAT_UP, fTWIN_STAT_TWUP]

/-- A view of the state that neither registers nor the lanes' entries change stays as it was. -/
theorem setLaneState_keeps {β : Type} {g : State → β} (hregs : ∀ s m, g { s with regs := m } = g s)
    (hlanes : ∀ s m, g { s with lanes := m } = g s) (l v : Nat) (s : State) : g (setLaneState l v s) = g s := by
  rw [setLaneState]
  split
  · exact (hregs _ _).trans ((hregs _ _).trans (hregs _ _))
  · exact (hregs _ _).trans (hlanes _ _)

theorem kiln_setLaneState (l v : Nat) (s : State) : (setLaneState l v s).kiln = s.kiln :=
  setLaneState_keeps (g := State.kiln) (fun _ _ => rfl) (fun _ _ => rfl) l v s

theorem ops_setLaneState (l v : Nat) (s : State) : (setLaneState l v s).ops = s.ops :=
  setLaneState_keeps (g := State.ops) (fun _ _ => rfl) (fun _ _ => rfl) l v s

/-- What a new state changes of the lane's entry is the state of a twin lane. -/
theorem setLaneState_keepsLane {β : Type} {g : LaneSt → β} (hstate : ∀ q v, g { q with state := v } = g q) (l v : Nat) (s : State) :
    g (lane (setLaneState l v s) l) = g (lane s l) := by
  rw [setLaneState]
  split
  · rfl
  · rw [lane_setF, lane_setLane_self, hstate]

theorem getF_setLaneState {l : Nat} {f : Fld} (hf : ∀ g ∈ laneStateFields l, f.key ≠ g.key) (v : Nat) (s : State) :
    getF (setLaneState l v s) f = getF s f := by
  simp only [laneStateFields, List.forall_mem_cons] at hf
  obtain ⟨hstate, htraining, hup, htwup, -⟩ := hf
  rw [setLaneState]
  split
  · rw [setMaskBit, getF_setF_ne _ _ _ _ hup, setMaskBit, getF_setF_ne _ _ _ _ htraining, getF_setF_ne _ _ _ _ hstate]
  · rw [getF_setF_ne _ _ _ _ htwup, getF_setLane]

theorem laneState_setLaneState {v : Nat} (hv : v < 8) (l : Nat) (s : State) : laneState (setLaneState l v s) l = v := by
  have hup : (fTL_STS_STATE l).key ≠ fTRUNK_STAT_UP.key := by simp only [laneKeys, trunkStatKeys]; omega
  have htraining : (fTL_STS_STATE l).key ≠ fTRUNK_STAT_TRAINING.key := by simp only [laneKeys, trunkStatKeys]; omega
  by_cases hl : l < 8
  · rw [laneState, if_pos hl, setLaneState, if_pos hl, setMaskBit, getF_setF_ne _ _ _ _ hup, setMaskBit, getF_setF_ne _ _ _ _ htraining,
      getF_setF_self]
    exact Nat.mod_eq_of_lt hv
  · rw [laneState, if_neg hl, setLaneState, if_neg hl, lane_setF, lane_setLane_self]

/-! ## Bring-up anew (R238, R239, R247, R252) -/

theorem kiln_setLaneLock (l : Nat) (v : Bool) (s : State) : (setLaneLock l v s).kiln = s.kiln := by
  rw [setLaneLock]
  split <;> rfl

theorem kiln_quietLane (l : Nat) (s : State) : (quietLane l s).kiln = s.kiln := by
  rw [quietLane, kiln_setLane]
  split
  · exact kiln_setF _ _ _
  · rfl

theorem getF_quietLane {l : Nat} {f : Fld} (hf : f.key ≠ (fTL_STS_MAPOK l).key) (s : State) : getF (quietLane l s) f = getF s f := by
  rw [quietLane, getF_setLane]
  split
  · exact getF_setF_ne _ _ _ _ hf
  · rfl

section
variable (l : Nat) (s : State)

theorem laneState_trainLane : laneState (trainLane l s) l = lTRAIN := laneState_setLaneState (by decide) l _

/-- No operation of the lane outlives its return to TRAIN (R238, R252). -/
theorem stopped_trainLane : Stopped (onLane l) (trainLane l s) := by
  rw [Stopped, trainLane, ops_setLaneState]
  exact finishAll_stopped _ _ _ _

theorem kiln_trainLane : (trainLane l s).kiln = s.kiln := by
  rw [trainLane, kiln_setLaneState, kiln_finishAll, kiln_quietLane]

theorem getF_down_trainLane : getF (trainLane l s) (fTL_CNT_DOWN l) = getF s (fTL_CNT_DOWN l) := by
  have hshown : ∀ g ∈ laneStateFields l, (fTL_CNT_DOWN l).key ≠ g.key := by
    simp only [laneStateFields, List.forall_mem_cons, List.not_mem_nil, false_imp_iff, implies_true, and_true, laneKeys, trunkStatKeys]
    omega
  have hlpi : (fTL_CNT_DOWN l).key ≠ fETH_STAT_LPI.key := by simp only [laneKeys, trunkStatKeys]; omega
  have hmapok : (fTL_CNT_DOWN l).key ≠ (fTL_STS_MAPOK l).key := by simp only [laneKeys]; omega
  rw [trainLane, getF_setLaneState hshown, getF_finishAll _ _ _ _ _ hlpi, getF_quietLane hmapok]

theorem laneState_loseTrunk : laneState (loseTrunk l s) l = lTRAIN := laneState_trainLane l _

theorem stopped_loseTrunk : Stopped (onLane l) (loseTrunk l s) := stopped_trainLane l _

theorem getF_down_loseTrunk : getF (loseTrunk l s) (fTL_CNT_DOWN l) =
    min (2 ^ (fTL_CNT_DOWN l).width - 1) (getF s (fTL_CNT_DOWN l) + 1) := by
  rw [loseTrunk, getF_down_trainLane, getF_send (by simp only [laneKeys, trunkStatKeys]; omega), getF_bump_self]

end

theorem queued_loseTrunk {s : State} (hr : Room 9 s) (l : Nat) : Queued 9 l 3 9 0 (loseTrunk l s) :=
  queued_congr (kiln_trainLane l _) (send_queued (room_congr (kiln_bump s _) hr) l 3 9 0)

/-! ## Events on a live lane -/

/-- An event on a live lane has its effect where its condition holds. -/
theorem ends_of_laneEvent {i : Instr} {c l : Nat} {g : State → Bool} {op : State → State} {s : State} (hlive : laneLive s l = true)
    (hg : g (begin_ c s) = true) (hexec : exec i s = run c (fun u => if laneLive u l && g u then op u else u) s) : Ends i c s op :=
  ends_of_run hexec (if_pos (Bool.and_eq_true_iff.2 ⟨hlive, hg⟩))

end Sys2Proof.Machine
end

section
/-! How a lane comes up and goes down (R237 to R241, R247, R252, R254). -/
namespace Sys2Proof.Machine

open Sys2Proof

section
variable {c l : Nat} {s : State}

/-! ## Loss of lock in training (R231, R239) -/

/-- A lane in EQ, RANGE or CAPS loses its lock and begins anew: R239 says so of EQ, and of RANGE and CAPS it is the model's choice. -/
def relockLane (l : Nat) (s : State) : State := trainLane l (setLaneLock l false s)

theorem ends_lossOfLock_training {l : Fin 12} (hlive : laneLive s l = true) (hlow : lEQ ≤ laneState s l) (hhigh : laneState s l ≤ lCAPS) :
    Ends (.lossOfLock c l) c s (relockLane l) := by
  have hlive' : laneLive (begin_ c s) l = true := hlive
  have hlow' : lEQ ≤ laneState (begin_ c s) l := hlow
  have hhigh' : laneState (begin_ c s) l ≤ lCAPS := hhigh
  refine ends_of_run (show execLossOfLock c l s = _ from rfl) ?_
  simp only [hlive', hlow', hhigh', decide_true, Bool.not_true, Bool.and_self, Bool.false_eq_true, if_false, if_true, relockLane]

/-! ## The end of the equaliser search (R239, R240) -/

/-- A lane begins a ranging (R241). -/
def beginRanging (l : Nat) (s : State) : State := setLane l { lane s l with ranging := true, exch := [] } s

/-- The peaking is chosen, or taken from CTLE (R240). -/
def choosePeaking (l : Nat) (errs : List Nat) (s : State) : State :=
  if l < 8 ∧ getF s (fTL_CTL_CTLEAUTO l) = 0 then setCtlef l (getF s (fTL_CTL_CTLE l)) s
  else when_ (ctleChoice (errs.take 15)).sat (send (laneSrc l) (laneNo l) 3 7 0) (setCtlef l (ctleChoice (errs.take 15)).w.toNat s)

/-- The lane goes from EQ to RANGE and ranges. -/
def enterRange (l : Nat) (errs : List Nat) (s : State) : State := setLaneState l lRANGE (beginRanging l (choosePeaking l errs s))

theorem searchEnd_inEq (hlive : laneLive s l = true) (heq : laneState s l = lEQ) (errs : List Nat) :
    searchEnd l errs s = enterRange l errs s := by
  rw [searchEnd, hlive, heq]
  rfl

theorem ranging_enterRange (l : Nat) (errs : List Nat) (s : State) : (lane (enterRange l errs s) l).ranging = true := by
  rw [enterRange, setLaneState_keepsLane (g := LaneSt.ranging) (fun _ _ => rfl), beginRanging, lane_setLane_self]

/-- With CTLEAUTO 0 a trunk lane keeps the peaking of its setting (R240). -/
theorem getF_ctlef_enterRange (hl : l < 8) (hauto : getF s (fTL_CTL_CTLEAUTO l) = 0) (errs : List Nat) :
    getF (enterRange l errs s) (fTL_STS_CTLEF l) = getF s (fTL_CTL_CTLE l) % 2 ^ (fTL_STS_CTLEF l).width := by
  have hshown : ∀ g ∈ laneStateFields l, (fTL_STS_CTLEF l).key ≠ g.key := by
    simp only [laneStateFields, List.forall_mem_cons, List.not_mem_nil, false_imp_iff, implies_true, and_true, laneKeys, trunkStatKeys]
    omega
  rw [enterRange, getF_setLaneState hshown, beginRanging, getF_setLane, choosePeaking, if_pos ⟨hl, hauto⟩, setCtlef, if_pos hl,
    getF_setF_self]

theorem ends_ctleSearchEnd {l : Fin 12} (hlive : laneLive s l = true) (heq : laneState s l = lEQ) (e : List Nat) :
    Ends (.ctleSearchEnd c l e) c s (enterRange l e) :=
  ends_of_run (op := searchEnd l e) rfl (searchEnd_inEq (s := begin_ c s) hlive heq e)

/-! ## CAPS again (R239, R244) -/

/-- CAPS is sent again; its first delay has been reported. -/
def resendCaps (l : Nat) (s : State) : State := setLane l { lane s l with capsTx := true, capsShard := true } s

section
variable {l : Fin 12} (hlive : laneLive s l = true) (hcaps : laneState s l = lCAPS)
include hlive hcaps

theorem ends_capsResend_reported (hshard : (lane s l).capsShard = true) : Ends (.capsResend c l) c s (resendCaps l) := by
  have hshard' : (lane (begin_ c s) l).capsShard = true := hshard
  refine ends_of_run rfl ((if_pos ?_).trans (if_pos hshard'))
  exact Bool.and_eq_true_iff.2 ⟨hlive, beq_iff_eq.2 hcaps⟩

theorem ends_capsResend_first (hl : (l : Nat) < 8) (hshard : (lane s l).capsShard = false) :
    Ends (.capsResend c l) c s (fun u => send 9 l 3 11 0 (resendCaps l u)) := by
  have hshard' : ¬ (lane (begin_ c s) l).capsShard = true := by
    rw [show (lane (begin_ c s) l).capsShard = false from hshard]
    decide
  refine ends_of_run rfl ((if_pos ?_).trans ((if_neg hshard').trans (if_pos hl)))
  exact Bool.and_eq_true_iff.2 ⟨hlive, beq_iff_eq.2 hcaps⟩

end

/-! ## A ranging that is not answered (R239, R241, R255) -/

/-- A ranging ends unanswered and is reported. -/
def failRanging (l : Nat) (s : State) : State :=
  send (laneSrc l) (laneNo l) 3 10 0 (setLane l { lane s l with ranging := false, exch := [] } s)

/-- The TRUNK_RANGE operation of a lane. -/
def isRangeOf (l : Nat) : OpKind → Bool
  | .range k => k == l
  | _ => false

theorem laneState_failRanging (l : Nat) (s : State) : laneState (failRanging l s) l = laneState s l := by
  rw [failRanging, laneState_send]
  exact laneState_setLane l s rfl

theorem ranging_failRanging (l : Nat) (s : State) : (lane (failRanging l s) l).ranging = false := by
  rw [failRanging, lane_send, lane_setLane_self]

theorem queued_failRanging (hr : Room (laneSrc l) s) : Queued (laneSrc l) (laneNo l) 3 10 0 (failRanging l s) :=
  send_queued (room_congr (kiln_setLane s l _) hr) (laneNo l) 3 10 0

section
variable {l : Fin 12} (hlive : laneLive s l = true) (hranging : (lane s l).ranging = true)
include hlive hranging

theorem ends_rangeTimeout_inRange (hst : laneState s l = lRANGE) :
    Ends (.rangeTimeout c l) c s (fun u => trainLane l (failRanging l u)) := by
  refine ends_of_run rfl ((if_pos (Bool.and_eq_true_iff.2 ⟨hlive, hranging⟩)).trans (if_pos ?_))
  exact (laneState_failRanging l (begin_ c s)).trans hst

theorem ends_rangeTimeout_outOfRange (hst : laneState s l ≠ lRANGE) :
    Ends (.rangeTimeout c l) c s (fun u => finishAll (isRangeOf l) stFAILED [] (failRanging l u)) := by
  refine ends_of_run rfl ((if_pos (Bool.and_eq_true_iff.2 ⟨hlive, hranging⟩)).trans ((if_neg ?_).trans rfl))
  exact fun h => hst ((laneState_failRanging l (begin_ c s)).symm.trans h)

end

end

/-- Settles O37: each event by its effect, and each effect by the lane's state, its operations and the shard it leaves. -/
theorem laneBringUpMoves : Obligations.LaneBringUpMoves := by
  refine ⟨?lock, ?lossOfLock, ?search, ?setting, ?firstCaps, ?laterCaps, ?inRange, ?outOfRange, ?lost⟩
  case lock =>
    intro c l s hlive hon
    exact ends_of_laneEvent (g := fun u => laneState u l != lOFF) hlive (bne_iff_ne.2 hon) rfl
  case lossOfLock =>
    intro c l s hlive hlow hhigh
    exact ⟨_, ends_lossOfLock_training hlive hlow hhigh, laneState_trainLane l _, stopped_trainLane l _⟩
  case search =>
    intro c l e s hlive heq
    exact ⟨_, ends_ctleSearchEnd hlive heq e, laneState_setLaneState (by decide) l _, ranging_enterRange l e _⟩
  case setting =>
    intro c l e s hlive heq hauto
    exact ⟨_, ends_ctleSearchEnd (l := ⟨l, by omega⟩) hlive heq e, getF_ctlef_enterRange (s := begin_ c s) l.isLt hauto e⟩
  case firstCaps =>
    intro c l s hlive hcaps hshard hr
    refine ⟨_, ends_capsResend_first (l := ⟨l, by omega⟩) hlive hcaps l.isLt hshard, ?_, ?_, ?_⟩
    · rw [lane_after, lane_send, resendCaps, lane_setLane_self]
    · rw [lane_after, lane_send, resendCaps, lane_setLane_self]
    · exact send_queued (room_congr (kiln_setLane (begin_ c s) l _) hr) l 3 11 0
  case laterCaps =>
    intro c l s hlive hcaps hshard
    exact ends_capsResend_reported hlive hcaps hshard
  case inRange =>
    intro c l s hlive hranging hst hr
    exact ⟨_, ends_rangeTimeout_inRange hlive hranging hst, laneState_trainLane l _,
      queued_congr (kiln_trainLane l _) (queued_failRanging (s := begin_ c s) hr)⟩
  case outOfRange =>
    intro c l s hlive hranging hst hr
    refine ⟨_, ends_rangeTimeout_outOfRange hlive hranging hst, ?_, ?_, ?_⟩
    · exact queued_congr (kiln_finishAll _ _ _ _) (queued_failRanging (s := begin_ c s) hr)
    · rw [lane_after, lane_finishAll, ranging_failRanging]
    · rw [laneState_after, laneState_finishAll, laneState_failRanging]
      rfl
  case lost =>
    intro c l s hlive hup hr
    refine ⟨_, ends_of_laneEvent (g := fun u => laneState u l == lUP) hlive (beq_iff_eq.2 hup) rfl, laneState_loseTrunk l _, ?_,
      stopped_loseTrunk l _, getF_down_loseTrunk l (begin_ c s)⟩
    exact queued_loseTrunk (s := begin_ c s) hr l

end Sys2Proof.Machine
end

section
/-! The trunk commands (R237 to R241, R249, R252, R255): what each does once its checks have passed. -/
namespace Sys2Proof.Machine

open Sys2Proof

/-! ## What the commands do -/

/-- A list of lanes as a mask. -/
def laneMask (ls : List Nat) : Nat := ls.foldl (fun k l => k + 2 ^ l) 0

/-- The lanes acted on, in a reply of one byte: its length is log entry 63 (DESIGN CHOICE), for R255 does not give it. -/
def answerLanes (r : Req) (act : Nat → State → State) (ls : List Nat) (s : State) : State :=
  replyOK r 0x0700 [byteOf (laneMask ls)] (foldState act ls s)

/-- A lane takes a new EN and follows it (R239). -/
def setEn (v l : Nat) (s : State) : State := followEn l (setF (fTL_CTL_EN l) v s)

/-- TLl_CTL takes the fields that MASK selects, and the lane follows it. -/
def setCtl (m : Nat) (w : Word) (l : Nat) (s : State) : State :=
  followCtl l (storeWords [rTL_CTL l] (applyWords [rTL_CTL l] 0 (ctlMask m) [w.toNat] (heldWords s [rTL_CTL l])) s)

/-- The word of the first lane named, after the settings. -/
def answerTrunkSet (r : Req) (ls : List Nat) (s : State) : State := replyOK r 0x0701 (be4 (peekReg s (rTL_CTL (ls.headD 0)))) s

/-- The registers of a lane, its count of the ingress check and the CAPS record received. -/
def trunkReport (s : State) (l : Nat) : List Byte :=
  be4 (peekReg s (rTL_STS l)) ++ be4 (peekReg s (rTL_RANGE l)) ++ be4 (peekReg s (rTL_WAIT l)) ++ be4 (peekReg s (rTL_OFFS l)) ++
    be4 (peekReg s (rTL_PEER l)) ++ be4 (peekReg s (rTL_CNT l)) ++ be4 (peekReg s (rTL_CLAIM l)) ++ be4 (lane s l).ingress ++
    ((lane s l).capsRx ++ zeros 24).take 24

/-- The four counters of TLl_CNT return to 0. -/
def clearTrunkCnt (l : Nat) : State → State :=
  foldState (fun f => setF f 0) [fTL_CNT_DOWN l, fTL_CNT_SLIP l, fTL_CNT_CODE l, fTL_CNT_CRCE l]

/-- A message of the host joins those that wait for an acknowledgement, under a handle (R238). -/
def queueHostMsg (r : Req) (l : Nat) (b : List Byte) (s : State) : State :=
  setLane l { lane s l with
    sendSeq := seqUp (lane s l).sendSeq,
    unacked := (lane s l).unacked ++ [⟨(lane s l).sendSeq, b, 0, true, r.ch, nextHandle s r.ch⟩] } s

section
variable {r : Req} {s : State} (hl : Live s)
include hl

/-! ## TRUNK_ENABLE and TRUNK_CLAIM_CLR (R249, R255) -/

theorem opTrunkEnable_enable (m : Nat) : opTrunkEnable r m 0 s = answerLanes r (setEn 1) (maskList 8 m) s := by
  rw [opTrunkEnable, command_live hl _ _ _ _ rfl]
  rw [if_neg (by decide)]
  simp only [if_true]
  rfl

theorem opTrunkEnable_disable (m : Nat) : opTrunkEnable r m 1 s = answerLanes r (setEn 0) (maskList 8 m) s := by
  rw [opTrunkEnable, command_live hl _ _ _ _ rfl]
  rw [if_neg (by decide)]
  simp only [Nat.one_ne_zero, if_false, if_true]
  rfl

/-- RESTART acts on the enabled lanes alone (R253). -/
theorem opTrunkEnable_restart (m : Nat) :
    opTrunkEnable r m 2 s = answerLanes r restartLane ((maskList 8 m).filter (fun l => getF s (fTL_CTL_EN l) == 1)) s := by
  rw [opTrunkEnable, command_live hl _ _ _ _ rfl]
  rfl

theorem opTrunkClaimClr_there (m : Nat) :
    opTrunkClaimClr r m s = replyOK r 0x0706 [] (foldState (fun l => setHigh l 0) (maskList 8 m) s) := by
  rw [opTrunkClaimClr, command_live hl _ _ _ _ rfl]

/-! ## TRUNK_SET and TRUNK_STATUS (R253, R255) -/

theorem opTrunkSet_there (l m : Nat) (w : Word) :
    opTrunkSet r l m w s = answerTrunkSet r (lanesNamed l) (foldState (setCtl m w) (lanesNamed l) s) := by
  rw [opTrunkSet, command_live hl _ _ _ _ rfl]
  rfl

theorem opTrunkStatus_there (l k : Nat) : opTrunkStatus r l k s =
    (if 1 ≤ k then clearTrunkCnt (min l 7) else id) (replyOK r 0x0702 (trunkReport s (min l 7)) s) := by
  have hregs (n : Nat) :
      [rTL_STS n, rTL_RANGE n, rTL_WAIT n, rTL_OFFS n, rTL_PEER n, rTL_CNT n, rTL_CLAIM n].flatMap (fun a => be4 (peekReg s a)) =
        be4 (peekReg s (rTL_STS n)) ++ be4 (peekReg s (rTL_RANGE n)) ++ be4 (peekReg s (rTL_WAIT n)) ++ be4 (peekReg s (rTL_OFFS n)) ++
          be4 (peekReg s (rTL_PEER n)) ++ be4 (peekReg s (rTL_CNT n)) ++ be4 (peekReg s (rTL_CLAIM n)) := by
    simp only [List.flatMap_cons, List.flatMap_nil, List.append_nil, List.append_assoc]
  simp only [opTrunkStatus, clampHi_eq_min]
  rw [command_live hl _ _ _ _ rfl, hregs]
  split <;> rfl

/-! ## TRUNK_RANGE, TRUNK_MSG_SEND and TRUNK_MSG_READ (R238, R243, R255) -/

section
variable (hf : HandleFree r s) {l : Nat} (hup : laneState s (min l 7) = lUP)
include hf hup

theorem opTrunkRange_up (hfree : (lane s (min l 7)).ranging = false) :
    opTrunkRange r l s = accept r 0x0703 (.range (min l 7)) (beginRanging (min l 7) s) := by
  simp only [opTrunkRange, clampHi_eq_min]
  rw [command_live hl _ _ _ _ (find?_bad_eq_none (by simp [bad_handleLimit hf, hup, hfree]))]
  rfl

theorem opTrunkMsgSend_up (hroom : (lane s (min l 7)).unacked.length < 16) (b : List Byte) :
    opTrunkMsgSend r l b s =
      accept r 0x0704 (.msgSend (min l 7) (lane s (min l 7)).sendSeq) (queueHostMsg r (min l 7) b s) := by
  simp only [opTrunkMsgSend, clampHi_eq_min]
  rw [command_live hl _ _ _ _ (find?_bad_eq_none (by simp [bad_handleLimit hf, hup, hroom]))]
  rfl

end

theorem opTrunkMsgRead_none (hq : s.msgs = []) : opTrunkMsgRead r s = replyOK r 0x0705 (zeros 4) s := by
  rw [opTrunkMsgRead, command_live hl _ _ _ _ rfl, hq]

theorem opTrunkMsgRead_oldest {l : Nat} {b : List Byte} {q : List (Nat × List Byte)} (hq : s.msgs = (l, b) :: q) :
    opTrunkMsgRead r s = replyOK r 0x0705 ([byteOf l, 0] ++ be2 b.length ++ b) { s with msgs := q } := by
  rw [opTrunkMsgRead, command_live hl _ _ _ _ rfl, hq]

end

/-- Settles O35: each command by what it does once its checks have passed. -/
theorem trunkCommandsComplete : Obligations.TrunkCommandsComplete := by
  intro r s hl
  have hl' : Live (begin_ r.c s) := live_begin hl r.c
  refine ⟨fun m => ⟨?enable, ?disable, ?restart, ?claimClr⟩, ?set, ?status, ?range, ?msgSend, ?readNone, ?readOldest⟩
  case enable => exact ends_of_run rfl (opTrunkEnable_enable hl' m)
  case disable => exact ends_of_run rfl (opTrunkEnable_disable hl' m)
  case restart => exact ends_of_run rfl (opTrunkEnable_restart hl' m)
  case claimClr => exact ends_of_run rfl (opTrunkClaimClr_there hl' m)
  case set =>
    intro l m w
    exact ends_of_run rfl (opTrunkSet_there hl' l m w)
  case status =>
    intro l k
    exact ends_of_run rfl (opTrunkStatus_there hl' l k)
  case range =>
    intro l hf hup hfree
    exact ends_of_run rfl (opTrunkRange_up hl' hf hup hfree)
  case msgSend =>
    intro l b hf hup hroom
    exact ends_of_run rfl (opTrunkMsgSend_up hl' hf hup hroom b)
  case readNone =>
    intro hq
    exact ends_of_run rfl (opTrunkMsgRead_none hl' hq)
  case readOldest =>
    intro l b q hq
    exact ends_of_run rfl (opTrunkMsgRead_oldest hl' hq)

end Sys2Proof.Machine
end

section
/-! Frames and events on a lane in UP, and RESTART (R232 to R253). -/
namespace Sys2Proof.Machine

open Sys2Proof

/-! ## A frame with a good header (R232 to R236, R239, R249) -/

/-- A frame of MODE LIVE whose comma and header stand (R232, R233). -/
structure LiveFrame (f : TrunkFrame) : Prop where
  comma : f.comma = true
  length : f.header.length = 14
  crc : num f.header 12 2 = crc16 (f.header.take 12)
  mode : num f.header 6 1 % 4 = 3

/-- The comma is taken, the code errors of the fill are counted, and the sender's NODE_ID is shown (R230, R239, R253). -/
def takeHeader (l : Nat) (f : TrunkFrame) (s : State) : State :=
  setF (fTL_PEER_NODE_ID l) (num f.header 8 4) (bumpN (fTL_CNT_CODE l) f.fillErrs (takeComma l true s))

/-- A frame whose payload fails its CRC is counted, reported, and missing from its batch (R234, R253, R254). -/
def refusePayload (l : Nat) (s : State) : State :=
  send 9 l 3 6 0 (bump (fTL_CNT_CRCE l) (setLane l { lane s l with bad := (lane s l).bad + 1 } s))

/-- A frame whose claim stands: the claim is taken, the payload waits for its batch, and the messages are taken (R236, R242, R249). -/
def acceptFrame (l : Nat) (f : TrunkFrame) (s : State) : State :=
  foldState (takeMsg l f.det 3) (areaMsgs 1024 f.msgs)
    (bufferFrame l f (num f.header 0 2) (w4 f.header 2) (setF (fTL_CLAIM_LAST l) (num f.header 0 2) (setHigh l (num f.header 0 2) s)))

section
variable {l : Nat} {f : TrunkFrame} {s : State}

/-- In UP a comma ends a run of missing ones (R247). -/
theorem takeComma_up (hup : laneState s l = lUP) : takeComma l true s = setLane l { lane s l with commas := 0 } s := by
  rw [takeComma, hup]
  rfl

theorem getF_takeHeader {g : Fld} (hup : laneState s l = lUP) (hpeer : g.key ≠ (fTL_PEER_NODE_ID l).key)
    (hcode : g.key ≠ (fTL_CNT_CODE l).key) : getF (takeHeader l f s) g = getF s g := by
  rw [takeHeader, getF_setF_ne _ _ _ _ hpeer, takeComma_up hup, bumpN, getF_setF_ne _ _ _ _ hcode, getF_setLane]

theorem lane_takeHeader (hup : laneState s l = lUP) : lane (takeHeader l f s) l = { lane s l with commas := 0 } := by
  rw [takeHeader, lane_setF, takeComma_up hup, bumpN, lane_setF, lane_setLane_self]

theorem kiln_takeHeader (hup : laneState s l = lUP) : (takeHeader l f s).kiln = s.kiln := by
  rw [takeHeader, kiln_setF, takeComma_up hup, bumpN, kiln_setF, kiln_setLane]

theorem laneState_takeHeader (hup : laneState s l = lUP) : laneState (takeHeader l f s) l = lUP := by
  have hreg : getF (takeHeader l f s) (fTL_STS_STATE l) = getF s (fTL_STS_STATE l) :=
    getF_takeHeader hup (by simp only [laneKeys]; omega) (by simp only [laneKeys]; omega)
  exact (laneState_congr l s hreg (by rw [lane_takeHeader hup])).trans hup

theorem getF_high_takeHeader (hup : laneState s l = lUP) : getF (takeHeader l f s) (fTL_CLAIM_HIGH l) = getF s (fTL_CLAIM_HIGH l) :=
  getF_takeHeader hup (by simp only [laneKeys]; omega) (by simp only [laneKeys]; omega)

section
variable (hlive : laneLive s l = true) (hup : laneState s l = lUP) (hf : LiveFrame f)
include hlive hup hf

/-- What is left to decide once the header is taken. -/
theorem trunkFrame_header : trunkFrame l f s =
    if f.crcOk = false then refusePayload l (takeHeader l f s)
    else if f.kOk = false then takeHeader l f s
    else if claimHigher (getF (takeHeader l f s) (fTL_CLAIM_HIGH l)) (num f.header 0 2) = true then takeHeader l f s
    else acceptFrame l f (takeHeader l f s) := by
  obtain ⟨hcomma, hlength, hcrc, hmode⟩ := hf
  have hon : ¬ ((!laneLive s l) = true ∨ laneState s l = lOFF) := by rw [hlive, hup]; decide
  have hhdr : (!(true && f.header.length == 14 && num f.header 12 2 == crc16 (f.header.take 12))) = false := by simp [hlength, hcrc]
  have hup' := laneState_takeHeader (f := f) hup
  rw [takeHeader] at hup'
  rw [trunkFrame, if_neg hon]
  simp only [hcomma, hhdr, hmode, hup', when_, if_true, Bool.false_eq_true, if_false, Bool.not_eq_true']
  by_cases hok : f.crcOk = false
  · rw [if_pos ⟨by decide, hok⟩, if_pos hok]
    rfl
  · rw [if_neg (fun h => hok h.2), if_neg hok]
    simp only [hok, or_false, Nat.reduceLT, BEq.rfl, Bool.true_eq_false, if_false]
    rfl

theorem trunkFrame_badPayload (hcrc : f.crcOk = false) : trunkFrame l f s = refusePayload l (takeHeader l f s) := by
  rw [trunkFrame_header hlive hup hf, if_pos hcrc]

section
variable (hcrc : f.crcOk = true) (hk : f.kOk = true)
include hcrc hk

/-- A frame whose claim is lower than the highest seen is ignored (R249). -/
theorem trunkFrame_outclaimed (hclaim : claimHigher (getF s (fTL_CLAIM_HIGH l)) (num f.header 0 2) = true) :
    trunkFrame l f s = takeHeader l f s := by
  have hclaim' : claimHigher (getF (takeHeader l f s) (fTL_CLAIM_HIGH l)) (num f.header 0 2) = true := by rwa [getF_high_takeHeader hup]
  rw [trunkFrame_header hlive hup hf, if_neg (by simp [hcrc]), if_neg (by simp [hk]), if_pos hclaim']

theorem trunkFrame_taken (hclaim : claimHigher (getF s (fTL_CLAIM_HIGH l)) (num f.header 0 2) = false) :
    trunkFrame l f s = acceptFrame l f (takeHeader l f s) := by
  have hclaim' : ¬ claimHigher (getF (takeHeader l f s) (fTL_CLAIM_HIGH l)) (num f.header 0 2) = true := by
    rw [getF_high_takeHeader hup, hclaim]
    decide
  rw [trunkFrame_header hlive hup hf, if_neg (by simp [hcrc]), if_neg (by simp [hk]), if_neg hclaim']

end

end

theorem crce_refusePayload (l : Nat) (s : State) : getF (refusePayload l s) (fTL_CNT_CRCE l) =
    min (2 ^ (fTL_CNT_CRCE l).width - 1) (getF s (fTL_CNT_CRCE l) + 1) := by
  rw [refusePayload, getF_send (by simp only [laneKeys, trunkStatKeys]; omega), getF_bump_self, getF_setLane]

theorem bad_refusePayload (l : Nat) (s : State) : (lane (refusePayload l s) l).bad = (lane s l).bad + 1 := by
  rw [refusePayload, lane_send, lane_bump, lane_setLane_self]

theorem queued_refusePayload {s : State} (hr : Room 9 s) (l : Nat) : Queued 9 l 3 6 0 (refusePayload l s) :=
  send_queued (room_congr ((kiln_bump _ _).trans (kiln_setLane s l _)) hr) l 3 6 0

end

/-! ## Slips (R248, R250) -/

theorem partner_ne (l : Nat) : partner l ≠ l := by
  unfold partner
  omega

theorem getF_offs_setOffs (l v : Nat) (s : State) : getF (setOffs l v s) (fTL_OFFS_OFFS l) = v % 2 ^ 32 := by
  have hpartner : (fTL_OFFS_OFFS l).key ≠ (fTL_OFFS_OFFS (partner l)).key := by
    have hne := partner_ne l
    simp only [laneKeys]
    omega
  rw [setOffs]
  split
  · rw [getF_setF_ne _ _ _ _ hpartner, getF_setF_self]
    rfl
  · exact getF_setF_self _ _ _

theorem kiln_setOffs (l v : Nat) (s : State) : (setOffs l v s).kiln = s.kiln := by
  rw [setOffs]
  split <;> rfl

section
variable (l : Nat) (late : Bool) (s : State)

/-- A slip moves OFFS by one, modulo 2^32. -/
theorem getF_offs_slip : getF (slip l late s) (fTL_OFFS_OFFS l) =
    if late then (getF s (fTL_OFFS_OFFS l) + 1) % 2 ^ 32 else (getF s (fTL_OFFS_OFFS l) + (2 ^ 32 - 1)) % 2 ^ 32 := by
  have hslip : (fTL_OFFS_OFFS l).key ≠ (fTL_CNT_SLIP l).key := by simp only [laneKeys]; omega
  rw [slip, getF_send (by simp only [laneKeys, trunkStatKeys]; omega), getF_bump_ne hslip, getF_setLane, getF_offs_setOffs]
  split <;> exact Nat.mod_mod _ _

theorem ranging_slip : (lane (slip l late s) l).ranging = true := by
  rw [slip, lane_send, lane_bump, lane_setLane_self]

end

theorem queued_slip {s : State} (hr : Room 9 s) (l : Nat) (late : Bool) : Queued 9 l 3 8 0 (slip l late s) :=
  send_queued (room_congr ((kiln_bump _ _).trans ((kiln_setLane _ l _).trans (kiln_setOffs l _ s))) hr) l 3 8 0

/-! ## Host messages, held samples and claims (R238, R245, R249) -/

/-- While none has been sent eight times, every message that waits is due again and none fails (R238). -/
theorem unacked_hostResend {l : Nat} {s : State} (hsends : ∀ m ∈ (lane s l).unacked, m.sends < 8) :
    (lane (hostResend l s) l).unacked = (lane s l).unacked.map (fun m => { m with due := true }) := by
  have hout : (lane s l).unacked.filter (fun m => decide (8 ≤ m.sends)) = [] :=
    List.filter_eq_nil_iff.2 fun m hm => by simpa using hsends m hm
  have hkeep : (lane s l).unacked.filter (fun m => decide (m.sends < 8)) = (lane s l).unacked :=
    List.filter_eq_self.2 fun m hm => decide_eq_true (hsends m hm)
  simp only [hostResend, hout, hkeep]
  exact congrArg LaneSt.unacked (lane_setLane_self l _ s)

theorem getF_high_setHigh (l : Nat) (s : State) : getF (setHigh l 0 s) (fTL_CLAIM_HIGH l) = 0 := by
  have hpartner : (fTL_CLAIM_HIGH l).key ≠ (fTL_CLAIM_HIGH (partner l)).key := by
    have hne := partner_ne l
    simp only [laneKeys]
    omega
  rw [setHigh]
  split
  · rw [getF_setF_ne _ _ _ _ hpartner, getF_setF_self]
    rfl
  · exact getF_setF_self _ _ _

/-! ## The events -/

section
variable {c : Nat} {l : Fin 8} {s : State}

/-- The held sample has been held its full time, and the fade to zero begins (R245). -/
def fadeHeld (l : Nat) (s : State) : State := setLane l { lane s l with held := 24 } s

theorem ends_trunkHoldExpiry (hlive : laneLive s l = true) (hhold : getF s (fTL_STS_HOLD l) = 1) (hheld : (lane s l).held < 24) :
    Ends (.trunkHoldExpiry c l) c s (fadeHeld l) := by
  refine ends_of_run rfl (if_pos ?_)
  simp only [Bool.and_eq_true, beq_iff_eq, decide_eq_true_eq]
  exact ⟨⟨hlive, hhold⟩, hheld⟩

theorem ends_claimClearTimeout (hlive : laneLive s l = true) : Ends (.claimClearTimeout c l) c s (setHigh l 0) :=
  ends_of_run rfl (if_pos hlive)

theorem ends_restart (hr : Running s) (hen : getF s (fTL_CTL_EN l) = 1) (m : Master) : Ends (.restart c m l) c s (trainLane l) :=
  ends_of_run (op := ifRunning (restartLane l)) rfl ((ifRunning_run (running_begin hr c) _).trans (if_pos hen))

section
variable (hlive : laneLive s l = true) (hup : laneState s l = lUP)
include hlive hup

theorem ends_trunkSlip (late : Bool) : Ends (.trunkSlip c l late) c s (slip l late) :=
  ends_of_laneEvent (g := fun u => laneState u l == lUP) hlive (beq_iff_eq.2 hup) rfl

theorem ends_hostMsgResend : Ends (.hostMsgResend c l) c s (hostResend l) :=
  ends_of_laneEvent (g := fun u => laneState u l == lUP) hlive (beq_iff_eq.2 hup) rfl

section
variable {f : TrunkFrame} (hf : LiveFrame f)
include hf

theorem yields_trunkFrame_badPayload (hcrc : f.crcOk = false) (hr : Room 9 s) :
    Yields (.trunkFrame c l f) s (fun t => Queued 9 l 3 6 0 t ∧
      getF t (fTL_CNT_CRCE l) = min (2 ^ (fTL_CNT_CRCE l).width - 1) (getF s (fTL_CNT_CRCE l) + 1) ∧
      (lane t l).bad = (lane s l).bad + 1) := by
  have hup' : laneState (begin_ c s) l = lUP := hup
  have hcrce : getF (takeHeader l f (begin_ c s)) (fTL_CNT_CRCE l) = getF s (fTL_CNT_CRCE l) :=
    getF_takeHeader hup' (by simp only [laneKeys]; omega) (by simp only [laneKeys]; omega)
  have hkiln : (takeHeader l f (begin_ c s)).kiln = s.kiln := kiln_takeHeader hup'
  refine ⟨_, ends_of_run (f := fun u => refusePayload l (takeHeader l f u)) rfl (trunkFrame_badPayload hlive hup' hf hcrc), ?_, ?_, ?_⟩
  · exact queued_refusePayload (room_congr hkiln hr) l
  · rw [getF_after, crce_refusePayload, hcrce]
  · rw [lane_after, bad_refusePayload, lane_takeHeader hup']
    rfl

variable (hcrc : f.crcOk = true) (hk : f.kOk = true)
include hcrc hk

theorem yields_trunkFrame_outclaimed (hclaim : claimHigher (getF s (fTL_CLAIM_HIGH l)) (num f.header 0 2) = true) :
    Yields (.trunkFrame c l f) s (fun t => getF t (fTL_CLAIM_LAST l) = getF s (fTL_CLAIM_LAST l) ∧
      (lane t l).buffered = (lane s l).buffered) := by
  have hup' : laneState (begin_ c s) l = lUP := hup
  refine ⟨_, ends_of_run (f := takeHeader l f) rfl (trunkFrame_outclaimed hlive hup' hf hcrc hk hclaim), ?_, ?_⟩
  · exact getF_takeHeader hup' (by simp only [laneKeys]; omega) (by simp only [laneKeys]; omega)
  · rw [lane_after, lane_takeHeader hup']
    rfl

theorem ends_trunkFrame_taken (hclaim : claimHigher (getF s (fTL_CLAIM_HIGH l)) (num f.header 0 2) = false) :
    Ends (.trunkFrame c l f) c s (fun u => acceptFrame l f (takeHeader l f u)) :=
  ends_of_run (op := trunkFrame l f) rfl (trunkFrame_taken (s := begin_ c s) hlive hup hf hcrc hk hclaim)

end

end

end

/-- Settles O36: a frame by what its header, its payload and its claim decide, and each event by its effect. -/
theorem trunkFramesComplete : Obligations.TrunkFramesComplete := by
  refine ⟨?frame, ?slip, ?resend, ?due, ?hold, ?forget, ?restart⟩
  case frame =>
    intro c l f s hlive hup hcomma hlength hheader hmode
    have hf : LiveFrame f := ⟨hcomma, hlength, hheader, hmode⟩
    exact ⟨yields_trunkFrame_badPayload hlive hup hf, yields_trunkFrame_outclaimed hlive hup hf, ends_trunkFrame_taken hlive hup hf⟩
  case slip =>
    intro c l late s hlive hup hr
    exact ⟨_, ends_trunkSlip hlive hup late, queued_slip (s := begin_ c s) hr l late, ranging_slip l late _, getF_offs_slip l late _⟩
  case resend =>
    intro c l s hlive hup
    exact ends_hostMsgResend hlive hup
  case due =>
    intro c l s hlive hup hsends
    exact ⟨_, ends_hostMsgResend hlive hup, unacked_hostResend (s := begin_ c s) hsends⟩
  case hold =>
    intro c l s hlive hhold hheld
    exact ⟨_, ends_trunkHoldExpiry hlive hhold hheld, lane_setLane_self l _ _⟩
  case forget =>
    intro c l s hlive
    exact ⟨ends_claimClearTimeout hlive, _, ends_claimClearTimeout hlive, getF_high_setHigh l _⟩
  case restart =>
    intro c m l s hr hen
    exact ⟨ends_restart hr hen m, _, ends_restart hr hen m, laneState_trainLane l _⟩

end Sys2Proof.Machine
end

section
/-! Received Ethernet frames (R259 to R263, R266 to R272): what decides about a frame, and the register fields that one may change. -/
namespace Sys2Proof.Machine

open Sys2Proof

/-! ## Fields that an operation may change -/

/-- From `s` to `t` no register field has changed but these. -/
def FieldsKept (fs : List Fld) (s t : State) : Prop := ∀ g : Fld, (∀ f ∈ fs, g.key ≠ f.key) → getF t g = getF s g

section
variable {fs : List Fld} {s t : State}

theorem fieldsKept_refl (fs : List Fld) (s : State) : FieldsKept fs s s := fun _ _ => rfl

theorem fieldsKept_of_regs (h : t.regs = s.regs) : FieldsKept fs s t := fun g _ => by rw [getF, getF, h]

theorem fieldsKept_trans {u : State} (h : FieldsKept fs s t) (h' : FieldsKept fs t u) : FieldsKept fs s u :=
  fun g hg => (h' g hg).trans (h g hg)

theorem fieldsKept_setF {f : Fld} (h : FieldsKept fs s t) (hf : f ∈ fs) (v : Nat) : FieldsKept fs s (setF f v t) :=
  fun g hg => (getF_setF_ne f g v t (hg f hf)).trans (h g hg)

theorem fieldsKept_setStream (h : FieldsKept fs s t) (o : Nat) (x : StreamSt) : FieldsKept fs s (setStream o x t) :=
  fieldsKept_trans h (fieldsKept_of_regs rfl)

theorem fieldsKept_foldState {α : Type} {f : α → State → State} {l : List α} (h : FieldsKept fs s t)
    (hf : ∀ a u, FieldsKept fs u (f a u)) : FieldsKept fs s (foldState f l t) :=
  foldState_preserves (P := FieldsKept fs s) (fun a u hu => fieldsKept_trans hu (hf a u)) l h

theorem fieldsKept_when (h : FieldsKept fs s t) (b : Bool) {f : State → State} (hf : ∀ u, FieldsKept fs s u → FieldsKept fs s (f u)) :
    FieldsKept fs s (when_ b f t) := by
  unfold when_
  split
  · exact hf t h
  · exact h

end

/-! ## A packet of a stream changes no register field (R272, R273) -/

section
variable {fs : List Fld} {s : State} (a : AesDef) (p : Nat)

theorem fieldsKept_judgeSample {store : State → State} {t : State} (h : FieldsKept fs s t)
    (hstore : ∀ u, FieldsKept fs u (store u)) : FieldsKept fs s (judgeSample a p store t) := by
  unfold judgeSample
  extract_lets x ahead depth
  split
  · exact fieldsKept_setStream h _ _
  · split
    · exact fieldsKept_setStream h _ _
    · exact fieldsKept_trans h (hstore t)

theorem fieldsKept_putAes (o : Nat) (vs : List Word) (t : State) : FieldsKept fs t (putAes o p vs t) := fieldsKept_of_regs rfl

theorem fieldsKept_convertAes (ws : List Word) (t : State) : FieldsKept fs t (convertAes a p ws t) := by
  unfold convertAes
  extract_lets x0 d s1 x bundled per fresh gap from_ at0 f0 n y
  have hheard : FieldsKept fs t s1 :=
    fieldsKept_foldState (fieldsKept_setStream (fieldsKept_refl fs t) _ _) fun _ _ => fieldsKept_of_regs rfl
  split
  · exact fieldsKept_setStream (fieldsKept_refl fs t) _ _
  · split
    · exact hheard
    · exact fieldsKept_foldState (fieldsKept_setStream hheard _ y) fun j u =>
        fieldsKept_judgeSample a _ (fieldsKept_refl fs u) (fieldsKept_putAes _ a.owner _)

theorem fieldsKept_takeAesSample (ws : List Word) (t : State) : FieldsKept fs t (takeAesSample a p ws t) := by
  unfold takeAesSample
  dsimp only
  split
  · exact fieldsKept_convertAes a p _ t
  · exact fieldsKept_judgeSample a p (fieldsKept_refl fs t) (fieldsKept_putAes p a.owner _)

theorem fieldsKept_acquireAes {t : State} (h : FieldsKept fs s t) (o : Nat) : FieldsKept fs s (acquireAes o t) := by
  unfold acquireAes
  dsimp only
  split
  · exact fieldsKept_setStream h _ _
  · exact h

theorem fieldsKept_takeRtp {t : State} (h : FieldsKept fs s t) (q : RtpPacket) : FieldsKept fs s (takeRtp a q t) :=
  fieldsKept_foldState (fieldsKept_acquireAes (fieldsKept_setStream h _ _) a.owner) fun _ u =>
    fieldsKept_takeAesSample a _ _ u

end

/-! ## What a received frame may change (R259 to R272) -/

/-- The register fields that frames of good length and FCS may change: counters, the buffer's fill, what LLDP brings, and LPI. -/
def receptionFields (n : Nat) : List Fld :=
  [fETH_STAT_LPI, fETH_TSQ_OVF, fETH_CNT_OVF n, fETH_CNT2_PTX n, fETH_CNT2_PRX n, fETH_CNT2_FILT n, fETH_EEE_AGREED n, fETH_EEE_TWRES n,
    fETH_FILL_FILL n, fETH_FILL_PEAK n]

/-- From `s` to `t` only fields of reception on a MAC have changed. -/
def RxKept (n : Nat) (s t : State) : Prop := FieldsKept (receptionFields n) s t

section
variable {n : Nat} {s t : State} (h : RxKept n s t)
include h

theorem rxKept_setF {f : Fld} (hf : f ∈ receptionFields n) (v : Nat) : RxKept n s (setF f v t) := fieldsKept_setF h hf v

theorem rxKept_setLpi (k : Nat) (v : Bool) : RxKept n s (setMaskBit fETH_STAT_LPI k v t) :=
  rxKept_setF h (by simp [receptionFields]) _

theorem rxKept_of_reply {u : State} (hu : SameButReply t u) : RxKept n s u :=
  fun g hg => (hu.2 g (hg _ (by simp [receptionFields]))).trans (h g hg)

theorem rxKept_of_regs {u : State} (hu : u.regs = t.regs) : RxKept n s u := fieldsKept_trans h (fieldsKept_of_regs hu)

theorem rxKept_txSend (k : Nat) (i : TxItem) : RxKept n s (txSend k i t) := rxKept_of_reply h (sameButReply_txSend k i t)

theorem rxKept_sendPlain (k queue what : Nat) : RxKept n s (sendPlain k queue what t) := rxKept_txSend h k _

theorem rxKept_resumeTx (k : Nat) : RxKept n s (resumeTx k t) :=
  fieldsKept_foldState (rxKept_of_regs h rfl) fun i u => rxKept_of_reply (fieldsKept_refl _ u) (sameButReply_putTx k i u)

theorem rxKept_sendPause (quanta : Nat) : RxKept n s (sendPause n quanta t) :=
  rxKept_setF (rxKept_of_regs (rxKept_setLpi h n false) rfl) (by simp [receptionFields]) _

theorem rxKept_flowRule (fill : Nat) (half : Bool) : RxKept n s (flowRule n fill half t) := by
  have hassert (b : Bool) (q : Nat) : RxKept n s (sendPause n q (setMac n { mac t n with asserted := b } t)) :=
    rxKept_sendPause (rxKept_of_regs h rfl) q
  unfold flowRule
  dsimp only
  split
  · exact h
  · split
    · exact hassert true _
    · split
      · exact hassert false 0
      · split
        · exact rxKept_sendPause h _
        · exact h

theorem rxKept_fillNow (fill : Nat) : RxKept n s (fillNow n fill t) :=
  rxKept_flowRule (rxKept_setF (rxKept_setF h (by simp [receptionFields]) _) (by simp [receptionFields]) _) fill false

theorem rxKept_takePause (quanta : Nat) : RxKept n s (takePause n quanta t) := by
  have hcount : RxKept n s (bump (fETH_CNT2_PRX n) t) := rxKept_setF h (by simp [receptionFields]) _
  unfold takePause
  dsimp only
  split
  · exact hcount
  · split
    · exact rxKept_resumeTx hcount n
    · exact rxKept_of_regs hcount rfl

theorem rxKept_addStamp (seqId mtype k : Nat) : RxKept n s (addStamp seqId mtype k t) := by
  unfold addStamp
  split
  · exact rxKept_setF (rxKept_of_regs h rfl) (by simp [receptionFields]) _
  · exact rxKept_of_regs h rfl

theorem rxKept_correctPtp : RxKept n s (correctPtp t) := by
  unfold correctPtp
  split <;> exact rxKept_of_regs h rfl

theorem rxKept_takePtp (mtype seqId : Nat) (sample : Option Int) : RxKept n s (takePtp n mtype seqId sample t) := by
  unfold takePtp
  split
  · exact h
  · extract_lets master answered
    have hanswered : RxKept n s answered := by
      dsimp only [answered]
      split
      · exact rxKept_addStamp (rxKept_sendPlain h n 7 4) _ _ _
      · split
        · split
          · exact rxKept_sendPlain h n 5 5
          · exact h
        · split
          · exact rxKept_of_regs h rfl
          · exact h
    split
    · exact rxKept_correctPtp hanswered
    · exact hanswered

theorem rxKept_reportGroup (o : Nat) : RxKept n s (reportGroup o t) := by
  unfold reportGroup
  split
  · split
    · exact rxKept_sendPlain h _ 3 3
    · exact h
  · exact h

theorem rxKept_lpiFollow (k : Nat) : RxKept n s (lpiFollow k t) := by
  unfold lpiFollow
  dsimp only
  split
  · exact h
  · exact rxKept_setLpi h k false

theorem rxKept_takeLldp (twReq : Nat) (echoed : Bool) : RxKept n s (takeLldp n twReq echoed t) := by
  have hpartner : RxKept n s (setF (fETH_EEE_TWRES n) (min 1023 twReq) (setMac n { mac t n with twReq := twReq } t)) :=
    rxKept_setF (rxKept_of_regs h rfl) (by simp [receptionFields]) _
  exact fieldsKept_when (rxKept_lpiFollow (rxKept_setF (f := fETH_EEE_AGREED n) hpartner (by simp [receptionFields]) _) n) _
    fun u hu => rxKept_txSend hu n _

theorem rxKept_dispatch (len : Nat) (b : EthBody) : RxKept n s (dispatch n len b t) := by
  cases b with
  | arp request forUs =>
    unfold dispatch
    dsimp only
    split
    · exact rxKept_sendPlain h n 3 1
    · exact h
  | icmpEcho len => exact rxKept_sendPlain h n 3 2
  | igmpQuery => exact fieldsKept_foldState h fun o u => rxKept_reportGroup (fieldsKept_refl _ u) o
  | udpCommand p => exact rxKept_of_regs h rfl
  | ptp mtype seqId sample => exact rxKept_takePtp h mtype seqId sample
  | rtp p =>
    unfold dispatch
    dsimp only
    split
    · exact fieldsKept_takeRtp _ h p
    · exact h
  | lldp twReq echoed => exact rxKept_takeLldp h twReq echoed
  | pause quanta => exact h
  | macControl opcode => exact h
  | other => exact h

end

/-! ## What decides about a frame (R259 to R261) -/

/-- An event has an effect `f` that agrees with its own where it happens. -/
theorem ends_of_event_eq {i : Instr} {c : Nat} {op f : State → State} {s : State} (hr : Running s)
    (hexec : exec i s = run c (ifRunning op) s) (hop : op (begin_ c s) = f (begin_ c s)) : Ends i c s f :=
  ends_of_run hexec ((ifRunning_run (running_begin hr c) op).trans hop)

/-- A frame that is dispatched fills the buffer and leaves it, but for a command datagram (R261, R262). -/
def takeData (n len : Nat) (b : EthBody) (s : State) : State :=
  let t := dispatch n len b (fillNow n (rxBytes (mac s n) + len) s)
  fillNow n (rxBytes (mac t n)) t

/-- A frame whose length a MAC with a link accepts (R260). -/
structure LengthGood (n : Nat) (f : EthFrame) (s : State) : Prop where
  up : macUp s n = true
  notRunt : 63 < f.len
  notLong : f.len ≤ maxFrame s n f.vid.isSome

section
variable {n : Nat} {f : EthFrame} {s : State}

theorem lengthGood_begin (h : LengthGood n f s) (c : Nat) : LengthGood n f (begin_ c s) := ⟨h.up, h.notRunt, h.notLong⟩

theorem ethFrame_runt (hup : macUp s n = true) (hlen : f.len ≤ 63) : ethFrame n f s = bump (fETH_CNT_RUNT n) s := by
  rw [ethFrame, if_neg (by simp [hup]), if_pos hlen]

theorem ethFrame_long (hup : macUp s n = true) (hrunt : 63 < f.len) (hlen : maxFrame s n f.vid.isSome < f.len) :
    ethFrame n f s = bump (fETH_CNT_LONG n) s := by
  rw [ethFrame, if_neg (by simp [hup]), if_neg (Nat.not_le.2 hrunt), if_pos hlen]

section
variable (h : LengthGood n f s)
include h

theorem ethFrame_badFcs (hfcs : f.fcsOk = false) : ethFrame n f s = bump (fETH_CNT_FCS n) s := by
  obtain ⟨hup, hrunt, hlong⟩ := h
  rw [ethFrame, if_neg (by simp [hup]), if_neg (Nat.not_le.2 hrunt), if_neg (Nat.not_lt.2 hlong), if_pos (by simp [hfcs])]

variable (hfcs : f.fcsOk = true)
include hfcs

theorem ethFrame_otherVlan (hvid : vidGood s n f.vid = false) : ethFrame n f s = bump (fETH_CNT2_FILT n) s := by
  obtain ⟨hup, hrunt, hlong⟩ := h
  rw [ethFrame, if_neg (by simp [hup]), if_neg (Nat.not_le.2 hrunt), if_neg (Nat.not_lt.2 hlong), if_neg (by simp [hfcs]),
    if_pos (by simp [hvid])]

variable (hvid : vidGood s n f.vid = true)
include hvid

theorem ethFrame_pause {q : Nat} (hbody : f.body = .pause q) : ethFrame n f s = takePause n q s := by
  obtain ⟨hup, hrunt, hlong⟩ := h
  rw [ethFrame, if_neg (by simp [hup]), if_neg (Nat.not_le.2 hrunt), if_neg (Nat.not_lt.2 hlong), if_neg (by simp [hfcs]),
    if_neg (by simp [hvid]), hbody]

/-- A frame that is no PAUSE needs room in the buffer and something that takes it (R261). -/
theorem ethFrame_data (hbody : ∀ q, f.body ≠ .pause q) : ethFrame n f s =
    if 262144 < rxBytes (mac s n) + f.len then bump (fETH_CNT_OVF n) s
    else if !dispatches s n f.body then bump (fETH_CNT2_FILT n) s
    else takeData n f.len f.body s := by
  obtain ⟨hup, hrunt, hlong⟩ := h
  rw [ethFrame, if_neg (by simp [hup]), if_neg (Nat.not_le.2 hrunt), if_neg (Nat.not_lt.2 hlong), if_neg (by simp [hfcs]),
    if_neg (by simp [hvid])]
  split
  next q hq => exact absurd hq (hbody q)
  next => rfl

end

/-- A frame of good length and FCS leaves every field but those of reception. -/
theorem rxKept_ethFrame (h : LengthGood n f s) (hfcs : f.fcsOk = true) : RxKept n s (ethFrame n f s) := by
  have hself : RxKept n s s := fieldsKept_refl _ s
  have hfiltered : RxKept n s (bump (fETH_CNT2_FILT n) s) := rxKept_setF hself (by simp [receptionFields]) _
  cases hvid : vidGood s n f.vid with
  | false =>
    rw [ethFrame_otherVlan h hfcs hvid]
    exact hfiltered
  | true =>
    by_cases hbody : ∃ q, f.body = .pause q
    · obtain ⟨q, hq⟩ := hbody
      rw [ethFrame_pause h hfcs hvid hq]
      exact rxKept_takePause hself q
    · rw [ethFrame_data h hfcs hvid (not_exists.1 hbody)]
      split
      · exact rxKept_setF hself (by simp [receptionFields]) _
      · split
        · exact hfiltered
        · exact rxKept_fillNow (rxKept_dispatch (rxKept_fillNow hself _) f.len f.body) _

end

/-! ## The lengths of R260 -/

section
variable {n : Nat} {f : EthFrame} {s : State}

theorem maxFrame_le_jumbo (s : State) (n : Nat) (tagged : Bool) : maxFrame s n tagged ≤ 9216 := by
  unfold maxFrame
  split
  · exact Nat.le_refl _
  · split <;> decide

theorem maxFrame_untagged (hj : getF s (fETH_CTL_JUMBO n) = 0) (hv : f.vid = none) : maxFrame s n f.vid.isSome = 1518 := by
  simp [maxFrame, hj, hv]

theorem maxFrame_tagged (hj : getF s (fETH_CTL_JUMBO n) = 0) (hv : f.vid ≠ none) : maxFrame s n f.vid.isSome = 1522 := by
  simp [maxFrame, hj, Option.isSome_iff_ne_none.2 hv]

theorem maxFrame_eq (s : State) (n : Nat) (f : EthFrame) : maxFrame s n f.vid.isSome =
    if getF s (fETH_CTL_JUMBO n) = 1 then 9216 else if f.vid = none then 1518 else 1522 := by
  rw [maxFrame]
  cases f.vid <;> rfl

end

/-- No field of reception is one of the three counters of length and FCS (R276). -/
theorem lengthCounters_notReceived (n : Fin 2) :
    ∀ g ∈ [fETH_CNT_RUNT n, fETH_CNT_LONG n, fETH_CNT_FCS n], ∀ f ∈ receptionFields n, g.key ≠ f.key := by
  revert n
  decide

section
variable {c : Nat} {n : Fin 2} {f : EthFrame} {s : State} (hr : Running s) (hup : macUp s n = true)
include hr

theorem ends_ethFrame {g : State → State} (hg : ethFrame n f (begin_ c s) = g (begin_ c s)) : Ends (.ethFrame c n f) c s g :=
  ends_of_event_eq hr rfl hg

theorem ends_ethFrame_badFcs (h : LengthGood n f s) (hfcs : f.fcsOk = false) : Ends (.ethFrame c n f) c s (bump (fETH_CNT_FCS n)) :=
  ends_ethFrame hr (ethFrame_badFcs (lengthGood_begin h c) hfcs)

include hup

theorem ends_ethFrame_runt (hlen : f.len ≤ 63) : Ends (.ethFrame c n f) c s (bump (fETH_CNT_RUNT n)) :=
  ends_ethFrame hr (ethFrame_runt (s := begin_ c s) hup hlen)

theorem ends_ethFrame_long (hrunt : 63 < f.len) (hlen : maxFrame s n f.vid.isSome < f.len) :
    Ends (.ethFrame c n f) c s (bump (fETH_CNT_LONG n)) :=
  ends_ethFrame hr (ethFrame_long (s := begin_ c s) hup hrunt hlen)

end

/-- Settles O39: each dropped frame by the counter that takes it, and an accepted one by the fields that reception may change. -/
theorem frameLengthsAreChecked : Obligations.FrameLengthsAreChecked := by
  intro c n f s hr hup
  refine ⟨ends_ethFrame_runt hr hup, fun hj hv hlen => ?_, fun hj hv hlen => ?_, fun hlen => ?_, fun hmin hmax => ?_⟩
  · exact ends_ethFrame_long hr hup (by omega) (by rw [maxFrame_untagged hj hv]; omega)
  · exact ends_ethFrame_long hr hup (by omega) (by rw [maxFrame_tagged hj hv]; omega)
  · exact ends_ethFrame_long hr hup (by omega) (Nat.lt_of_le_of_lt (maxFrame_le_jumbo s n _) hlen)
  · have hgood : LengthGood n f s := ⟨hup, hmin, (maxFrame_eq s n f).symm ▸ hmax⟩
    refine ⟨ends_ethFrame_badFcs hr hgood, fun hfcs => ⟨_, ends_ethFrame hr rfl, fun g hg => ?_⟩⟩
    exact rxKept_ethFrame (lengthGood_begin hgood c) hfcs g (lengthCounters_notReceived n g hg)

end Sys2Proof.Machine
end

section
/-! Flow control, links and low-power idle of a MAC (R256, R262 to R266, R275), beside the frames it receives. -/
namespace Sys2Proof.Machine

open Sys2Proof

/-! ## Bits of a mask field -/

theorem testBit_setBit_self (m i : Nat) : (setBit m i true).testBit i = true := by
  rw [setBit, if_pos rfl, Nat.testBit_or, Nat.testBit_two_pow_self, Bool.or_true]

theorem testBit_setMaskBit_self {f : Fld} {i : Nat} (hi : i < f.width) (s : State) : (getF (setMaskBit f i true s) f).testBit i = true := by
  rw [setMaskBit, getF_setF_self, Nat.testBit_mod_two_pow, testBit_setBit_self, decide_eq_true hi, Bool.and_true]

/-! ## What a transmitted frame leaves (R263 to R266) -/

section
variable (k : Nat) (i : TxItem) (s : State)

theorem macUp_txSend (n : Nat) : macUp (txSend k i s) n = macUp s n := by
  rw [macUp, macUp, (sameButReply_txSend k i s).2 _ (by decide)]

theorem mac_putTx (n : Nat) : mac (putTx k i s) n = mac s n := by
  unfold putTx
  dsimp only
  split <;> rfl

theorem pauseOk_txSend : (mac (txSend k i s) k).pauseOk = (mac s k).pauseOk := by
  unfold txSend
  split
  · rw [mac_setMac_self]
  · split
    · rw [mac_putTx]
    · rfl

end

/-! ## PAUSE (R262, R263) -/

section
variable {n : Nat} {s : State}

theorem pauseAgreed_of (h : negotiates s n = false ∨ (mac s n).pauseOk = true) : pauseAgreed s n = true := by
  rcases h with hneg | hok
  · simp [pauseAgreed, hneg]
  · simp [pauseAgreed, hok]

theorem takePause_stops {q : Nat} (hrx : getF s (fETH_CTL_RXPAUSE n) = 1) (hq : q ≠ 0) (hagreed : pauseAgreed s n = true) :
    takePause n q s = setMac n { mac s n with paused := true } (bump (fETH_CNT2_PRX n) s) := by
  have hobeyed : ¬(getF s (fETH_CTL_RXPAUSE n) = 0 ∨ (!pauseAgreed s n) = true) := by simp [hrx, hagreed]
  rw [takePause, if_neg hobeyed, if_neg hq]
  rfl

/-- While PAUSE stays asserted, the check at half its time sends it again (R262). -/
theorem flowRule_again {fill : Nat} (hup : macUp s n = true) (hasserted : (mac s n).asserted = true)
    (hlow : getF s (fETH_WM_LOW n) * 262144 < fill * 100) :
    flowRule n fill true s = sendPause n (getF s (fETH_WM_PQUANTA n)) s := by
  simp only [flowRule, hup, hasserted, Nat.not_le.2 hlow, Bool.not_true, Bool.false_eq_true, false_and, and_false, and_self, if_false, if_true]

theorem wire_sendPause (quanta : Nat) : (sendPause n quanta s).wire = s.wire ++ [.pause n quanta] := rfl

/-! ## Links (R256, R275) -/

/-- A link that is accepted shows its bit and what it agreed on PAUSE, and sends LLDP. -/
def acceptLink (n : Nat) (pause : Bool) (s : State) : State :=
  sendLldp n (setMac n { mac s n with pauseOk := pause } (setMaskBit fETH_STAT_LINK n true s))

theorem ethLink_accepted {full pause : Bool} (hen : getF s (fETH_CTL_EN n) = 1) (hmode : getF s (fETH_CTL_MODE n) ≠ 0)
    (hreset : s.kiln.resets = []) (hduplex : full = true ∨ negotiates s n = false) :
    ethLink n true full pause s = acceptLink n pause s := by
  have hgood : getF s (fETH_CTL_EN n) = 1 ∧ getF s (fETH_CTL_MODE n) ≠ 0 ∧ (full = true ∨ (!negotiates s n) = true) ∧
      (!s.kiln.resets.any (fun u => u.unit == 10)) = true := by
    simp [hen, hmode, hreset, hduplex]
  rw [ethLink, if_pos rfl, if_pos hgood]
  rfl

theorem macUp_acceptLink (hn : n < 2) (pause : Bool) (s : State) : macUp (acceptLink n pause s) n = true := by
  rw [acceptLink, sendLldp, sendFrame, macUp_txSend]
  exact testBit_setMaskBit_self hn s

theorem pauseOk_acceptLink (pause : Bool) : (mac (acceptLink n pause s) n).pauseOk = pause := by
  rw [acceptLink, sendLldp, sendFrame, pauseOk_txSend, mac_setMac_self]

/-- Half duplex is never accepted where the mode negotiates (R256). -/
theorem ethLink_halfDuplex (hneg : negotiates s n = true) (pause : Bool) : ethLink n true false pause s = s := by
  rw [ethLink, if_pos rfl, if_neg (by simp [hneg])]

theorem ethLink_lost (hup : macUp s n = true) (full pause : Bool) :
    ethLink n false full pause s = send 10 n 3 13 0 (loseMacLink n s) := by
  rw [ethLink, if_neg (by decide), if_pos hup]

end

/-! ## Received frames (R259 to R261) -/

section
variable {c : Nat} {n : Fin 2} {f : EthFrame} {s : State} (hr : Running s)
include hr

section
variable (h : LengthGood n f s) (hfcs : f.fcsOk = true)
include h hfcs

theorem ends_ethFrame_otherVlan (hvid : vidGood s n f.vid = false) : Ends (.ethFrame c n f) c s (bump (fETH_CNT2_FILT n)) :=
  ends_ethFrame hr (ethFrame_otherVlan (lengthGood_begin h c) hfcs hvid)

variable (hvid : vidGood s n f.vid = true)
include hvid

theorem ends_ethFrame_pause {q : Nat} (hbody : f.body = .pause q) : Ends (.ethFrame c n f) c s (takePause n q) :=
  ends_ethFrame hr (ethFrame_pause (lengthGood_begin h c) hfcs hvid hbody)

variable (hbody : ∀ q, f.body ≠ .pause q)
include hbody

theorem ends_ethFrame_overflow (hfull : 262144 < rxBytes (mac s n) + f.len) : Ends (.ethFrame c n f) c s (bump (fETH_CNT_OVF n)) :=
  ends_ethFrame hr ((ethFrame_data (lengthGood_begin h c) hfcs hvid hbody).trans (if_pos hfull))

variable (hroom : rxBytes (mac s n) + f.len ≤ 262144)
include hroom

theorem ends_ethFrame_unclaimed (hdisp : dispatches s n f.body = false) : Ends (.ethFrame c n f) c s (bump (fETH_CNT2_FILT n)) :=
  ends_ethFrame hr (((ethFrame_data (lengthGood_begin h c) hfcs hvid hbody).trans (if_neg (Nat.not_lt.2 hroom))).trans
    (if_pos (congrArg (!·) hdisp)))

theorem ends_ethFrame_dispatched (hdisp : dispatches s n f.body = true) :
    Ends (.ethFrame c n f) c s (takeData n f.len f.body) := by
  have htaken : ¬(!dispatches s n f.body) = true := by simp [hdisp]
  exact ends_ethFrame hr (((ethFrame_data (lengthGood_begin h c) hfcs hvid hbody).trans (if_neg (Nat.not_lt.2 hroom))).trans
    (if_neg htaken))

end

/-! ## Events beside the frames -/

theorem yields_pauseReceived {q : Nat} (hup : macUp s n = true) (hrx : getF s (fETH_CTL_RXPAUSE n) = 1) (hq : q ≠ 0)
    (hagreed : pauseAgreed s n = true) : Yields (.pauseReceived c n q) s (fun t => (mac t n).paused = true ∧
      getF t (fETH_CNT2_PRX n) = min (2 ^ (fETH_CNT2_PRX n).width - 1) (getF s (fETH_CNT2_PRX n) + 1)) := by
  have hends : Ends (.pauseReceived c n q) c s (fun u => setMac n { mac u n with paused := true } (bump (fETH_CNT2_PRX n) u)) :=
    ends_of_event_eq hr rfl ((if_pos hup).trans (takePause_stops (s := begin_ c s) hrx hq hagreed))
  exact ⟨_, hends, congrArg MacSt.paused (mac_setMac_self n _ (bump _ (begin_ c s))), getF_bump_self _ (begin_ c s)⟩

theorem ends_pauseExpiry (hpaused : (mac s n).paused = true) : Ends (.pauseExpiry c n) c s (resumeTx n) :=
  ends_of_event_eq hr rfl (if_pos hpaused)

theorem ends_pauseSend (hup : macUp s n = true) (hasserted : (mac s n).asserted = true)
    (hlow : getF s (fETH_WM_LOW n) * 262144 < rxBytes (mac s n) * 100) :
    Ends (.pauseSend c n true) c s (sendPause n (getF s (fETH_WM_PQUANTA n))) :=
  ends_of_event_eq hr rfl (flowRule_again (s := begin_ c s) hup hasserted hlow)

theorem ends_ethLink_accepted {full pause : Bool} (hen : getF s (fETH_CTL_EN n) = 1) (hmode : getF s (fETH_CTL_MODE n) ≠ 0)
    (hreset : s.kiln.resets = []) (hduplex : full = true ∨ negotiates s n = false) :
    Ends (.ethLink c n ⟨true, full, pause⟩) c s (acceptLink n pause) :=
  ends_of_event_eq hr rfl (ethLink_accepted (s := begin_ c s) hen hmode hreset hduplex)

theorem ends_ethLink_halfDuplex (hneg : negotiates s n = true) (pause : Bool) : Ends (.ethLink c n ⟨true, false, pause⟩) c s id :=
  ends_of_event_eq hr rfl (ethLink_halfDuplex (s := begin_ c s) hneg pause)

theorem ends_ethLink_lost (hup : macUp s n = true) (full pause : Bool) :
    Ends (.ethLink c n ⟨false, full, pause⟩) c s (fun u => send 10 n 3 13 0 (loseMacLink n u)) :=
  ends_of_event_eq hr rfl (ethLink_lost (s := begin_ c s) hup full pause)

theorem ends_lpiAssert (hallowed : lpiAllowed s n = true) : Ends (.lpiAssert c n) c s (setMaskBit fETH_STAT_LPI n true) :=
  ends_of_event_eq hr rfl (if_pos hallowed)

end

/-- Settles O38: a frame by the first of its checks that decides, and each event by its effect. -/
theorem ethernetComplete : Obligations.EthernetComplete := by
  refine ⟨?frame, ?paused, ?resumed, ?again, ?linkUp, ?halfDuplex, ?linkDown, ?idle⟩
  case frame =>
    intro c n f s hr hup
    refine ⟨ends_ethFrame_runt hr hup, ends_ethFrame_long hr hup, fun hrunt hlong => ?_⟩
    have hgood : LengthGood n f s := ⟨hup, hrunt, hlong⟩
    exact ⟨ends_ethFrame_badFcs hr hgood, ends_ethFrame_otherVlan hr hgood, fun hfcs hvid =>
      ⟨fun _ => ends_ethFrame_pause hr hgood hfcs hvid, fun hbody => ⟨ends_ethFrame_overflow hr hgood hfcs hvid hbody,
        ends_ethFrame_unclaimed hr hgood hfcs hvid hbody, ends_ethFrame_dispatched hr hgood hfcs hvid hbody⟩⟩⟩
  case paused =>
    intro c q n s hr hup hrx hq hok
    exact yields_pauseReceived hr hup hrx hq (pauseAgreed_of hok)
  case resumed =>
    intro c n s hr hpaused
    exact ends_pauseExpiry hr hpaused
  case again =>
    intro c n s hr hup hasserted hlow
    exact ⟨ends_pauseSend hr hup hasserted hlow, _, ends_pauseSend hr hup hasserted hlow, wire_sendPause (s := begin_ c s) _⟩
  case linkUp =>
    intro c n s hr hen hmode hreset full pause hduplex
    exact ⟨_, ends_ethLink_accepted hr hen hmode hreset hduplex, macUp_acceptLink n.isLt pause (begin_ c s), pauseOk_acceptLink pause⟩
  case halfDuplex =>
    intro c n pause s hr hneg hdown
    exact ⟨_, ends_ethLink_halfDuplex hr hneg pause, hdown⟩
  case linkDown =>
    intro c n full pause s hr hup
    exact ends_ethLink_lost hr hup full pause
  case idle =>
    intro c n s hr hallowed
    exact ⟨_, ends_lpiAssert hr hallowed, testBit_setMaskBit_self (f := fETH_STAT_LPI) n.isLt (begin_ c s)⟩

end Sys2Proof.Machine
end

section
/-! AES67 streams (R267 to R274, R277): the commands, a packet that leaves, and one that is too late. -/
namespace Sys2Proof.Machine

open Sys2Proof

section
variable {r : Req} {o : Nat} {a : AesDef} {s : State}

/-! ## The commands (R277) -/

/-- Applied settings replied and staged. -/
def answerAesSet (r : Req) (o : Nat) (f : AesFields) (s : State) : State :=
  replyOK r 0x0710 (aesBytes o f) (stage r 0x0710 (aesBytes o f) [.aes o f] s)

/-- The state, the counts and the last timestamp of a stream. -/
def aesReport (s : State) (o : Nat) : List Byte :=
  [byteOf (stream s o).state, 0, 0, 0] ++ be4 (stream s o).packets ++ be4 (stream s o).gaps ++ be4 (stream s o).stale ++
    be4 (stream s o).early ++ beWord (stream s o).lastTs

/-- The registers of a MAC and the wake time that its partner asks for. -/
def macReport (s : State) (n : Nat) : List Byte :=
  be4 (peekReg s (rETH_CTL n)) ++ be4 (peekReg s (rETH_WM n)) ++ be4 (peekReg s (rETH_EEE n)) ++ be4 (peekReg s (rETH_FILL n)) ++
    be4 (peekReg s (rETH_CNT n)) ++ be4 (peekReg s (rETH_CNT2 n)) ++ be2 (mac s n).twReq ++ [0, 0]

/-- The counters of a MAC and the peak of its fill return to 0. -/
def clearMacCnt (n : Nat) : State → State :=
  foldState (fun f => setF f 0) [fETH_CNT_RUNT n, fETH_CNT_LONG n, fETH_CNT_FCS n, fETH_CNT_OVF n, fETH_CNT2_PTX n, fETH_CNT2_PRX n,
    fETH_CNT2_FILT n, fETH_CNT2_LATE n, fETH_FILL_PEAK n]

theorem opAesStreamSet_known (hl : Live s) (hlat : Latches r s) (ha : aesDef s.oven o = some a) (f : AesFields) :
    opAesStreamSet r o f s = answerAesSet r o (clampAes a f) s := by
  rw [opAesStreamSet, command_live hl _ _ _ _ (find?_bad_eq_none (by simp [bad_standbyDenied hlat, bad_standbyNotNow hlat, ha]))]
  simp only [ha]
  rfl

theorem opAesStreamStatus_known (hl : Live s) (ha : aesDef s.oven o = some a) :
    opAesStreamStatus r o s = replyOK r 0x0711 (aesReport s o) s :=
  command_live hl _ _ _ _ (find?_bad_eq_none (by simp [ha]))

theorem opEthStatus_there (hl : Live s) (n k : Nat) : opEthStatus r n k s =
    (if 1 ≤ k then clearMacCnt (min n 1) else id) (replyOK r 0x0712 (macReport s (min n 1)) s) := by
  simp only [opEthStatus, clampHi_eq_min]
  rw [command_live hl _ _ _ _ rfl]
  by_cases hk : 1 ≤ k
  · rw [if_pos hk, if_pos hk]
    rfl
  · rw [if_neg hk, if_neg hk]
    rfl

/-! ## Packets (R274) -/

theorem stream_txSend (k : Nat) (i : TxItem) (s : State) (o : Nat) : stream (txSend k i s) o = stream s o := by
  rw [stream, stream, (sameButReply_txSend k i s).1]

/-- A stream whose packet has left: its number goes up by one and its time to that of the packet's first sample. -/
def packetSent (a : AesDef) (p : Nat) (x : StreamSt) : StreamSt :=
  { x with
    seq := (x.seq + 1) % 65536, packets := (x.packets + 1) % 2 ^ 32, lastTs := BitVec.ofNat 32 (p / aesPeriod a + x.set.rtpOff.toNat) }

theorem stream_sendAes (ha : aesDef s.oven o = some a) (htx : isTx o = true) (hon : streamOn s o = true) (hsends : aesSends s = true)
    (hup : macUp s a.mac = true) (p : Nat) : stream (sendAes o p s) o = packetSent a p (stream s o) := by
  have hleaves : (isTx o && streamOn s o && aesSends s && macUp s a.mac) = true := by simp [htx, hon, hsends, hup]
  simp only [sendAes, ha, hleaves, if_true]
  rw [stream_txSend, stream_setStream_self]
  rfl

/-- The oldest packet of the stream that is still queued is dropped and counted. -/
def dropLate (m k : Nat) (s : State) : State :=
  bump (fETH_CNT2_LATE m) (setMac m { mac s m with txq := (mac s m).txq.eraseIdx k } s)

theorem lateAes_queued {k : Nat} (ha : aesDef s.oven o = some a)
    (hk : (mac s a.mac).txq.findIdx? (fun i => i.owner == some o) = some k) : lateAes o s = dropLate a.mac k s := by
  simp only [lateAes, ha, hk]
  rfl

theorem txq_dropLate (m k : Nat) (s : State) : (mac (dropLate m k s) m).txq = (mac s m).txq.eraseIdx k :=
  congrArg MacSt.txq (mac_setMac_self m _ s)

theorem late_dropLate (m k : Nat) (s : State) : getF (dropLate m k s) (fETH_CNT2_LATE m) =
    min (2 ^ (fETH_CNT2_LATE m).width - 1) (getF s (fETH_CNT2_LATE m) + 1) := getF_bump_self _ _

end

/-- Settles O40: each command by what it does once its checks have passed, and each event by what it leaves of the stream or the queue. -/
theorem aesStreamsComplete : Obligations.AesStreamsComplete := by
  refine ⟨?set, ?status, ?ethStatus, ?sent, ?late⟩
  case set =>
    intro r o f a s hl hlat ha
    exact ends_of_run (op := opAesStreamSet r o f) rfl (opAesStreamSet_known (live_begin hl _) hlat ha f)
  case status =>
    intro r o a s hl ha
    exact ends_of_run (op := opAesStreamStatus r o) rfl (opAesStreamStatus_known (live_begin hl _) ha)
  case ethStatus =>
    intro r n k s hl
    exact ends_of_run (op := opEthStatus r n k) rfl (opEthStatus_there (live_begin hl _) n k)
  case sent =>
    intro c o p a s hr ha htx hon hsends hup
    exact ⟨_, ends_of_event hr rfl, stream_sendAes (s := begin_ c s) ha htx hon hsends hup p⟩
  case late =>
    intro c o k a s hr ha hk
    have hends : Ends (.aesPacketLate c o) c s (dropLate a.mac k) := ends_of_event_eq hr rfl (lateAes_queued (s := begin_ c s) ha hk)
    exact ⟨_, hends, txq_dropLate a.mac k (begin_ c s), late_dropLate a.mac k (begin_ c s)⟩

end Sys2Proof.Machine
end

section
/-! The step (R3, R370): every command runs one operation at one cycle, and only commands of `storesMem` may store to memory. -/
namespace Sys2Proof.Machine

open Sys2Proof

/-! ## The form of every command -/

/-- A command outside `storesMem` is an operation that stores to no memory. -/
theorem exec_eq_run {i : Instr} (h : storesMem i = false) (s : State) : ∃ c op, exec i s = run c op s := by
  cases i
  case lossOfLock c l => exact ⟨_, _, execLossOfLock.eq_1 c l s⟩
  case twinLaneLoss c l => exact ⟨_, _, execTwinLaneLoss.eq_1 c l s⟩
  all_goals simp only [storesMem, Bool.true_eq_false] at h
  all_goals exact ⟨_, _, rfl⟩

/-- A command of `storesMem` is an operation whose memory is taken in its canonical form. -/
theorem exec_eq_runMem {i : Instr} (h : storesMem i = true) (s : State) : ∃ c op, exec i s = runMem c op s := by
  cases i
  case vkeepFall => exact ⟨_, _, execVkeepFall.eq_1 s⟩
  all_goals simp only [storesMem, Bool.false_eq_true] at h
  all_goals exact ⟨_, _, rfl⟩

/-- Every command answers a next state that keeps the queue behind it and the fuses; its memory is as it was, or in the canonical form. -/
theorem exec_next (i : Instr) (s : State) :
    ∃ t, exec i s = .next t ∧ t.pending = s.pending ∧ t.fuses = s.fuses ∧
      if storesMem i then MemForm t else t.mem = s.mem := by
  cases h : storesMem i with
  | false =>
    obtain ⟨c, op, hrun⟩ := exec_eq_run h s
    exact ⟨_, hrun.trans (run_eq c op s), rfl, rfl, rfl⟩
  | true =>
    obtain ⟨c, op, hrun⟩ := exec_eq_runMem h s
    exact ⟨_, hrun.trans (runMem_eq c op s), rfl, rfl, cellsWf_canonMem _⟩

/-- What a next state keeps. -/
theorem exec_keeps {i : Instr} {s t : State} (ht : exec i s = .next t) :
    t.pending = s.pending ∧ t.fuses = s.fuses ∧ if storesMem i then MemForm t else t.mem = s.mem := by
  obtain ⟨u, hu, hkeeps⟩ := exec_next i s
  rw [hu] at ht
  exact Host.Outcome.next.inj ht ▸ hkeeps

/-! ## The step -/

theorem step_nil {s : State} (h : s.pending = []) : step s = .next s := by rw [step, h]

theorem step_cons {i : Instr} {q : List Instr} {s : State} (h : s.pending = i :: q) : step s = exec i { s with pending := q } := by
  rw [step, h]

/-- A command keeps the canonical form of memory. -/
theorem memForm_exec {i : Instr} {s t : State} (hs : MemForm s) (ht : exec i s = .next t) : MemForm t := by
  obtain ⟨-, -, hmem⟩ := exec_keeps ht
  cases h : storesMem i with
  | false =>
    rw [h] at hmem
    exact (congrArg (cellsWf memDefault) hmem).trans hs
  | true =>
    rw [h] at hmem
    exact hmem

/-- Settles O1. -/
theorem stepRunsFrontCommand : Obligations.StepRunsFrontCommand := by
  intro i q s
  exact step_cons rfl

/-- Settles O2. -/
theorem stepIdlesOnEmptyQueue : Obligations.StepIdlesOnEmptyQueue := by
  intro s h
  exact step_nil h

/-- Settles O3: every command runs one operation, and both ways to run one restore the queue and the fuses. -/
theorem commandsAnswerAndKeepQueue : Obligations.CommandsAnswerAndKeepQueue := by
  refine ⟨fun i s => ?_, fun i s t ht => ?_⟩
  · obtain ⟨t, ht, -⟩ := exec_next i s
    exact ⟨t, ht⟩
  · obtain ⟨hpending, hfuses, -⟩ := exec_keeps ht
    exact ⟨hpending, hfuses⟩

/-- Settles O4, by the command at the front of the queue. -/
theorem stepKeepsMemoryForm : Obligations.StepKeepsMemoryForm := by
  intro s t hs ht
  cases hq : s.pending with
  | nil =>
    rw [step_nil hq] at ht
    exact Host.Outcome.next.inj ht ▸ hs
  | cons i q =>
    rw [step_cons hq] at ht
    exact memForm_exec (s := { s with pending := q }) hs ht

/-- Settles O5: nothing has been written. -/
theorem resetMemoryIsCanonical : Obligations.ResetMemoryIsCanonical := by
  unfold Obligations.ResetMemoryIsCanonical MemForm
  rfl

/-- Settles O6. -/
theorem onlyStoringCommandsChangeMemory : Obligations.OnlyStoringCommandsChangeMemory := by
  intro i s t hi ht a
  obtain ⟨-, -, hmem⟩ := exec_keeps ht
  rw [hi] at hmem
  exact memByte_congr hmem a

end Sys2Proof.Machine
end

section
/-! The clock commands (R278, R284, R289 to R303): what each does once its checks have passed. -/
namespace Sys2Proof.Machine

open Sys2Proof

/-- The words of an entry's table with TYPE, BW and HARD after the other fields (R278, R288, R301). -/
def clampTable (ws : List Nat) : List Nat :=
  match ws with
  | cfg :: lim :: t => clampCfg cfg :: clampLim lim :: t
  | l => l

/-- The settings of CLK_SELECT as they are stored. -/
def storeSelect (sm man lp sl tau : Nat) (s : State) : State :=
  setF fCLK_CTL_SELMODE (min sm 3) (setF fCLK_CTL_MANUAL (min man 15)
    (setF fCLK_CTL_LOOP (min lp 1) (setF fCLK_CTL_ALSLEW (clampN 1 100 sl) (setF fCLK_CTL_HOLDTAU (clampN 10 3600 tau) s))))

/-- The registers that CLK_STATUS answers. -/
def clkReport (s : State) : List Byte :=
  ([rCLK_STAT, rCLK_CTL, rCLK_OUT, rCLK_FREQ, rCLK_BANK, rCLK_PHASE, rCLK_PHERR, rCLK_CNT] ++ (List.range 16).map (fun e => rCLK_STS e)).flatMap
    (fun a => be4 (peekReg s a))

/-- A steered word, which opens the loop unless SELMODE 3 holds it (R293, R294). -/
def steer (v : Int) (s : State) : State :=
  if getF s fCLK_CTL_SELMODE = 3 then setFI fCLK_FREQ_FREQ v s else setF fCLK_STAT_STATE kOPEN (setFI fCLK_FREQ_FREQ v s)

/-- CLK_OUT takes the word's fields. -/
def storeOut (w : Word) (s : State) : State :=
  storeWords [rCLK_OUT] (applyWords [rCLK_OUT] 0 0xF [w.toNat] (heldWords s [rCLK_OUT])) s

section
variable {r : Req} {s : State} (hl : Live s)
include hl

theorem opClkTableSet_there {e m : Nat} {ws : List Word}
    (htwin : hasTwin s = true ∨ (m.testBit 1 && bits (ws.headD 0).toNat 5 1 == 12) = false) {new : List Nat}
    (hnew : new = clampTable (applyWords (clkAddrs (min e 15)) 0 m (ws.map (·.toNat)) (heldWords s (clkAddrs (min e 15))))) :
    opClkTableSet r e m ws s = replyOK r 0x0800 (new.flatMap be4)
      (followCfg (min e 15) ((heldWords s (clkAddrs (min e 15))).headD 0) (storeWords (clkAddrs (min e 15)) new s)) := by
  have hthere : ((m.testBit 1 && bits (ws.headD 0).toNat 5 1 == 12) && !hasTwin s) = false := by
    rcases htwin with htwin | htwin <;> rw [htwin]
    · exact Bool.and_false _
    · rfl
  subst hnew
  simp only [opClkTableSet, clampHi_eq_min]
  rw [command_live hl _ _ _ _ (find?_bad_eq_none (by simpa using hthere))]
  rfl

theorem opClkSelect_there (sm man lp sl tau : Nat) : opClkSelect r sm man lp sl tau s =
    replyOK r 0x0801 ([byteOf (min sm 3), byteOf (min man 15), byteOf (min lp 1), 0] ++ be2 (clampN 1 100 sl) ++ be2 (clampN 10 3600 tau))
      (followCtlWord (getF s fCLK_CTL_LOOP) (storeSelect sm man lp sl tau s)) := by
  simp only [opClkSelect, clampHi_eq_min]
  rw [command_live hl _ _ _ _ rfl]
  rfl

theorem opClkStatus_there (k : Nat) :
    opClkStatus r k s = (if 1 ≤ k then clearClkCnt else id) (replyOK r 0x0802 (clkReport s) s) := by
  rw [opClkStatus, command_live hl _ _ _ _ rfl, when_]
  simp only [decide_eq_true_eq]
  split <;> rfl

theorem opClkAlign_locked {e : Nat} (hf : HandleFree r s) (hrole : getF s fTWIN_STAT_ROLE ≠ 2) (hsel : selected s = some e)
    (hkind : alignKind s e ≠ .none) (hlock : clkState s = kLOCKED) (hpps : isPps s e = true → (ent s e).pps = true)
    (hidle : getF s fCLK_STAT_ALIGNING = 0) :
    opClkAlign r s = accept r 0x0803 (.align (getFI s fCLK_PHASE_PHASE)) (setF fCLK_STAT_ALIGNING 1 s) := by
  have hnoPps : (isPps s e && !(ent s e).pps) = false := by
    cases hp : isPps s e with
    | false => rfl
    | true => rw [hpps hp]; rfl
  simp only [opClkAlign, hsel]
  exact command_live hl _ _ _ _ (find?_bad_eq_none (by
    simp [bad_handleLimit hf, hrole, hkind, hlock, hnoPps, hidle]))

theorem opClkSteer_taken (hloop : getF s fCLK_CTL_LOOP ≠ 0 ∨ getF s fCLK_CTL_SELMODE = 3) (w : Word) : opClkSteer r w s =
    replyOK r 0x0804 (be4 (unsigned 32 (clampI (-500000000) 500000000 w.toInt))) (steer (clampI (-500000000) 500000000 w.toInt) s) := by
  have htaken : (getF s fCLK_CTL_LOOP == 0 && getF s fCLK_CTL_SELMODE != 3) = false := by
    rcases hloop with h | h <;> simp [h]
  rw [opClkSteer, command_live hl _ _ _ _ (find?_bad_eq_none (by simpa using htaken))]
  rfl

theorem opClkOutSet_there (w : Word) :
    opClkOutSet r w s = replyOK r 0x0805 (be4 (peekReg (storeOut w s) rCLK_OUT)) (storeOut w s) := by
  rw [opClkOutSet, command_live hl _ _ _ _ rfl]
  rfl

end

/-- Settles O41: each command by what it does once its checks have passed. -/
theorem clockCommandsComplete : Obligations.ClockCommandsComplete := by
  refine ⟨?table, ?select, ?status, ?align, ?steer, ?out⟩
  case table =>
    intro r e m ws raw new s hl htwin hraw hnew
    subst hraw
    exact ends_of_run (op := opClkTableSet r e m ws) rfl (opClkTableSet_there (live_begin hl _) htwin hnew)
  case select =>
    intro r sm man lp sl tau s hl
    exact ends_of_run (op := opClkSelect r sm man lp sl tau) rfl (opClkSelect_there (live_begin hl _) sm man lp sl tau)
  case status =>
    intro r k s hl
    exact ends_of_run (op := opClkStatus r k) rfl (opClkStatus_there (live_begin hl _) k)
  case align =>
    intro r e s hl hf hrole hsel hkind hlock hpps hidle
    exact ends_of_run (op := opClkAlign r) rfl (opClkAlign_locked (live_begin hl _) hf hrole hsel hkind hlock hpps hidle)
  case steer =>
    intro r w s hl hloop
    exact ends_of_run (op := opClkSteer r w) rfl (opClkSteer_taken (live_begin hl _) hloop w)
  case out =>
    intro r w s hl
    exact ends_of_run (op := opClkOutSet r w) rfl (opClkOutSet_there (live_begin hl _) w)

end Sys2Proof.Machine
end

section
/-! The clock's events (R281 to R293, R298 to R303): a lost entry, the bank, an alignment's end, and what each event does. -/
namespace Sys2Proof.Machine

open Sys2Proof

/-! ## Places of the clock's fields (R303) -/

/-- Where the state of an entry stands. -/
theorem entKey (e : Nat) : (fCLK_STS_STATE e).key = 0x4002010C * 32 + 512 * e := by
  simp only [Fld.key, fieldKey, fCLK_STS_STATE, rCLK_STS]
  omega

/-- Where a lane's delay stands. -/
theorem waitKey (l : Nat) : (fTL_WAIT_WAIT l).key = 0x4009010C * 32 + 1024 * l := by
  simp only [Fld.key, fieldKey, fTL_WAIT_WAIT, rTL_WAIT]
  omega

/-- Where the counters of lost references and of dropped shards stand. -/
theorem clkCountKeys : fCLK_CNT_LOS.key = 0x40020020 * 32 + 8 ∧ fKILN_CNT_DROP.key = 0x40010014 * 32 + 24 := by decide

/-- Where the fields of an alignment stand. -/
theorem alignKeys : fCLK_STAT_ALIGNING.key = 0x40020000 * 32 + 10 ∧ fCLK_PHASE_PHASE.key = 0x40020014 * 32 ∧
    fCLK_OUT_PPSCNT.key = 0x40020008 * 32 + 12 := by decide

/-! ## Operations that finish -/

theorem kiln_finish (ch : Nat) (h : Word) (st : Nat) (res : List Byte) (s : State) : (finish ch h st res s).kiln = s.kiln := by
  rw [(sameButFinish_finish ch h st res s).1]

theorem ents_finish (ch : Nat) (h : Word) (st : Nat) (res : List Byte) (s : State) : (finish ch h st res s).ents = s.ents := by
  rw [(sameButFinish_finish ch h st res s).1]

/-- Once each operation of a kind has left, whatever its result, none of the kind runs. -/
theorem stopped_foldState {p : OpKind → Bool} {f : Op → State → State}
    (hf : ∀ o u, p o.kind = true → (f o u).ops = u.ops.filter (fun x => !(x.h == o.h))) (s : State) :
    Stopped p (foldState f (s.ops.filter (fun o => p o.kind)) s) := by
  have hleft : ∀ (l : List Op) (u : State), (∀ o ∈ l, p o.kind = true) → (∀ o ∈ u.ops, p o.kind = true → o ∈ l) →
      Stopped p (foldState f l u) := by
    intro l
    induction l with
    | nil =>
      intro u _ hu
      refine List.all_eq_true.2 fun o ho => ?_
      cases hp : p o.kind with
      | false => rfl
      | true => exact absurd (hu o ho hp) List.not_mem_nil
    | cons a l ih =>
      intro u hl hu
      refine ih (f a u) (fun o ho => hl o (List.mem_cons_of_mem _ ho)) fun o ho hp => ?_
      rw [hf a u (hl a List.mem_cons_self)] at ho
      obtain ⟨hmem, hne⟩ := List.mem_filter.1 ho
      rcases List.mem_cons.1 (hu o hmem hp) with rfl | h
      · simp at hne
      · exact h
  exact hleft _ s (fun o ho => (List.mem_filter.1 ho).2) fun o ho hp => List.mem_filter.2 ⟨ho, hp⟩

/-! ## The bank (R292, R300) -/

/-- A slew that stops changes ALIGNING, what completes its command, and nothing else. -/
theorem failAlign_keeps {β : Type} {g : State → β} (haligning : ∀ v s, g (setF fCLK_STAT_ALIGNING v s) = g s)
    (hfinish : ∀ ch h st res s, g (finish ch h st res s) = g s) (s : State) : g (failAlign s) = g s := by
  rw [failAlign]
  split
  · rfl
  · refine (foldState_keeps g (fun o t => ?_) _ _).trans (haligning 0 s)
    split
    · exact hfinish _ _ _ _ t
    · rfl

theorem kiln_failAlign (s : State) : (failAlign s).kiln = s.kiln :=
  failAlign_keeps (g := State.kiln) (fun _ _ => rfl) kiln_finish s

theorem clkState_setF {f : Fld} (h : fCLK_STAT_STATE.key ≠ f.key) (v : Nat) (s : State) : clkState (setF f v s) = clkState s :=
  getF_setF_ne _ _ _ _ h

theorem clkState_withClk (s : State) (k : ClkSt) : clkState { s with clk := k } = clkState s := rfl

theorem clkState_send (src inst cls kind ctx : Nat) (s : State) : clkState (send src inst cls kind ctx s) = clkState s :=
  getF_send (by decide) src inst cls kind ctx s

theorem clkState_enterBanked (s : State) : clkState (enterBanked s) = kBANKED := by
  rw [enterBanked, clkState_send, clkState_withClk, clkState_setF (by decide), clkState, getF_setF_self]
  rfl

theorem queued_enterBanked {src inst cls kind ctx : Nat} {s : State} (h : Queued src inst cls kind ctx s) :
    Queued src inst cls kind ctx (enterBanked s) := by
  have hbanked (f g h : Fld) (a b d : Nat) (k : ClkSt) (u : State) :
      ({ setF f a (setF g b (setF h d u)) with clk := k } : State).kiln = u.kiln := rfl
  rw [enterBanked, setFI]
  exact queued_send (queued_congr ((hbanked ..).trans (kiln_failAlign s)) h) 2 0 4 13 0

/-! ## What leaves an entry -/

section
variable (e : Nat) (s : State)

theorem ent_setF (f : Fld) (v : Nat) : ent (setF f v s) e = ent s e := rfl

theorem ent_setFI (f : Fld) (v : Int) : ent (setFI f v s) e = ent s e := rfl

theorem ent_bump (f : Fld) : ent (bump f s) e = ent s e := rfl

theorem kiln_setFI (f : Fld) (v : Int) : (setFI f v s).kiln = s.kiln := rfl

theorem kiln_setEnt (q : ClkEnt) : (setEnt e q s).kiln = s.kiln := rfl

theorem ent_send (src inst cls kind ctx : Nat) : ent (send src inst cls kind ctx s) e = ent s e := by
  unfold send enqueue
  split <;> rfl

end

/-! ## A lost entry (R281, R283) -/

section
variable {e : Nat} {s : State}

theorem entState_setF {f : Fld} (h : (fCLK_STS_STATE e).key ≠ f.key) (v : Nat) (s : State) : entState (setF f v s) e = entState s e :=
  getF_setF_ne _ _ _ _ h

/-- An entry without its signal, its count of good measurements gone, counted. -/
def lostEnt (e : Nat) (s : State) : State := bump fCLK_CNT_LOS (setEntState e eNOSIG (setEnt e { ent s e with good := 0 } s))

theorem loseEnt_other (hoff : entState s e ≠ eOFF) (hnosig : entState s e ≠ eNOSIG) (hsel : selected s ≠ some e) :
    loseEnt e s = send 2 e 4 2 0 (lostEnt e s) := by
  have hother : (selected s == some e) = false := beq_eq_false_iff_ne.2 hsel
  simp only [loseEnt, hother]
  exact if_neg (not_or.2 ⟨hoff, hnosig⟩)

theorem entState_lostEnt (e : Nat) (s : State) : entState (lostEnt e s) e = eNOSIG :=
  (entState_setF (by simp only [entKey, clkCountKeys]; omega) _ _).trans (getF_setF_self _ _ _)

theorem good_lostEnt (e : Nat) (s : State) : (ent (lostEnt e s) e).good = 0 := by
  rw [lostEnt, ent_bump, setEntState, ent_setF, ent_setEnt_self]

theorem kiln_lostEnt (e : Nat) (s : State) : (lostEnt e s).kiln = s.kiln := by
  rw [lostEnt, kiln_bump, setEntState, kiln_setF, kiln_setEnt]

theorem entState_send (e : Nat) (src inst cls kind ctx : Nat) (s : State) :
    entState (send src inst cls kind ctx s) e = entState s e :=
  getF_send (by simp only [entKey, clkCountKeys]; omega) src inst cls kind ctx s

/-! ## A bad PPS edge (R281) -/

/-- PHERR and PHASE change one entry's target phase at most. -/
theorem ent_showPhase (e : Nat) (s : State) : ent (showPhase s) e = { ent s e with phi := (ent (showPhase s) e).phi } := by
  rw [showPhase]
  split
  · rename_i k _
    dsimp only
    split
    · by_cases hk : e = k
      · subst hk
        rw [ent_setEnt_self]
      · rw [ent_setEnt_ne _ _ hk, ent_setFI]
    · rw [ent_setFI, ent_setFI]
  · rw [ent_setFI]

theorem kiln_showPhase (s : State) : (showPhase s).kiln = s.kiln := by
  rw [showPhase]
  split
  · dsimp only
    split
    · rw [kiln_setEnt, kiln_setFI]
    · rw [kiln_setFI, kiln_setFI]
  · rw [kiln_setFI]

/-- An entry whose edges are bad has no alignment instant. -/
def badEdge (e : Nat) (s : State) : State := showPhase (setEnt e { ent s e with pps := false, ppsOk := 0 } s)

theorem kiln_badEdge (e : Nat) (s : State) : (badEdge e s).kiln = s.kiln := by rw [badEdge, kiln_showPhase, kiln_setEnt]

theorem ent_badEdge (e : Nat) (s : State) :
    ent (badEdge e s) e = { ent s e with pps := false, ppsOk := 0, phi := (ent (badEdge e s) e).phi } := by
  have hshown := ent_showPhase e (setEnt e { ent s e with pps := false, ppsOk := 0 } s)
  rw [ent_setEnt_self] at hshown
  exact hshown

/-! ## The end of an alignment (R299) -/

/-- The entry's phase and CLK_PHASE are 0, and the target of the loop is what the slew has made it. -/
def aligned (e : Nat) (s : State) : State :=
  setFI fCLK_PHASE_PHASE 0 (setF fCLK_STAT_ALIGNING 0
    (setEnt e { ent s e with phase := 0, phi := (ent s e).err - getFI s fCLK_PHERR_PHERR } s))

/-- What the alignment instant gives: a lane's delay of 0, or PPSCNT of this batch (log entry 24). -/
def placeInstant (e : Nat) (s : State) : State :=
  match alignKind s e with
  | .lane l => setF (fTL_WAIT_WAIT l) 0 s
  | .second =>
    if entSource s e = 13 then setF fCLK_OUT_PPSCNT (ptpCount s) s
    else useFree (setF fCLK_OUT_PPSCNT ((freeWord s).toNat % 12000) s)
  | _ => s

/-- A CLK_ALIGN completes with its start phase negated and the index of the batch that had PPSCNT 0. -/
def completeAlign (origin : Word) (o : Op) (s : State) : State :=
  match o.kind with
  | .align p0 => finish o.ch o.h stOK (be4 (unsigned 32 (-p0)) ++ beWord origin) s
  | _ => s

def completeAligns (s : State) : State :=
  foldState (completeAlign (batch s - BitVec.ofNat 32 (getF s fCLK_OUT_PPSCNT))) (s.ops.filter (fun o => isAlign o.kind)) s

theorem alignDone_aligning (hsel : selected s = some e) (h : getF s fCLK_STAT_ALIGNING = 1) :
    alignDone s = completeAligns (placeInstant e (aligned e s)) := by
  rw [alignDone, hsel, h]
  rfl

/-- A view that neither a lane's delay nor PPSCNT nor the free sequence changes stays as it was. -/
theorem placeInstant_keeps {β : Type} {g : State → β} (hwait : ∀ l v s, g (setF (fTL_WAIT_WAIT l) v s) = g s)
    (hcnt : ∀ v s, g (setF fCLK_OUT_PPSCNT v s) = g s) (hfree : ∀ s, g (useFree s) = g s) (e : Nat) (s : State) :
    g (placeInstant e s) = g s := by
  rw [placeInstant]
  split
  · exact hwait _ _ _
  · split
    · exact hcnt _ _
    · exact (hfree _).trans (hcnt _ _)
  · rfl

theorem completeAligns_keeps {β : Type} {g : State → β} (hfinish : ∀ ch h st res s, g (finish ch h st res s) = g s) (s : State) :
    g (completeAligns s) = g s := by
  refine foldState_keeps g (fun o t => ?_) _ s
  rw [completeAlign]
  split
  · exact hfinish _ _ _ _ _
  · rfl

theorem stopped_completeAligns (s : State) : Stopped isAlign (completeAligns s) := by
  refine stopped_foldState (fun o u ho => ?_) s
  rw [completeAlign]
  split
  · exact ops_finish _ _ _ _ _
  · rename_i hkind
    cases hk : o.kind with
    | align p0 => exact absurd hk (hkind p0)
    | _ => rw [hk] at ho; cases ho

theorem getF_alignEnd {f : Fld} (hwait : ∀ l, f.key ≠ (fTL_WAIT_WAIT l).key) (hcnt : f.key ≠ fCLK_OUT_PPSCNT.key)
    (hlpi : f.key ≠ fETH_STAT_LPI.key) (e : Nat) (s : State) :
    getF (completeAligns (placeInstant e s)) f = getF s f :=
  (completeAligns_keeps (g := (getF · f)) (fun _ _ _ _ _ => getF_finish _ _ _ _ _ _ hlpi) _).trans
    (placeInstant_keeps (g := (getF · f)) (fun l _ _ => getF_setF_ne _ _ _ _ (hwait l)) (fun _ _ => getF_setF_ne _ _ _ _ hcnt)
      (fun _ => rfl) e s)

theorem ents_alignEnd (e : Nat) (s : State) : (completeAligns (placeInstant e s)).ents = s.ents :=
  (completeAligns_keeps (g := State.ents) ents_finish _).trans
    (placeInstant_keeps (g := State.ents) (fun _ _ _ => rfl) (fun _ _ => rfl) (fun _ => rfl) e s)

theorem aligning_aligned (e : Nat) (s : State) : getF (completeAligns (placeInstant e (aligned e s))) fCLK_STAT_ALIGNING = 0 := by
  rw [getF_alignEnd (fun l => by simp only [alignKeys, waitKey]; omega) (by decide) (by decide), aligned, setFI,
    getF_setF_ne _ _ _ _ (by decide), getF_setF_self, Nat.zero_mod]

theorem phase_aligned (e : Nat) (s : State) : getF (completeAligns (placeInstant e (aligned e s))) fCLK_PHASE_PHASE = 0 := by
  rw [getF_alignEnd (fun l => by simp only [alignKeys, waitKey]; omega) (by decide) (by decide), aligned, setFI, getF_setF_self]
  rfl

theorem ent_aligned (e : Nat) (s : State) : (ent (completeAligns (placeInstant e (aligned e s))) e).phase = 0 := by
  rw [ent, ents_alignEnd]
  exact congrArg ClkEnt.phase (ent_setEnt_self e { ent s e with phase := 0, phi := (ent s e).err - getFI s fCLK_PHERR_PHERR } s)

end

/-! ## The copy of the bank (R291) -/

theorem memWord_setMemWord_nat (a n : Nat) (s : State) : memWord (setMemWord a n s) a = n % 2 ^ 32 := by
  have hread := memBytes_setMemBytes_self a (leBytes 4 n) s
  rw [length_leBytes] at hread
  exact (congrArg leNat hread).trans (leNat_leBytes 4 n)

theorem memByte_setMemWord_out {a k : Nat} (h : k < a ∨ a + 4 ≤ k) (n : Nat) (s : State) : memByte (setMemWord a n s) k = memByte s k :=
  memByte_setMemBytes_out _ _ (by rwa [length_leBytes])

/-! ## The events -/

section
variable {c : Nat} {s : State}

theorem ends_clockUpdate (ms : List ClkMeas) (hlive : clkLive s = true) : Ends (.clockUpdate c ms) c s (clockUpdate ms) := by
  have hlive' : clkLive (begin_ c s) = true := hlive
  exact ends_of_run (op := fun u => if clkLive u then clockUpdate ms u else u) rfl (if_pos hlive')

theorem ends_refLos {src e : Nat} (hlive : clkLive s = true) (he : entOfSource s src = some e) :
    Ends (.refLos c src) c s (fun u => reselect (loseEnt e (if src = 13 then setF fETH_STAT_PTPLOCK 0 u else u))) := by
  refine ends_of_run (op := fun _ => _) rfl ((if_pos hlive).trans ?_)
  have he' : entOfSource (begin_ c s) src = some e := he
  rw [he']

theorem ends_ppsBad {e : Fin 16} (hlive : clkLive s = true) (hact : acting s e = true) (hpps : isPps s e = true) :
    Ends (.ppsBad c e) c s (fun u => send 2 e 4 9 0 (badEdge e u)) :=
  ends_of_run (op := fun _ => _) rfl (if_pos (Bool.and_eq_true_iff.2 ⟨Bool.and_eq_true_iff.2 ⟨hlive, hact⟩, hpps⟩))

theorem ends_clockLocked (hlive : clkLive s = true) (hst : clkState s = kLOCKING) :
    Ends (.clockLocked c) c s (setF fCLK_STAT_STATE kLOCKED) :=
  ends_of_run (op := fun _ => _) rfl (if_pos (Bool.and_eq_true_iff.2 ⟨hlive, beq_iff_eq.2 hst⟩))

theorem clkState_unlock (s : State) : clkState (unlock s) = kLOCKING := by
  rw [unlock, clkState_send, clkState, getF_setF_self]
  rfl

theorem ends_unlock (hlive : clkLive s = true) (hst : clkState s = kLOCKED) : Ends (.unlock c) c s unlock :=
  ends_of_run (op := fun _ => _) rfl (if_pos (Bool.and_eq_true_iff.2 ⟨hlive, beq_iff_eq.2 hst⟩))

theorem endsMem_bankCopy (hr : Running s) : EndsMem (.bankCopy c) c s (fun u => setMemWord bankAddr (getF u fCLK_BANK_BANK) u) :=
  endsMem_of_runMem (op := ifRunning _) rfl (ifRunning_run (running_begin hr c) _)

/-- A steered clock that is left alone banks, and keeps its selection. -/
def openEnd (s : State) : State := setF fCLK_STAT_SELV (getF s fCLK_STAT_SELV) (enterBanked (send 2 0 4 11 0 s))

theorem execOpenTimeout_eq (c : Nat) (s : State) :
    execOpenTimeout c s = run c (fun u => if clkLive u && clkState u == kOPEN then openEnd u else u) s := rfl

theorem clkState_openEnd (s : State) : clkState (openEnd s) = kBANKED := by
  rw [openEnd, clkState_setF (by decide), clkState_enterBanked]

theorem queued_openEnd {s : State} (hr : Room 2 s) : Queued 2 0 4 11 0 (openEnd s) :=
  queued_congr (kiln_setF _ _ _) (queued_enterBanked (send_queued hr 0 4 11 0))

theorem ends_openTimeout (hlive : clkLive s = true) (hst : clkState s = kOPEN) : Ends (.openTimeout c) c s openEnd :=
  ends_of_run (execOpenTimeout_eq c s) (if_pos (Bool.and_eq_true_iff.2 ⟨hlive, beq_iff_eq.2 hst⟩))

theorem ends_alignDone (hlive : clkLive s = true) : Ends (.alignDone c) c s alignDone := by
  have hlive' : clkLive (begin_ c s) = true := hlive
  exact ends_of_run (op := fun u => if clkLive u then alignDone u else u) rfl (if_pos hlive')

theorem ends_rootUnlock (hr : Running s) (hlock : getF s fCLK_STAT_ROOTLOCK = 1) :
    Ends (.rootUnlock c) c s (fun u => send 2 0 4 14 0 (setF fCLK_STAT_ROOTLOCK 0 u)) :=
  ends_of_event_eq (op := fun _ => _) hr rfl (if_pos hlock)

end

/-- Settles O42: each event by its effect, and what the effect makes of the clock's state, its entries and the Kiln's queue. -/
theorem clockEventsComplete : Obligations.ClockEventsComplete := by
  refine ⟨?update, ?refLos, ?lose, ?ppsBad, ?locked, ?unlock, ?bankCopy, ?openTimeout, ?alignDone, ?rootUnlock, ?rootLock⟩
  case update =>
    intro c ms s hlive
    exact ends_clockUpdate ms hlive
  case refLos =>
    intro c src e s hlive he
    exact ends_refLos hlive he
  case lose =>
    intro e s hoff hnosig hsel hroom
    rw [loseEnt_other hoff hnosig hsel, entState_send, entState_lostEnt, ent_send, good_lostEnt]
    exact ⟨rfl, send_queued (room_congr (kiln_lostEnt e s) hroom) e 4 2 0, rfl⟩
  case ppsBad =>
    intro c e s hlive hact hpps hroom
    refine ⟨_, ends_ppsBad hlive hact hpps, ?_, ?_⟩
    · exact send_queued (room_congr (s := begin_ c s) (kiln_badEdge e _) hroom) e 4 9 0
    · have hent : ent (after s (send 2 e 4 9 0 (badEdge e (begin_ c s)))) e = ent (badEdge e (begin_ c s)) e := ent_send ..
      rw [hent]
      exact ent_badEdge e (begin_ c s)
  case locked =>
    intro c s hlive hst
    exact ends_clockLocked hlive hst
  case unlock =>
    intro c s hlive hst hroom
    refine ⟨_, ends_unlock hlive hst, ?_, ?_⟩
    · exact clkState_unlock (begin_ c s)
    · exact send_queued (room_congr (t := setF fCLK_STAT_STATE kLOCKING (begin_ c s)) rfl hroom) (getF s fCLK_STAT_SEL) 4 8 0
  case bankCopy =>
    intro c s hr hm
    have hform : MemForm (setMemWord bankAddr (getF s fCLK_BANK_BANK) (begin_ c s)) := memForm_setMemWord _ _ hm
    refine ⟨_, endsMem_bankCopy hr, ?_, fun a ha => ?_⟩
    · exact (memWord_congr (mem_afterMem hform) bankAddr).trans (memWord_setMemWord_nat _ _ _)
    · exact (memByte_congr (mem_afterMem hform) a).trans (memByte_setMemWord_out ha _ _)
  case openTimeout =>
    intro c s hlive hst hroom
    refine ⟨_, ends_openTimeout hlive hst, ?_, ?_⟩
    · exact clkState_openEnd (begin_ c s)
    · exact queued_openEnd (s := begin_ c s) hroom
  case alignDone =>
    intro c e s hlive hsel halign
    refine ⟨ends_alignDone hlive, _, ends_alignDone hlive, ?_⟩
    rw [alignDone_aligning (s := begin_ c s) hsel halign]
    exact ⟨aligning_aligned e _, phase_aligned e _, ent_aligned e _, stopped_completeAligns _⟩
  case rootUnlock =>
    intro c s hr hlock hroom
    refine ⟨_, ends_rootUnlock hr hlock, ?_, ?_⟩
    · rw [getF_after, getF_send (by decide), getF_setF_self, Nat.zero_mod]
    · exact send_queued (room_congr (t := setF fCLK_STAT_ROOTLOCK 0 (begin_ c s)) rfl hroom) 0 4 14 0
  case rootLock =>
    intro c s hr
    exact ends_of_event (op := setF fCLK_STAT_ROOTLOCK 1) hr rfl

end Sys2Proof.Machine
end

section
/-! What events of the Clock Unit, of the supplies, the sensors and the debug port leave (R281 to R303, R348, R360, R368). -/
namespace Sys2Proof.Machine

open Sys2Proof

/-! ## Operations that families of events share -/

section
variable {part : State → State → State} (hp : EventPart part) {units : List Nat}
include hp

/-- What a completion changes, where the family may change it. -/
theorem leaves_of_finish {s t u : State} (h : Leaves part units s t) (hfin : SameButFinish t u) (hpart : u = part t u) (h10 : 10 ∈ units) :
    Leaves part units s u := by
  obtain ⟨hu, hregs⟩ := hfin
  refine leaves_trans hp h ⟨hpart, by rw [OnlySends, hu], fun f hf => hregs f fun hkey => hf ?_⟩
  rw [hkey]
  exact h10

theorem leaves_when {s t : State} (h : Leaves part units s t) (b : Bool) {f : State → State}
    (hf : ∀ u, Leaves part units u (f u)) : Leaves part units s (when_ b f t) := by
  unfold when_
  split
  · exact leaves_trans hp h (hf t)
  · exact h

/-- What an operation run at a cycle leaves. -/
theorem leaves_run {i : Instr} {c : Nat} {op : State → State} {s t : State} (ht : exec i s = .next t) (hexec : exec i s = run c op s)
    (hop : ∀ u, Leaves part units u (op u)) : Leaves part units s t := by
  have hrun : Leaves part units s (op (begin_ c s)) :=
    leaves_trans hp (leaves_of_part (t := begin_ c s) (hp.begin_ c s).symm rfl rfl) (hop _)
  have hafter : after s (op (begin_ c s)) = op (begin_ c s) := by rw [hrun.1, hp.after]
  have hnext : t = op (begin_ c s) := by
    rw [hexec, run_eq, hafter] at ht
    exact (Host.Outcome.next.inj ht).symm
  rw [hnext]
  exact hrun

end

theorem leaves_ite {part : State → State → State} {units : List Nat} {p : Prop} [Decidable p] {s t u : State}
    (ht : Leaves part units s t) (hu : Leaves part units s u) : Leaves part units s (if p then t else u) := by
  split
  · exact ht
  · exact hu

/-! ## The Clock Unit -/

/-- The part of the state that events of the Clock Unit may change. -/
def clockPart (s t : State) : State :=
  { s with cycle := t.cycle, wire := t.wire, fresh := t.fresh, free := t.free, regs := t.regs, kiln := t.kiln, ents := t.ents, clk := t.clk,
           chans := t.chans, ops := t.ops, macs := t.macs }

theorem eventPart_clock : EventPart clockPart where
  self _ := rfl
  trans _ _ _ := rfl
  regs _ _ := rfl
  kiln _ _ := rfl
  begin_ _ _ := rfl
  after _ _ := rfl

/-- Only what events of the Clock Unit may change has changed: of the registers those of the Kiln, of CLK, of the trunk lanes and of ETH. -/
def ClockLeaves (s t : State) : Prop := Leaves clockPart [1, 2, 9, 10] s t

theorem clockLeaves_refl (s : State) : ClockLeaves s s := leaves_refl eventPart_clock s

/-- Fields of the Clock Unit's registers lie in unit 2. -/
theorem unit_clk {f : Fld} (hlo : 0x40020000 * 32 ≤ f.key) (hhi : f.key < 0x40030000 * 32) : unitOfAddr (f.key / 32) ∈ [1, 2, 9, 10] := by
  have h2 : unitOfAddr (f.key / 32) = 2 := by
    unfold unitOfAddr
    omega
  simp [h2]

section
variable {s t : State} (h : ClockLeaves s t)
include h

theorem clockLeaves_trans {u : State} (h' : ClockLeaves t u) : ClockLeaves s u := leaves_trans eventPart_clock h h'

theorem clockLeaves_setF {f : Fld} (hf : unitOfAddr (f.key / 32) ∈ [1, 2, 9, 10]) (v : Nat) : ClockLeaves s (setF f v t) :=
  leaves_setF eventPart_clock h hf v

theorem clockLeaves_setFI {f : Fld} (hf : unitOfAddr (f.key / 32) ∈ [1, 2, 9, 10]) (v : Int) : ClockLeaves s (setFI f v t) :=
  clockLeaves_setF h hf _

theorem clockLeaves_setEntState {e : Nat} (he : e < 16) (v : Nat) : ClockLeaves s (setEntState e v t) :=
  clockLeaves_setF h (unit_clk (by simp only [entKey]; omega) (by simp only [entKey]; omega)) v

theorem clockLeaves_bump {f : Fld} (hf : unitOfAddr (f.key / 32) ∈ [1, 2, 9, 10]) : ClockLeaves s (bump f t) := clockLeaves_setF h hf _

theorem clockLeaves_setEnt (e : Nat) (q : ClkEnt) : ClockLeaves s (setEnt e q t) := clockLeaves_trans h (leaves_of_part rfl rfl rfl)

theorem clockLeaves_withClk (k : ClkSt) : ClockLeaves s { t with clk := k } := clockLeaves_trans h (leaves_of_part rfl rfl rfl)

theorem clockLeaves_useFree : ClockLeaves s (useFree t) := clockLeaves_trans h (leaves_of_part rfl rfl rfl)

theorem clockLeaves_send (inst cls kind ctx : Nat) : ClockLeaves s (send 2 inst cls kind ctx t) :=
  leaves_send eventPart_clock h (by decide) 2 inst cls kind ctx

theorem clockLeaves_finish (ch : Nat) (hd : Word) (st : Nat) (res : List Byte) : ClockLeaves s (finish ch hd st res t) := by
  have hfin := sameButFinish_finish ch hd st res t
  refine leaves_of_finish eventPart_clock h hfin ?_ (by decide)
  rw [hfin.1]
  rfl

theorem clockLeaves_failAlign : ClockLeaves s (failAlign t) := by
  rw [failAlign]
  refine leaves_ite h (leaves_foldState eventPart_clock (clockLeaves_setF h (by decide) 0) fun o _ u => ?_)
  split
  · exact clockLeaves_finish (clockLeaves_refl u) _ _ _ _
  · exact clockLeaves_refl u

theorem clockLeaves_setDco (v : Int) : ClockLeaves s (setDco v t) :=
  leaves_when eventPart_clock (clockLeaves_setFI h (by decide) _) _ fun u => clockLeaves_send (clockLeaves_refl u) 0 4 10 0

theorem clockLeaves_enterBanked : ClockLeaves s (enterBanked t) := by
  have hbanked : ClockLeaves s (setF fCLK_STAT_STATE kBANKED (setFI fCLK_FREQ_FREQ (if 10 ≤ t.clk.n then bankWord t else wordBefore t) (failAlign t))) :=
    clockLeaves_setF (clockLeaves_setFI (clockLeaves_failAlign h) (by decide) _) (by decide) _
  exact clockLeaves_send (clockLeaves_withClk (clockLeaves_setF hbanked (by decide) 0) _) 0 4 13 0

theorem clockLeaves_switchTo (e : Nat) : ClockLeaves s (switchTo e t) := by
  have hent (q : ClkEnt) : ClockLeaves s (setFI fCLK_PHERR_PHERR 0 (setEnt e q (failAlign t))) :=
    clockLeaves_setFI (clockLeaves_setEnt (clockLeaves_failAlign h) e q) (by decide) 0
  have hsel (q : ClkEnt) (st : Nat) : ClockLeaves s (setF fCLK_STAT_SELV 1 (setF fCLK_STAT_SEL e (setF fCLK_STAT_STATE st
      (setFI fCLK_PHERR_PHERR 0 (setEnt e q (failAlign t)))))) :=
    clockLeaves_setF (clockLeaves_setF (clockLeaves_setF (hent q) (by decide) _) (by decide) _) (by decide) 1
  rw [switchTo]
  exact clockLeaves_send (clockLeaves_bump (clockLeaves_withClk (clockLeaves_setFI (hsel _ _) (by decide) _) _) (by decide)) e 4 3 0

theorem clockLeaves_reselect : ClockLeaves s (reselect t) := by
  rw [reselect]
  refine leaves_ite h ?_
  split
  · exact leaves_ite h (clockLeaves_switchTo h _)
  · exact leaves_ite (clockLeaves_enterBanked h) h

theorem clockLeaves_lostEnt {e : Nat} (he : e < 16) : ClockLeaves s (lostEnt e t) :=
  clockLeaves_bump (clockLeaves_setEntState (clockLeaves_setEnt h _ _) he _) (by decide)

theorem clockLeaves_loseEnt {e : Nat} (he : e < 16) : ClockLeaves s (loseEnt e t) := by
  rw [loseEnt]
  refine leaves_ite h (leaves_when eventPart_clock (leaves_when eventPart_clock ?_ _ fun u => ?_) _ fun u => ?_)
  · exact clockLeaves_send (clockLeaves_lostEnt h he) _ _ _ _
  · exact clockLeaves_send (clockLeaves_refl u) _ _ _ _
  · exact clockLeaves_enterBanked (clockLeaves_refl u)

/-! ### CLOCK_UPDATE (R280, R282, R284, R285, R289, R291) -/

theorem clockLeaves_unlock : ClockLeaves s (unlock t) := clockLeaves_send (clockLeaves_setF h (by decide) _) _ _ _ _

theorem clockLeaves_checkLock : ClockLeaves s (checkLock t) := by
  rw [checkLock]
  split
  · exact leaves_ite (clockLeaves_unlock h) h
  · exact h

theorem clockLeaves_followLoop : ClockLeaves s (followLoop t) := by
  rw [followLoop]
  split
  · exact h
  · exact leaves_ite (clockLeaves_setDco h _) (leaves_ite (clockLeaves_useFree (clockLeaves_setDco h _)) h)

theorem clockLeaves_showPhase : ClockLeaves s (showPhase t) := by
  rw [showPhase]
  split
  · exact leaves_ite (clockLeaves_setEnt (clockLeaves_setFI h (by decide) _) _ _)
      (clockLeaves_setFI (clockLeaves_setFI h (by decide) _) (by decide) _)
  · exact clockLeaves_setFI h (by decide) 0

theorem clockLeaves_averageBank : ClockLeaves s (averageBank t) := by
  rw [averageBank]
  exact leaves_ite (clockLeaves_withClk (clockLeaves_setF (clockLeaves_setFI h (by decide) _) (by decide) _) _) h

theorem clockLeaves_showPtp (ms : List ClkMeas) : ClockLeaves s (showPtp ms t) := by
  rw [showPtp]
  split
  · exact clockLeaves_setF h (by decide) _
  · exact h

theorem clockLeaves_disagree : ClockLeaves s (disagree t) := by
  rw [disagree]
  refine clockLeaves_setF (leaves_foldState eventPart_clock h fun j _ u => ?_) (by decide) _
  refine leaves_foldState eventPart_clock (clockLeaves_setEnt (clockLeaves_refl u) _ _) fun _ _ v => ?_
  exact clockLeaves_send (clockLeaves_bump (clockLeaves_refl v) (by decide)) _ _ _ _

theorem clockLeaves_qualify {e : Nat} (he : e < 16) (f : Int) : ClockLeaves s (qualify e f t) := by
  have hent (q : ClkEnt) : ClockLeaves s (setEnt e q t) := clockLeaves_setEnt h e q
  have hwtr {u : State} (hu : ClockLeaves s u) : ClockLeaves s
      (if getF u (fCLK_WTR_WTR e) = 0 then setEntState e eQUAL u else setEntState e eWTR (setEnt e { ent u e with wtr := 0 } u)) :=
    leaves_ite (clockLeaves_setEntState hu he _) (clockLeaves_setEntState (clockLeaves_setEnt hu _ _) he _)
  rw [qualify]
  refine leaves_ite ?disqualified (leaves_ite ?noSignal (leaves_ite ?measure (leaves_ite ?wtr (leaves_ite ?qual (leaves_ite ?soft
    (leaves_ite ?demoted (leaves_ite ?disq h)))))))
  case disqualified => exact clockLeaves_send (clockLeaves_bump (clockLeaves_setEntState h he _) (by decide)) _ _ _ _
  case noSignal => exact clockLeaves_setEntState (hent _) he _
  case measure =>
    exact leaves_ite (hent _) (leaves_ite (hent _) (leaves_ite (hwtr (hent _)) (clockLeaves_setEntState (hent _) he _)))
  case wtr => exact leaves_ite (clockLeaves_setEntState (hent _) he _) (leaves_ite (hent _) (clockLeaves_setEntState h he _))
  case qual => exact leaves_ite (clockLeaves_send (clockLeaves_setEntState (hent _) he _) _ _ _ _) h
  case soft =>
    exact leaves_ite (clockLeaves_setEntState h he _) (leaves_ite (hent _)
      (clockLeaves_send (clockLeaves_bump (clockLeaves_setEntState h he _) (by decide)) _ _ _ _))
  case demoted => exact leaves_ite (hwtr h) h
  case disq => exact leaves_ite (clockLeaves_setEntState (hent _) he _) h

theorem clockLeaves_updateEnt (ms : List ClkMeas) {e : Nat} (he : e < 16) : ClockLeaves s (updateEnt ms e t) := by
  have hfreq {f : Fld} (hf : f = fCLK_STS_FREQ e) : unitOfAddr (f.key / 32) ∈ [1, 2, 9, 10] := by
    have hkey : f.key = 0x4002010C * 32 + 512 * e + 8 := by
      rw [hf]
      simp only [Fld.key, fieldKey, fCLK_STS_FREQ, rCLK_STS]
      omega
    exact unit_clk (by omega) (by omega)
  have hon : ClockLeaves s (if entState t e = eOFF then setEntState e eNOSIG t else t) := leaves_ite (clockLeaves_setEntState h he _) h
  rw [updateEnt]
  refine leaves_ite (leaves_ite h (clockLeaves_setEntState h he _)) ?_
  dsimp only
  split
  · exact hon
  · exact leaves_ite (clockLeaves_loseEnt hon he) (clockLeaves_qualify (clockLeaves_setFI (clockLeaves_setEnt hon _ _) (hfreq rfl) _) he _)

theorem clockLeaves_clockUpdate (ms : List ClkMeas) : ClockLeaves s (clockUpdate ms t) := by
  have hents {u : State} (hu : ClockLeaves s u) : ClockLeaves s (foldState (updateEnt ms) (List.range 16) u) :=
    leaves_foldState eventPart_clock hu fun e he v => clockLeaves_updateEnt (clockLeaves_refl v) ms (List.mem_range.1 he)
  have hsel {u : State} (hu : ClockLeaves s u) : ClockLeaves s (averageBank (followLoop (checkLock (showPhase (reselect (disagree u)))))) :=
    clockLeaves_averageBank (clockLeaves_followLoop (clockLeaves_checkLock (clockLeaves_showPhase (clockLeaves_reselect
      (clockLeaves_disagree hu)))))
  exact clockLeaves_withClk (hsel (hents (clockLeaves_showPtp (clockLeaves_withClk h _) ms))) _

/-! ### The end of an alignment (R299) -/

theorem clockLeaves_aligned (e : Nat) : ClockLeaves s (aligned e t) :=
  clockLeaves_setFI (clockLeaves_setF (clockLeaves_setEnt h _ _) (by decide) 0) (by decide) 0

theorem clockLeaves_placeInstant (e : Nat) : ClockLeaves s (placeInstant e t) := by
  have hwait {l : Nat} (hl : alignKind t e = .lane l) : unitOfAddr ((fTL_WAIT_WAIT l).key / 32) ∈ [1, 2, 9, 10] := by
    have hl8 : l < 8 := by
      unfold alignKind at hl
      grind
    have h9 : unitOfAddr ((fTL_WAIT_WAIT l).key / 32) = 9 := by
      rw [waitKey]
      unfold unitOfAddr
      omega
    simp [h9]
  rw [placeInstant]
  split
  · rename_i l hl
    exact clockLeaves_setF h (hwait hl) 0
  · exact leaves_ite (clockLeaves_setF h (by decide) _) (clockLeaves_useFree (clockLeaves_setF h (by decide) _))
  · exact h

theorem clockLeaves_completeAligns : ClockLeaves s (completeAligns t) := by
  refine leaves_foldState eventPart_clock h fun o _ u => ?_
  rw [completeAlign]
  split
  · exact clockLeaves_finish (clockLeaves_refl u) _ _ _ _
  · exact clockLeaves_refl u

theorem clockLeaves_alignDone : ClockLeaves s (alignDone t) := by
  by_cases halign : getF t fCLK_STAT_ALIGNING = 1
  · cases hsel : selected t with
    | some e =>
      rw [alignDone_aligning hsel halign]
      exact clockLeaves_completeAligns (clockLeaves_placeInstant (clockLeaves_aligned h e) e)
    | none =>
      rw [alignDone, hsel]
      exact h
  · have hidle : (getF t fCLK_STAT_ALIGNING == 1) = false := beq_eq_false_iff_ne.2 halign
    rw [alignDone, hidle]
    split
    · contradiction
    · exact h

theorem clockLeaves_badEdge (e : Nat) : ClockLeaves s (badEdge e t) := clockLeaves_showPhase (clockLeaves_setEnt h _ _)

theorem clockLeaves_openEnd : ClockLeaves s (openEnd t) :=
  clockLeaves_setF (clockLeaves_enterBanked (clockLeaves_send h 0 4 11 0)) (by decide) _

end

/-- What an event of the Clock Unit leaves, from what its effect leaves. -/
theorem clockLeaves_run {i : Instr} {c : Nat} {g : State → Bool} {op : State → State} {s t : State} (ht : exec i s = .next t)
    (hexec : exec i s = run c (fun u => if g u then op u else u) s) (hop : ∀ u, ClockLeaves u (op u)) : ClockLeaves s t :=
  leaves_run eventPart_clock ht hexec fun u => leaves_ite (hop u) (clockLeaves_refl u)

/-- A lost source is a lost entry, and the selection follows (R281, R284). -/
def loseSource (src : Nat) (s : State) : State :=
  match entOfSource s src with
  | some e => reselect (loseEnt e (if src = 13 then setF fETH_STAT_PTPLOCK 0 s else s))
  | none => s

theorem clockLeaves_loseSource (src : Nat) (s : State) : ClockLeaves s (loseSource src s) := by
  have hptp : ClockLeaves s (if src = 13 then setF fETH_STAT_PTPLOCK 0 s else s) :=
    leaves_ite (clockLeaves_setF (clockLeaves_refl s) (by decide) 0) (clockLeaves_refl s)
  rw [loseSource]
  split
  · rename_i e he
    have he16 : e < 16 := List.mem_range.1 (List.mem_of_find?_eq_some he)
    exact clockLeaves_reselect (clockLeaves_loseEnt hptp he16)
  · exact clockLeaves_refl s

theorem execRefLos_eq (c src : Nat) (s : State) : execRefLos c src s = run c (fun u => if clkLive u then loseSource src u else u) s := rfl

/-- The Clock Unit's events, each by the operations it is made of. -/
theorem clockLeaves_event {i : Instr} {s t : State} (hi : clockEvent i = true) (ht : exec i s = .next t) : ClockLeaves s t := by
  have hrefl := clockLeaves_refl
  cases i with
  | clockUpdate c ms =>
    exact clockLeaves_run (g := clkLive) (op := clockUpdate ms) ht rfl fun u => clockLeaves_clockUpdate (hrefl u) ms
  | refLos c src => exact clockLeaves_run ht (execRefLos_eq c src s) (clockLeaves_loseSource src)
  | ppsBad c e =>
    exact clockLeaves_run (g := fun u => clkLive u && acting u e && isPps u e) (op := fun u => send 2 e 4 9 0 (badEdge e u)) ht rfl
      fun u => clockLeaves_send (clockLeaves_badEdge (hrefl u) e) _ _ _ _
  | clockLocked c =>
    exact clockLeaves_run (g := fun u => clkLive u && clkState u == kLOCKING) (op := setF fCLK_STAT_STATE kLOCKED) ht rfl
      fun u => clockLeaves_setF (hrefl u) (by decide) _
  | unlock c =>
    exact clockLeaves_run (g := fun u => clkLive u && clkState u == kLOCKED) (op := unlock) ht rfl fun u => clockLeaves_unlock (hrefl u)
  | openTimeout c => exact clockLeaves_run ht (execOpenTimeout_eq c s) fun u => clockLeaves_openEnd (hrefl u)
  | alignDone c => exact clockLeaves_run (g := clkLive) (op := alignDone) ht rfl fun u => clockLeaves_alignDone (hrefl u)
  | rootUnlock c =>
    refine leaves_event eventPart_clock ht (op := fun _ => _) rfl fun u => leaves_ite ?_ (hrefl u)
    exact clockLeaves_send (clockLeaves_setF (hrefl u) (by decide) 0) _ _ _ _
  | rootLock c =>
    exact leaves_event eventPart_clock ht (op := setF fCLK_STAT_ROOTLOCK 1) rfl fun u => clockLeaves_setF (hrefl u) (by decide) 1
  | _ => cases hi

/-! ## Supplies, sensors and the debug port -/

/-- The part of the state that events at the supplies, the sensors and the debug port may change. -/
def supplyPart (s t : State) : State :=
  { s with cycle := t.cycle, wire := t.wire, fresh := t.fresh, regs := t.regs, kiln := t.kiln, pwr := t.pwr, lock := t.lock }

theorem eventPart_supply : EventPart supplyPart where
  self _ := rfl
  trans _ _ _ := rfl
  regs _ _ := rfl
  kiln _ _ := rfl
  begin_ _ _ := rfl
  after _ _ := rfl

/-- Only what those events may change has changed: of the registers those of the Kiln, of FAB and of SYS. -/
def SupplyLeaves (s t : State) : Prop := Leaves supplyPart [1, 15, 16] s t

theorem supplyLeaves_refl (s : State) : SupplyLeaves s s := leaves_refl eventPart_supply s

section
variable {s t : State} (h : SupplyLeaves s t)
include h

theorem supplyLeaves_setF {f : Fld} (hf : unitOfAddr (f.key / 32) ∈ [1, 15, 16]) (v : Nat) : SupplyLeaves s (setF f v t) :=
  leaves_setF eventPart_supply h hf v

theorem supplyLeaves_withPwr (p : PwrSt) : SupplyLeaves s { t with pwr := p } :=
  leaves_trans eventPart_supply h (leaves_of_part rfl rfl rfl)

theorem supplyLeaves_withLock (l : Option (Master × Nat)) : SupplyLeaves s { t with lock := l } :=
  leaves_trans eventPart_supply h (leaves_of_part rfl rfl rfl)

theorem supplyLeaves_send (src inst cls kind ctx : Nat) : SupplyLeaves s (send src inst cls kind ctx t) :=
  leaves_send eventPart_supply h (by decide) src inst cls kind ctx

theorem supplyLeaves_showTj (j : Int) : SupplyLeaves s (showTj j t) :=
  supplyLeaves_setF (supplyLeaves_setF h (by decide) _) (by decide) _

theorem supplyLeaves_tjWarn (j : Int) : SupplyLeaves s (tjWarn j t) := by
  have hshown := supplyLeaves_showTj h j
  exact leaves_ite (supplyLeaves_send (supplyLeaves_withPwr hshown _) _ _ _ _ _) (leaves_ite (supplyLeaves_withPwr hshown _) hshown)

theorem supplyLeaves_tjCrit (j : Int) : SupplyLeaves s (tjCrit j t) := by
  have hshown := supplyLeaves_showTj h j
  exact leaves_ite (supplyLeaves_send (supplyLeaves_withPwr hshown _) _ _ _ _ _) (leaves_ite (supplyLeaves_withPwr hshown _) hshown)

theorem supplyLeaves_cutLock (p : Master → Bool) : SupplyLeaves s (cutLock p t) := by
  rw [cutLock]
  split
  · exact leaves_ite (supplyLeaves_send (supplyLeaves_setF (supplyLeaves_withLock h none) (by decide) _) _ _ _ _ _) h
  · exact h

end

theorem supplyLeaves_event {i : Instr} {s t : State} (hi : supplyEvent i = true) (ht : exec i s = .next t) : SupplyLeaves s t := by
  have hrefl := supplyLeaves_refl
  cases i with
  | vkeepLow c =>
    exact leaves_event eventPart_supply ht (op := vkeepLow) rfl fun u =>
      supplyLeaves_send (supplyLeaves_setF (hrefl u) (by decide) _) _ _ _ _ _
  | tjWarn c j => exact leaves_event eventPart_supply ht (op := tjWarn j) rfl fun u => supplyLeaves_tjWarn (hrefl u) j
  | tjCrit c j => exact leaves_event eventPart_supply ht (op := tjCrit j) rfl fun u => supplyLeaves_tjCrit (hrefl u) j
  | helperHang c h =>
    exact leaves_event eventPart_supply ht (op := helperHang h) rfl fun u => leaves_ite (hrefl u) (supplyLeaves_send (hrefl u) _ _ _ _ _)
  | tapReset c => exact leaves_event eventPart_supply ht (op := cutLock _) rfl fun u => supplyLeaves_cutLock (hrefl u) _
  | _ => cases hi

/-- Settles O60: every event by the operations it is made of, each of which changes only its own part of the state. -/
theorem clockAndSupplyEventsLeave : Obligations.ClockAndSupplyEventsLeave :=
  ⟨fun _ _ _ hi ht => clockLeaves_event hi ht, fun _ _ _ hi ht => supplyLeaves_event hi ht⟩

end Sys2Proof.Machine
end

section
/-! What events on trunk and twin lanes, at the MACs and with the referee leave (R229 to R255, R262 to R275, R321 to R326). -/
namespace Sys2Proof.Machine

open Sys2Proof

/-! ## Lanes -/

/-- The part of the state that events on lanes may change. -/
def lanePart (s t : State) : State :=
  { s with cycle := t.cycle, wire := t.wire, fresh := t.fresh, regs := t.regs, kiln := t.kiln, lanes := t.lanes, msgs := t.msgs,
           chans := t.chans, ops := t.ops, macs := t.macs }

theorem eventPart_lane : EventPart lanePart where
  self _ := rfl
  trans _ _ _ := rfl
  regs _ _ := rfl
  kiln _ _ := rfl
  begin_ _ _ := rfl
  after _ _ := rfl

/-- Only what events on lanes may change has changed: of the registers those of the Kiln, of TRUNK, of ETH and of TWIN. -/
def LaneLeaves (s t : State) : Prop := Leaves lanePart [1, 9, 10, 13] s t

theorem laneLeaves_refl (s : State) : LaneLeaves s s := leaves_refl eventPart_lane s

/-- Fields of the trunk's registers lie in unit 9. -/
theorem unit_trunk {f : Fld} (hlo : 0x40090000 * 32 ≤ f.key) (hhi : f.key < 0x400A0000 * 32) : unitOfAddr (f.key / 32) ∈ [1, 9, 10, 13] := by
  have h9 : unitOfAddr (f.key / 32) = 9 := by
    unfold unitOfAddr
    omega
  simp [h9]

/-- Where the LOCK field of a trunk lane stands. -/
theorem laneLockKey (l : Nat) : (fTL_STS_LOCK l).key = 0x40090104 * 32 + 1024 * l + 7 := by
  simp only [Fld.key, fieldKey, fTL_STS_LOCK, rTL_STS]
  omega

/-- The other lane of a pair is a trunk lane too. -/
theorem partner_lt {l : Nat} (hl : l < 8) : partner l < 8 := by
  unfold partner
  omega

/-- What LOSS_OF_LOCK does to a live lane (R231, R239, R247). -/
def unlockLane (l : Nat) (s : State) : State :=
  if decide (lEQ ≤ laneState s l) && decide (laneState s l ≤ lCAPS) then relockLane l s
  else if laneState s l = lUP then (if l < 8 then loseTrunk l (setLaneLock l false s) else s)
  else if laneState s l = lTRAIN then setLaneLock l false (setLane l { lane s l with commas := 0 } s)
  else s

theorem execLossOfLock_eq (c l : Nat) (s : State) :
    execLossOfLock c l s = run c (fun u => if !laneLive u l then u else unlockLane l u) s := rfl

/-- CAPS goes out again, and its first delay is reported (R239, R310). -/
def capsAgain (l : Nat) (s : State) : State :=
  if (lane s l).capsShard then resendCaps l s
  else if l < 8 then send 9 l 3 11 0 (resendCaps l s)
  else if 2458 < (lane s l).flight then send 13 (l - 8) 10 7 0 (resendCaps l s)
  else send 13 (l - 8) 3 11 0 (resendCaps l s)

theorem execCapsResend_eq (c l : Nat) (s : State) :
    execCapsResend c l s = run c (fun u => if laneLive u l && laneState u l == lCAPS then capsAgain l u else u) s := rfl

/-- A ranging that is not answered in RANGE begins bring-up anew, else its command fails (R239, R255). -/
def endRanging (l : Nat) (s : State) : State :=
  if laneState (failRanging l s) l = lRANGE then trainLane l (failRanging l s)
  else finishAll (isRangeOf l) stFAILED [] (failRanging l s)

theorem execRangeTimeout_eq (c l : Nat) (s : State) :
    execRangeTimeout c l s = run c (fun u => if laneLive u l && (lane u l).ranging then endRanging l u else u) s := rfl

section
variable {s t : State} (h : LaneLeaves s t)
include h

theorem laneLeaves_trans {u : State} (h' : LaneLeaves t u) : LaneLeaves s u := leaves_trans eventPart_lane h h'

theorem laneLeaves_setF {f : Fld} (hf : unitOfAddr (f.key / 32) ∈ [1, 9, 10, 13]) (v : Nat) : LaneLeaves s (setF f v t) :=
  leaves_setF eventPart_lane h hf v

theorem laneLeaves_trunkField {f : Fld} (hlo : 0x40090000 * 32 ≤ f.key) (hhi : f.key < 0x400A0000 * 32) (v : Nat) :
    LaneLeaves s (setF f v t) :=
  laneLeaves_setF h (unit_trunk hlo hhi) v

theorem laneLeaves_setLane (l : Nat) (q : LaneSt) : LaneLeaves s (setLane l q t) := laneLeaves_trans h (leaves_of_part rfl rfl rfl)

theorem laneLeaves_withMsgs (m : List (Nat × List Byte)) : LaneLeaves s { t with msgs := m } :=
  laneLeaves_trans h (leaves_of_part rfl rfl rfl)

theorem laneLeaves_send (src inst cls kind ctx : Nat) : LaneLeaves s (send src inst cls kind ctx t) :=
  leaves_send eventPart_lane h (by decide) src inst cls kind ctx

theorem laneLeaves_finish (ch : Nat) (hd : Word) (st : Nat) (res : List Byte) : LaneLeaves s (finish ch hd st res t) := by
  have hfin := sameButFinish_finish ch hd st res t
  refine leaves_of_finish eventPart_lane h hfin ?_ (by decide)
  rw [hfin.1]
  rfl

theorem laneLeaves_finishAll (p : OpKind → Bool) (st : Nat) (res : List Byte) : LaneLeaves s (finishAll p st res t) :=
  leaves_foldState eventPart_lane h fun _ _ u => laneLeaves_finish (laneLeaves_refl u) _ _ _ _

section
variable {l : Nat} (hl : l < 12)
include hl

theorem laneLeaves_setLaneState (v : Nat) : LaneLeaves s (setLaneState l v t) := by
  have hstate : LaneLeaves s (setF (fTL_STS_STATE l) v t) :=
    laneLeaves_trunkField h (by simp only [laneKeys]; omega) (by simp only [laneKeys]; omega) v
  rw [setLaneState]
  refine leaves_ite ?_ ?_
  · exact laneLeaves_setF (laneLeaves_setF hstate (by decide) _) (by decide) _
  · exact laneLeaves_setF (laneLeaves_setLane h _ _) (by decide) _

theorem laneLeaves_setLaneLock (v : Bool) : LaneLeaves s (setLaneLock l v t) := by
  rw [setLaneLock]
  refine leaves_ite ?_ (laneLeaves_setLane h _ _)
  exact laneLeaves_trunkField h (by simp only [laneLockKey]; omega) (by simp only [laneLockKey]; omega) _

theorem laneLeaves_setCtlef (v : Nat) : LaneLeaves s (setCtlef l v t) := by
  rw [setCtlef]
  refine leaves_ite ?_ (laneLeaves_setLane h _ _)
  exact laneLeaves_trunkField h (by simp only [laneKeys]; omega) (by simp only [laneKeys]; omega) _

theorem laneLeaves_quietLane : LaneLeaves s (quietLane l t) := by
  refine laneLeaves_setLane (leaves_ite ?_ h) _ _
  exact laneLeaves_trunkField (laneLeaves_withMsgs h _) (by simp only [laneKeys]; omega) (by simp only [laneKeys]; omega) _

theorem laneLeaves_trainLane : LaneLeaves s (trainLane l t) :=
  laneLeaves_setLaneState (laneLeaves_finishAll (laneLeaves_quietLane h hl) _ _ _) hl _

theorem laneLeaves_loseTrunk : LaneLeaves s (loseTrunk l t) := by
  refine laneLeaves_trainLane (laneLeaves_send ?_ 9 l 3 9 0) hl
  exact laneLeaves_trunkField h (by simp only [laneKeys]; omega) (by simp only [laneKeys]; omega) _

theorem laneLeaves_searchEnd (errs : List Nat) : LaneLeaves s (searchEnd l errs t) := by
  rw [searchEnd]
  refine leaves_ite (laneLeaves_setLaneState (laneLeaves_setLane (leaves_ite (laneLeaves_setCtlef h hl _) ?_) _ _) hl _) h
  exact leaves_when eventPart_lane (laneLeaves_setCtlef h hl _) _ fun u => laneLeaves_send (laneLeaves_refl u) _ _ _ _ _

theorem laneLeaves_unlockLane : LaneLeaves s (unlockLane l t) := by
  have hunlocked := laneLeaves_setLaneLock h hl false
  refine leaves_ite (laneLeaves_trainLane hunlocked hl) (leaves_ite (leaves_ite (laneLeaves_loseTrunk hunlocked hl) h) (leaves_ite ?_ h))
  exact laneLeaves_setLaneLock (laneLeaves_setLane h _ _) hl false

theorem laneLeaves_endRanging : LaneLeaves s (endRanging l t) := by
  have hfailed : LaneLeaves s (failRanging l t) := laneLeaves_send (laneLeaves_setLane h _ _) _ _ _ _ _
  exact leaves_ite (laneLeaves_trainLane hfailed hl) (laneLeaves_finishAll hfailed _ _ _)

end

theorem laneLeaves_capsAgain (l : Nat) : LaneLeaves s (capsAgain l t) := by
  have hset : LaneLeaves s (resendCaps l t) := laneLeaves_setLane h _ _
  exact leaves_ite hset (leaves_ite (laneLeaves_send hset _ _ _ _ _) (leaves_ite (laneLeaves_send hset _ _ _ _ _)
    (laneLeaves_send hset _ _ _ _ _)))

section
variable {l : Nat} (hl : l < 8)
include hl

theorem laneLeaves_setHigh (v : Nat) : LaneLeaves s (setHigh l v t) := by
  have hpartner := partner_lt hl
  have hown : LaneLeaves s (setF (fTL_CLAIM_HIGH l) v t) :=
    laneLeaves_trunkField h (by simp only [laneKeys]; omega) (by simp only [laneKeys]; omega) v
  refine leaves_ite ?_ hown
  exact laneLeaves_trunkField hown (by simp only [laneKeys]; omega) (by simp only [laneKeys]; omega) v

theorem laneLeaves_setOffs (v : Nat) : LaneLeaves s (setOffs l v t) := by
  have hpartner := partner_lt hl
  have hown : LaneLeaves s (setF (fTL_OFFS_OFFS l) v t) :=
    laneLeaves_trunkField h (by simp only [laneKeys]; omega) (by simp only [laneKeys]; omega) v
  refine leaves_ite ?_ hown
  exact laneLeaves_trunkField hown (by simp only [laneKeys]; omega) (by simp only [laneKeys]; omega) v

theorem laneLeaves_slip (late : Bool) : LaneLeaves s (slip l late t) := by
  refine laneLeaves_send (laneLeaves_trunkField (laneLeaves_setLane (laneLeaves_setOffs h hl _) _ _) ?_ ?_ _) 9 l 3 8 0
  · simp only [laneKeys]
    omega
  · simp only [laneKeys]
    omega

end

theorem laneLeaves_hostResend (l : Nat) : LaneLeaves s (hostResend l t) :=
  leaves_foldState eventPart_lane (laneLeaves_setLane h _ _) fun _ _ u => laneLeaves_finish (laneLeaves_refl u) _ _ _ _

end

theorem laneLeaves_run {i : Instr} {c : Nat} {g : State → Bool} {op : State → State} {s t : State} (ht : exec i s = .next t)
    (hexec : exec i s = run c (fun u => if g u then op u else u) s) (hop : ∀ u, LaneLeaves u (op u)) : LaneLeaves s t :=
  leaves_run eventPart_lane ht hexec fun u => leaves_ite (hop u) (laneLeaves_refl u)

/-- The events on lanes, each by the operations it is made of. -/
theorem laneLeaves_event {i : Instr} {s t : State} (hi : laneEvent i = true) (ht : exec i s = .next t) : LaneLeaves s t := by
  have hrefl := laneLeaves_refl
  cases i with
  | cdrLock c l =>
    exact laneLeaves_run (g := fun u => laneLive u l && laneState u l != lOFF) (op := setLaneLock l true) ht rfl
      fun u => laneLeaves_setLaneLock (hrefl u) l.isLt true
  | lossOfLock c l =>
    exact leaves_run eventPart_lane ht (execLossOfLock_eq c l s) fun u => leaves_ite (hrefl u) (laneLeaves_unlockLane (hrefl u) l.isLt)
  | ctleSearchEnd c l errs =>
    exact leaves_run eventPart_lane ht (op := searchEnd l errs) rfl fun u => laneLeaves_searchEnd (hrefl u) l.isLt errs
  | capsResend c l => exact laneLeaves_run ht (execCapsResend_eq c l s) fun u => laneLeaves_capsAgain (hrefl u) l
  | rangeTimeout c l => exact laneLeaves_run ht (execRangeTimeout_eq c l s) fun u => laneLeaves_endRanging (hrefl u) l.isLt
  | trunkLost c l =>
    exact laneLeaves_run (g := fun u => laneLive u l && laneState u l == lUP) (op := loseTrunk l) ht rfl
      fun u => laneLeaves_loseTrunk (hrefl u) (by omega)
  | trunkSlip c l late =>
    exact laneLeaves_run (g := fun u => laneLive u l && laneState u l == lUP) (op := slip l late) ht rfl
      fun u => laneLeaves_slip (hrefl u) l.isLt late
  | hostMsgResend c l =>
    exact laneLeaves_run (g := fun u => laneLive u l && laneState u l == lUP) (op := hostResend l) ht rfl
      fun u => laneLeaves_hostResend (hrefl u) l
  | trunkHoldExpiry c l =>
    exact laneLeaves_run (g := fun u => laneLive u l && getF u (fTL_STS_HOLD l) == 1 && decide ((lane u l).held < 24)) (op := fadeHeld l)
      ht rfl fun u => laneLeaves_setLane (hrefl u) _ _
  | claimClearTimeout c l =>
    exact laneLeaves_run (g := fun u => laneLive u l) (op := setHigh l 0) ht rfl fun u => laneLeaves_setHigh (hrefl u) l.isLt 0
  | restart c m l =>
    exact leaves_event eventPart_lane ht (op := restartLane l) rfl
      fun u => leaves_ite (laneLeaves_trainLane (hrefl u) (by omega)) (hrefl u)
  | _ => cases hi

/-! ## MACs -/

/-- The part of the state that events at the MACs may change. -/
def macPart (s t : State) : State :=
  { s with cycle := t.cycle, wire := t.wire, fresh := t.fresh, regs := t.regs, kiln := t.kiln, macs := t.macs, streams := t.streams }

theorem eventPart_mac : EventPart macPart where
  self _ := rfl
  trans _ _ _ := rfl
  regs _ _ := rfl
  kiln _ _ := rfl
  begin_ _ _ := rfl
  after _ _ := rfl

/-- Only what events at the MACs may change has changed: of the registers those of the Kiln, of PORT and of ETH. -/
def MacLeaves (s t : State) : Prop := Leaves macPart [1, 8, 10] s t

theorem macLeaves_refl (s : State) : MacLeaves s s := leaves_refl eventPart_mac s

/-- Where the fields of a MAC that its events change stand. -/
theorem macKeys (n : Nat) :
    (fETH_FILL_FILL n).key = 0x400A0118 * 32 + 2048 * n ∧ (fETH_FILL_PEAK n).key = 0x400A0118 * 32 + 2048 * n + 16 ∧
    (fETH_CNT2_PTX n).key = 0x400A0120 * 32 + 2048 * n ∧ (fETH_CNT2_PRX n).key = 0x400A0120 * 32 + 2048 * n + 8 ∧
    (fETH_CNT2_LATE n).key = 0x400A0120 * 32 + 2048 * n + 24 := by
  simp only [Fld.key, fieldKey, fETH_FILL_FILL, fETH_FILL_PEAK, rETH_FILL, fETH_CNT2_PTX, fETH_CNT2_PRX, fETH_CNT2_LATE, rETH_CNT2]
  omega

/-- Fields of the MACs' registers lie in unit 10. -/
theorem unit_eth {f : Fld} (hlo : 0x400A0000 * 32 ≤ f.key) (hhi : f.key < 0x400B0000 * 32) : unitOfAddr (f.key / 32) ∈ [1, 8, 10] := by
  have h10 : unitOfAddr (f.key / 32) = 10 := by
    unfold unitOfAddr
    omega
  simp [h10]

section
variable {s t : State} (h : MacLeaves s t)
include h

theorem macLeaves_setF {f : Fld} (hf : unitOfAddr (f.key / 32) ∈ [1, 8, 10]) (v : Nat) : MacLeaves s (setF f v t) :=
  leaves_setF eventPart_mac h hf v

theorem macLeaves_ethField {f : Fld} (hlo : 0x400A0000 * 32 ≤ f.key) (hhi : f.key < 0x400B0000 * 32) (v : Nat) :
    MacLeaves s (setF f v t) :=
  macLeaves_setF h (unit_eth hlo hhi) v

theorem macLeaves_setMac (n : Nat) (q : MacSt) : MacLeaves s (setMac n q t) := leaves_trans eventPart_mac h (leaves_of_part rfl rfl rfl)

theorem macLeaves_setStream (o : Nat) (x : StreamSt) : MacLeaves s (setStream o x t) :=
  leaves_trans eventPart_mac h (leaves_of_part rfl rfl rfl)

theorem macLeaves_emit (w : Wire) : MacLeaves s (emit w t) := leaves_trans eventPart_mac h (leaves_of_part rfl rfl rfl)

theorem macLeaves_send (src inst cls kind ctx : Nat) : MacLeaves s (send src inst cls kind ctx t) :=
  leaves_send eventPart_mac h (by decide) src inst cls kind ctx

theorem macLeaves_putTx (n : Nat) (i : TxItem) : MacLeaves s (putTx n i t) := by
  have hlpi : MacLeaves s (setMaskBit fETH_STAT_LPI n false t) := macLeaves_setF h (by decide) _
  exact leaves_ite (macLeaves_emit hlpi _) (macLeaves_emit hlpi _)

theorem macLeaves_txSend (n : Nat) (i : TxItem) : MacLeaves s (txSend n i t) :=
  leaves_ite (macLeaves_setMac h _ _) (leaves_ite (macLeaves_putTx h n i) h)

theorem macLeaves_resumeTx (n : Nat) : MacLeaves s (resumeTx n t) :=
  leaves_foldState eventPart_mac (macLeaves_setMac h _ _) fun i _ u => macLeaves_putTx (macLeaves_refl u) n i

section
variable {n : Nat} (hn : n < 2)
include hn

theorem macLeaves_sendPause (quanta : Nat) : MacLeaves s (sendPause n quanta t) :=
  macLeaves_ethField (macLeaves_emit (macLeaves_setF h (by decide) _) _) (by simp only [macKeys]; omega) (by simp only [macKeys]; omega) _

theorem macLeaves_flowRule (fill : Nat) (half : Bool) : MacLeaves s (flowRule n fill half t) :=
  leaves_ite h (leaves_ite (macLeaves_sendPause (macLeaves_setMac h _ _) hn _)
    (leaves_ite (macLeaves_sendPause (macLeaves_setMac h _ _) hn _) (leaves_ite (macLeaves_sendPause h hn _) h)))

theorem macLeaves_fillNow (fill : Nat) : MacLeaves s (fillNow n fill t) := by
  have hfill : MacLeaves s (setF (fETH_FILL_FILL n) (fill / 1024) t) :=
    macLeaves_ethField h (by simp only [macKeys]; omega) (by simp only [macKeys]; omega) _
  exact macLeaves_flowRule (macLeaves_ethField hfill (by simp only [macKeys]; omega) (by simp only [macKeys]; omega) _) hn _ _

theorem macLeaves_takePause (quanta : Nat) : MacLeaves s (takePause n quanta t) := by
  have hcount : MacLeaves s (bump (fETH_CNT2_PRX n) t) :=
    macLeaves_ethField h (by simp only [macKeys]; omega) (by simp only [macKeys]; omega) _
  exact leaves_ite hcount (leaves_ite (macLeaves_resumeTx hcount n) (macLeaves_setMac hcount _ _))

theorem macLeaves_dropLate (k : Nat) : MacLeaves s (dropLate n k t) :=
  macLeaves_ethField (macLeaves_setMac h _ _) (by simp only [macKeys]; omega) (by simp only [macKeys]; omega) _

end

theorem macLeaves_unlockAsrc (o : Nat) : MacLeaves s (unlockAsrc o t) :=
  leaves_foldState eventPart_mac h fun k hk u => by
    have hk64 : k < 64 := List.mem_range.1 (List.mem_filter.1 hk).1
    have h8 : unitOfAddr ((fASRC_FRAC_LOCK k).key / 32) = 8 := by
      simp only [portKeys]
      unfold unitOfAddr
      omega
    exact macLeaves_setF (macLeaves_refl u) (by simp [h8]) 0

theorem macLeaves_underrun (o : Nat) : MacLeaves s (underrun o t) := by
  have hsend : MacLeaves s (send 8 o 3 5 0 (setStream o (starved (stream t o)) t)) :=
    macLeaves_send (macLeaves_setStream h _ _) _ _ _ _ _
  rw [underrun_eq]
  unfold showUnderrun refreshUnderrun
  split
  · split
    · exact hsend
    · exact macLeaves_setF hsend (by decide) _
  · exact hsend

theorem macLeaves_loseStream (o : Nat) : MacLeaves s (loseStream o t) := by
  have hstop : MacLeaves s (stopConverter o t) := leaves_ite (macLeaves_setStream (macLeaves_unlockAsrc h o) _ _) h
  exact leaves_ite (macLeaves_underrun hstop o) (leaves_ite (macLeaves_setStream hstop _ _) hstop)

theorem macLeaves_loseMacLink {n : Nat} (hn : n < 2) : MacLeaves s (loseMacLink n t) := by
  have hdown (q : MacSt) : MacLeaves s (setMaskBit fETH_STAT_LPI n false (setMaskBit fETH_STAT_LINK n false (setMac n q t))) :=
    macLeaves_setF (macLeaves_setF (macLeaves_setMac h n q) (by decide) _) (by decide) _
  refine leaves_ite (leaves_foldState eventPart_mac (macLeaves_fillNow (hdown _) hn 0) fun o _ u => ?_) h
  exact macLeaves_loseStream (macLeaves_refl u) o

theorem macLeaves_ethLink {n : Nat} (hn : n < 2) (up full pause : Bool) : MacLeaves s (ethLink n up full pause t) := by
  refine leaves_ite (leaves_ite ?_ h) (leaves_ite (macLeaves_send (macLeaves_loseMacLink h hn) _ _ _ _ _) h)
  exact macLeaves_txSend (macLeaves_setMac (macLeaves_setF h (by decide) _) _ _) _ _

end

theorem macLeaves_sendAes (o p : Nat) (s : State) : MacLeaves s (sendAes o p s) := by
  rw [sendAes]
  split
  · exact macLeaves_refl s
  · exact leaves_ite (macLeaves_txSend (macLeaves_setStream (macLeaves_refl s) _ _) _ _) (macLeaves_refl s)

theorem macLeaves_lateAes (o : Nat) (s : State) : MacLeaves s (lateAes o s) := by
  cases ha : aesDef s.oven o with
  | none =>
    rw [lateAes, ha]
    exact macLeaves_refl s
  | some a =>
    cases hk : (mac s a.mac).txq.findIdx? (fun i => i.owner == some o) with
    | none =>
      simp only [lateAes, ha, hk]
      exact macLeaves_refl s
    | some k =>
      rw [lateAes_queued ha hk]
      exact macLeaves_dropLate (macLeaves_refl s) a.mac.isLt k

/-- The events at the MACs, each by the operations it is made of. -/
theorem macLeaves_event {i : Instr} {s t : State} (hi : macEvent i = true) (ht : exec i s = .next t) : MacLeaves s t := by
  have hrefl := macLeaves_refl
  cases i with
  | aesPacketSend c o p => exact leaves_event eventPart_mac ht (op := sendAes o p) rfl (macLeaves_sendAes o p)
  | aesPacketLate c o => exact leaves_event eventPart_mac ht (op := lateAes o) rfl (macLeaves_lateAes o)
  | pauseReceived c n q =>
    exact leaves_event eventPart_mac ht (op := fun u => if macUp u n then takePause n q u else u) rfl
      fun u => leaves_ite (macLeaves_takePause (hrefl u) n.isLt q) (hrefl u)
  | pauseExpiry c n =>
    exact leaves_event eventPart_mac ht (op := fun u => if (mac u n).paused then resumeTx n u else u) rfl
      fun u => leaves_ite (macLeaves_resumeTx (hrefl u) n) (hrefl u)
  | pauseSend c n half =>
    exact leaves_event eventPart_mac ht (op := fun u => flowRule n (rxBytes (mac u n)) half u) rfl
      fun u => macLeaves_flowRule (hrefl u) n.isLt _ half
  | ethLink c n k =>
    exact leaves_event eventPart_mac ht (op := ethLink n k.up k.full k.pause) rfl fun u => macLeaves_ethLink (hrefl u) n.isLt _ _ _
  | lpiAssert c n =>
    exact leaves_event eventPart_mac ht (op := fun u => if lpiAllowed u n then setMaskBit fETH_STAT_LPI n true u else u) rfl
      fun u => leaves_ite (macLeaves_setF (hrefl u) (by decide) _) (hrefl u)
  | _ => cases hi

/-! ## A twin and its referee -/

/-- The part of the state that events between a twin and its referee may change. -/
def refereePart (s t : State) : State :=
  { s with cycle := t.cycle, wire := t.wire, fresh := t.fresh, regs := t.regs, kiln := t.kiln, twin := t.twin }

theorem eventPart_referee : EventPart refereePart where
  self _ := rfl
  trans _ _ _ := rfl
  regs _ _ := rfl
  kiln _ _ := rfl
  begin_ _ _ := rfl
  after _ _ := rfl

/-- Only what those events may change has changed: of the registers those of the Kiln and of TWIN. -/
def RefereeLeaves (s t : State) : Prop := Leaves refereePart [1, 13] s t

theorem refereeLeaves_refl (s : State) : RefereeLeaves s s := leaves_refl eventPart_referee s

section
variable {s t : State} (h : RefereeLeaves s t)
include h

theorem refereeLeaves_setF {f : Fld} (hf : unitOfAddr (f.key / 32) ∈ [1, 13]) (v : Nat) : RefereeLeaves s (setF f v t) :=
  leaves_setF eventPart_referee h hf v

theorem refereeLeaves_withTwin (x : TwinSt) : RefereeLeaves s { t with twin := x } :=
  leaves_trans eventPart_referee h (leaves_of_part rfl rfl rfl)

theorem refereeLeaves_emit (w : Wire) : RefereeLeaves s (emit w t) := leaves_trans eventPart_referee h (leaves_of_part rfl rfl rfl)

theorem refereeLeaves_send (src inst cls kind ctx : Nat) : RefereeLeaves s (send src inst cls kind ctx t) :=
  leaves_send eventPart_referee h (by decide) src inst cls kind ctx

theorem refereeLeaves_sendWord (quarter : Nat) : RefereeLeaves s (sendWord quarter t) := by
  refine leaves_ite h (leaves_ite ?_ (leaves_ite ?_ h))
  · have hsent := refereeLeaves_emit (refereeLeaves_withTwin h { t.twin with swreq := t.twin.swreq - 1, gotWord := false })
      (.referee 0 (twinWord t quarter))
    exact leaves_ite hsent (refereeLeaves_setF (refereeLeaves_withTwin hsent _) (by decide) _)
  · exact refereeLeaves_emit (refereeLeaves_emit (refereeLeaves_withTwin h _) _) _

theorem refereeLeaves_seeClaim (c : Nat) : RefereeLeaves s (seeClaim c t) := leaves_ite (refereeLeaves_setF h (by decide) c) h

theorem refereeLeaves_takeSide (x : Fin 2) (w : Option (List Byte)) : RefereeLeaves s (takeSide x w t) := by
  have hfields : ∀ y : Fin 2, ∀ f ∈ [fTWIN_SIDE_OK y, fTWIN_SIDE_MISSRUN y, fTWIN_SIDE_ROLE y, fTWIN_SIDE_SYNC y, fTWIN_SIDE_CLAIM y],
      unitOfAddr (f.key / 32) ∈ [1, 13] := by decide
  have hset {u : State} (hu : RefereeLeaves s u) {f : Fld}
      (hf : f ∈ [fTWIN_SIDE_OK x, fTWIN_SIDE_MISSRUN x, fTWIN_SIDE_ROLE x, fTWIN_SIDE_SYNC x, fTWIN_SIDE_CLAIM x]) (v : Nat) :
      RefereeLeaves s (setF f v u) := refereeLeaves_setF hu (hfields x f hf) v
  have hmissed : RefereeLeaves s (bump (fTWIN_SIDE_MISSRUN x) (setF (fTWIN_SIDE_OK x) 0 t)) := hset (hset h (by simp) 0) (by simp) _
  cases w with
  | none => exact hmissed
  | some b =>
    have hclaim (q : SideWord) := hset (refereeLeaves_seeClaim h q.claim) (f := fTWIN_SIDE_CLAIM x) (by simp) q.claim
    have hok (q : SideWord) := hset (hset (hset (hset (hclaim q) (f := fTWIN_SIDE_SYNC x) (by simp) q.sync) (f := fTWIN_SIDE_ROLE x)
      (by simp) q.role) (f := fTWIN_SIDE_MISSRUN x) (by simp) 0) (f := fTWIN_SIDE_OK x) (by simp) 1
    exact leaves_ite (leaves_ite (hok (readSide b)) (refereeLeaves_withTwin (hok (readSide b)) _)) hmissed

theorem refereeLeaves_grantSide (x claim : Nat) : RefereeLeaves s (grantSide x claim t) :=
  refereeLeaves_setF (refereeLeaves_setF (refereeLeaves_withTwin h _) (by decide) _) (by decide) _

theorem refereeLeaves_refereeOwned (o : Nat) (ok0 ok1 : Bool) : RefereeLeaves s (refereeOwned o ok0 ok1 t) := by
  have hmiss (x : TwinSt) := refereeLeaves_withTwin h x
  refine leaves_ite (leaves_ite ?_ (hmiss _)) (leaves_ite ?_ (hmiss _))
  · exact refereeLeaves_send (refereeLeaves_grantSide (hmiss _) _ _) _ _ _ _ _
  · exact refereeLeaves_send (refereeLeaves_withTwin (hmiss _) _) _ _ _ _ _

theorem refereeLeaves_refereeFree (ok0 ok1 : Bool) : RefereeLeaves s (refereeFree ok0 ok1 t) := by
  have hadopt (x : TwinSt) (claim : Nat) : RefereeLeaves s (setF fTWIN_CLAIM_CLAIM claim { t with twin := x }) :=
    refereeLeaves_setF (refereeLeaves_withTwin h x) (by decide) claim
  have habsent (x : TwinSt) := refereeLeaves_withTwin h x
  exact leaves_ite (hadopt _ _) (leaves_ite (hadopt _ _) (leaves_ite (hadopt _ _)
    (leaves_ite (refereeLeaves_grantSide (habsent _) _ _) (leaves_ite (refereeLeaves_grantSide (habsent _) _ _) (habsent _)))))

theorem refereeLeaves_refereeQuarter (a b : Option (List Byte)) : RefereeLeaves s (refereeQuarter a b t) := by
  have hsides : RefereeLeaves s (takeSide 1 b (takeSide 0 a t)) := refereeLeaves_takeSide (refereeLeaves_takeSide h 0 a) 1 b
  refine leaves_ite h ?_
  dsimp only
  split
  · exact refereeLeaves_refereeOwned hsides _ _ _
  · exact refereeLeaves_refereeFree hsides _ _

end

/-- The events between a twin and its referee, each by the operations it is made of. -/
theorem refereeLeaves_event {i : Instr} {s t : State} (hi : refereeEvent i = true) (ht : exec i s = .next t) : RefereeLeaves s t := by
  have hrefl := refereeLeaves_refl
  cases i with
  | twinWordSend c q => exact leaves_event eventPart_referee ht (op := sendWord q) rfl fun u => refereeLeaves_sendWord (hrefl u) q
  | refLost c =>
    refine leaves_event eventPart_referee ht (op := fun _ => _) rfl fun u => leaves_ite ?_ (hrefl u)
    exact refereeLeaves_send (refereeLeaves_setF (refereeLeaves_withTwin (hrefl u) _) (by decide) 0) _ _ _ _ _
  | refereeQuarter c a b =>
    exact leaves_event eventPart_referee ht (op := refereeQuarter a b) rfl fun u => refereeLeaves_refereeQuarter (hrefl u) a b
  | _ => cases hi

/-- Settles O59: every event by the operations it is made of, each of which changes only its own part of the state. -/
theorem linkEventsLeave : Obligations.LinkEventsLeave :=
  ⟨fun _ _ _ hi ht => laneLeaves_event hi ht, fun _ _ _ hi ht => macLeaves_event hi ht, fun _ _ _ hi ht => refereeLeaves_event hi ht⟩

end Sys2Proof.Machine
end

section
/-! What events at stages and their protection leave (R187, R191 to R195, R202, R214 to R223). -/
namespace Sys2Proof.Machine

open Sys2Proof

/-- The part of the state that events at stages and their protection may change. -/
def stagePart (s t : State) : State :=
  { s with cycle := t.cycle, wire := t.wire, fresh := t.fresh, regs := t.regs, kiln := t.kiln, outs := t.outs, gls := t.gls, prots := t.prots }

theorem eventPart_stage : EventPart stagePart where
  self _ := rfl
  trans _ _ _ := rfl
  regs _ _ := rfl
  kiln _ _ := rfl
  begin_ _ _ := rfl
  after _ _ := rfl

/-- Only what events at stages may change has changed: of the registers those of the Kiln, of STAGE and of PROT. -/
def StageLeaves (s t : State) : Prop := Leaves stagePart [1, 11, 12] s t

theorem stageLeaves_refl (s : State) : StageLeaves s s := leaves_refl eventPart_stage s

/-- The fields of an output that its events change. -/
def outEventFields (n : Nat) : List Fld :=
  [fSTAGE_STS_STATE n, fSTAGE_STS_CELLS n, fSTAGE_STS_HOLD n, fSTAGE_STS_HEAD n, fSTAGE_CNT_CRCE n, fSTAGE_CNT_LIMIT n, fPROT_RUN_RETRY n,
   fPROT_RUN_PILOTON n, fPROT_CNT_TRIPS n, fPROT_CNT_LATCHES n, fPROT_CNT_BADM n, fPROT_MEAS_RMEAS n, fPROT_MEAS_TMEAS n]

/-- The fields of a Gate Link lane that its events change. -/
def laneEventFields (l : Nat) : List Fld := [fSTAGE_LANE_LOCK l, fSTAGE_LANE_IDOK l, fSTAGE_LANE_FLIGHT l, fSTAGE_LANE_TYPE l]

theorem unit_outEventField : ∀ n < 16, ∀ f ∈ outEventFields n, unitOfAddr (f.key / 32) ∈ [1, 11, 12] := by decide

theorem unit_laneEventField : ∀ l < 8, ∀ f ∈ laneEventFields l, unitOfAddr (f.key / 32) ∈ [1, 11, 12] := by decide

theorem lt_of_mem_laneOuts {l n : Nat} (hl : l < 8) (hn : n ∈ laneOuts l) : n < 16 := by
  simp only [laneOuts, List.mem_cons, List.not_mem_nil, or_false] at hn
  omega

theorem laneOf_lt {n : Nat} (hn : n < 16) : laneOf n < 8 := by
  unfold laneOf
  omega

/-! ## The operations of the events -/

section
variable {s t : State} (h : StageLeaves s t)
include h

theorem stageLeaves_trans {u : State} (h' : StageLeaves t u) : StageLeaves s u := leaves_trans eventPart_stage h h'

theorem stageLeaves_setF {f : Fld} (hf : unitOfAddr (f.key / 32) ∈ [1, 11, 12]) (v : Nat) : StageLeaves s (setF f v t) :=
  leaves_setF eventPart_stage h hf v

theorem stageLeaves_outField {n : Nat} (hn : n < 16) {f : Fld} (hf : f ∈ outEventFields n) (v : Nat) : StageLeaves s (setF f v t) :=
  stageLeaves_setF h (unit_outEventField n hn f hf) v

theorem stageLeaves_laneField {l : Nat} (hl : l < 8) {f : Fld} (hf : f ∈ laneEventFields l) (v : Nat) : StageLeaves s (setF f v t) :=
  stageLeaves_setF h (unit_laneEventField l hl f hf) v

theorem stageLeaves_setMaskBit {f : Fld} (hf : unitOfAddr (f.key / 32) ∈ [1, 11, 12]) (n : Nat) (b : Bool) :
    StageLeaves s (setMaskBit f n b t) :=
  stageLeaves_setF h hf _

theorem stageLeaves_setOut (n : Nat) (q : OutSt) : StageLeaves s (setOut n q t) := stageLeaves_trans h (leaves_of_part rfl rfl rfl)

theorem stageLeaves_setGl (l : Nat) (g : GlSt) : StageLeaves s (setGl l g t) := stageLeaves_trans h (leaves_of_part rfl rfl rfl)

theorem stageLeaves_setProt (n : Nat) (q : ProtSt) : StageLeaves s (setProt n q t) := stageLeaves_trans h (leaves_of_part rfl rfl rfl)

theorem stageLeaves_send (src inst cls kind ctx : Nat) : StageLeaves s (send src inst cls kind ctx t) :=
  leaves_send eventPart_stage h (by decide) src inst cls kind ctx

theorem stageLeaves_foldState {α : Type} {f : α → State → State} {l : List α} (hf : ∀ a ∈ l, ∀ u, StageLeaves u (f a u)) :
    StageLeaves s (foldState f l t) :=
  leaves_foldState eventPart_stage h hf

theorem stageLeaves_when (b : Bool) {f : State → State} (hf : ∀ u, StageLeaves u (f u)) : StageLeaves s (when_ b f t) :=
  leaves_when eventPart_stage h b hf

theorem stageLeaves_dropWindow (n : Nat) : StageLeaves s (dropWindow n t) := stageLeaves_setProt h _ _

theorem stageLeaves_setProbe (n : Nat) (on : Bool) : StageLeaves s (setProbe n on t) :=
  stageLeaves_setMaskBit (leaves_ite (stageLeaves_setProt h _ _) h) (by decide) _ _

theorem stageLeaves_checkWatch (n : Nat) : StageLeaves s (checkWatch n t) := by
  rw [checkWatch]
  split
  · exact leaves_ite (leaves_ite (stageLeaves_setOut h _ _) h) h
  · exact h

section
variable {n : Nat} (hn : n < 16)
include hn

theorem stageLeaves_aimPilot : StageLeaves s (aimPilot n t) :=
  stageLeaves_outField (stageLeaves_setProt h _ _) hn (by simp [outEventFields]) _

theorem stageLeaves_setOutState (v : Nat) : StageLeaves s (setOutState n v t) := by
  have hstate : StageLeaves s (setF (fSTAGE_STS_STATE n) v t) := stageLeaves_outField h hn (by simp [outEventFields]) v
  have hshown := stageLeaves_setMaskBit (stageLeaves_setMaskBit hstate (f := fSTAGE_STAT_SAFE) (by decide) n (v == oSAFE || v == oLATCHED))
    (f := fSTAGE_STAT_RUN) (by decide) n (v == oRUN)
  exact stageLeaves_aimPilot (stageLeaves_setProbe hshown n _) hn

theorem stageLeaves_enterSafe (retry : Bool) : StageLeaves s (enterSafe n retry t) :=
  stageLeaves_setOutState (stageLeaves_setProt (stageLeaves_setOut h _ _) _ _) hn _

theorem stageLeaves_enterOff : StageLeaves s (enterOff n t) :=
  stageLeaves_setOutState (stageLeaves_setProt (stageLeaves_setOut h _ _) _ _) hn _

theorem stageLeaves_enterArmed : StageLeaves s (enterArmed n t) := stageLeaves_setOutState (stageLeaves_setOut h _ _) hn _

theorem stageLeaves_startPrecharge (fromSafe : Bool) : StageLeaves s (startPrecharge n fromSafe t) :=
  stageLeaves_setOutState (stageLeaves_setOut h _ _) hn _

/-! ### Faults and trips (R187, R202, R220, R222, R223) -/

theorem stageLeaves_trainFailAt (code cap : Nat) : StageLeaves s (trainFailAt n code cap t) :=
  stageLeaves_send (stageLeaves_setOut (stageLeaves_enterOff h hn) _ _) _ _ _ _ _

theorem stageLeaves_trainFail (code : Nat) : StageLeaves s (trainFail n code t) := stageLeaves_trainFailAt h hn code 0

theorem stageLeaves_faultOut (code : Nat) : StageLeaves s (faultOut n code t) :=
  leaves_ite (stageLeaves_enterSafe h hn false) (leaves_ite (stageLeaves_trainFail h hn code) (leaves_ite (stageLeaves_setProt h _ _) h))

theorem stageLeaves_tripOut : StageLeaves s (tripOut n t) := by
  have htrips : StageLeaves s (bump (fPROT_CNT_TRIPS n) t) := stageLeaves_outField h hn (by simp [outEventFields]) _
  refine leaves_ite ?sweep (leaves_ite ?latch ?safe)
  case sweep => exact stageLeaves_enterSafe (stageLeaves_send (stageLeaves_setProt htrips _ _) _ _ _ _ _) hn _
  case latch =>
    have hlatched := stageLeaves_setOutState (stageLeaves_enterSafe htrips hn false) hn oLATCHED
    exact stageLeaves_send (stageLeaves_outField hlatched hn (by simp [outEventFields]) _) _ _ _ _ _
  case safe => exact stageLeaves_enterSafe (stageLeaves_when htrips _ fun u => stageLeaves_send (stageLeaves_refl u) _ _ _ _ _) hn _

/-! ### One channel's part of a return frame (R191, R192, R201, R208) -/

theorem stageLeaves_takeHead (head period : Nat) : StageLeaves s (takeHead n head period t) := by
  have hhead : StageLeaves s (setF (fSTAGE_STS_HEAD n) head t) := stageLeaves_outField h hn (by simp [outEventFields]) head
  exact leaves_ite (stageLeaves_setOut hhead _ _) (leaves_ite (stageLeaves_setOut hhead _ _) (stageLeaves_setOut hhead _ _))

theorem stageLeaves_takeLimit (lim : Bool) : StageLeaves s (takeLimit n lim t) := by
  refine leaves_ite (stageLeaves_when ?_ _ fun u => stageLeaves_send (stageLeaves_refl u) _ _ _ _ _) h
  exact stageLeaves_outField (stageLeaves_setOut h _ _) hn (by simp [outEventFields]) _

theorem stageLeaves_takeTrip (trip : Bool) : StageLeaves s (takeTrip n trip t) :=
  leaves_ite (stageLeaves_tripOut (stageLeaves_setOut h _ _) hn) (stageLeaves_setOut h _ _)

theorem stageLeaves_takeChannel (f : ReturnFrame) (odd : Bool) : StageLeaves s (takeChannel n f odd t) := by
  have hsense : StageLeaves s (takeSense n f t) := stageLeaves_setOut h _ _
  have hhold := stageLeaves_outField hsense hn (f := fSTAGE_STS_HOLD n) (by simp [outEventFields]) (bits (num f.syms 3 1) 4 4)
  have hpairs := stageLeaves_setProt (stageLeaves_takeHead hhold hn (num f.syms (4 + n % 2) 1) (num f.syms 2 1 % 32)) n
  exact stageLeaves_takeTrip (stageLeaves_takeLimit (stageLeaves_checkWatch (hpairs _) n) hn _) hn _

theorem stageLeaves_toTest : StageLeaves s (toTest n t) :=
  stageLeaves_setOutState (stageLeaves_setGl (stageLeaves_setOut h _ _) _ _) hn _

theorem stageLeaves_checkPassed : StageLeaves s (checkPassed n t) :=
  leaves_ite (stageLeaves_setOut h _ _) (stageLeaves_setOut (stageLeaves_enterArmed h hn) _ _)

/-! ### The tracker, the probe and the retry (R214 to R216, R221, R222) -/

theorem stageLeaves_correct (r : Word) : StageLeaves s (correct n r t) := by
  refine stageLeaves_when ?_ _ fun u => stageLeaves_send (stageLeaves_refl u) _ _ _ _ _
  exact stageLeaves_outField (stageLeaves_outField (stageLeaves_setProt h _ _) hn (by simp [outEventFields]) _) hn (by simp [outEventFields]) _

theorem stageLeaves_judgeWindow (open_ bad : Bool) :
    StageLeaves s (if open_ then send 12 n 7 13 0 t else if bad then send 12 n 6 1 0 (bump (fPROT_CNT_BADM n) t) else t) := by
  have hbad : StageLeaves s (bump (fPROT_CNT_BADM n) t) := stageLeaves_outField h hn (by simp [outEventFields]) _
  exact leaves_ite (stageLeaves_send h _ _ _ _ _) (leaves_ite (stageLeaves_send hbad _ _ _ _ _) h)

theorem stageLeaves_measWindowEnd : StageLeaves s (measWindowEnd n t) := by
  refine leaves_ite (stageLeaves_dropWindow h n) (stageLeaves_dropWindow (stageLeaves_when ?_ _ fun u => ?_) n)
  · split
    · exact stageLeaves_setProt (stageLeaves_judgeWindow h hn _ _) _ _
    · exact stageLeaves_judgeWindow h hn _ _
  · exact stageLeaves_correct (stageLeaves_refl u) hn _

theorem stageLeaves_startRetry : StageLeaves s (startRetry n t) := by
  refine leaves_ite h (leaves_ite (stageLeaves_startPrecharge ?_ hn true) (stageLeaves_setProt h _ _))
  exact stageLeaves_outField (stageLeaves_setProt h _ _) hn (by simp [outEventFields]) _

end

theorem stageLeaves_probeWindowEnd (n : Nat) : StageLeaves s (probeWindowEnd n t) := by
  have hopened (q : ProtSt) : StageLeaves s (setProt n q t) := stageLeaves_setProt h n q
  refine leaves_ite (hopened _) ?_
  dsimp only
  split
  · exact stageLeaves_setProt (hopened _) _ _
  · have hrun (q q' : ProtSt) : StageLeaves s (setProt n q' (setProt n q t)) := stageLeaves_setProt (hopened q) n q'
    exact leaves_ite (stageLeaves_send (stageLeaves_setMaskBit (hrun _ _) (by decide) _ _) _ _ _ _ _) (hrun _ _)

/-! ### A lane: its loss, its lock and its messages (R189, R192, R194, R202) -/

section
variable {l : Nat} (hl : l < 8)
include hl

theorem stageLeaves_outs {f : Nat → State → State} (hf : ∀ n < 16, ∀ u, StageLeaves u (f n u)) :
    StageLeaves s (foldState f (laneOuts l) t) :=
  stageLeaves_foldState h fun n hn => hf n (lt_of_mem_laneOuts hl hn)

/-- Of the outputs of a lane, those that a condition names. -/
theorem stageLeaves_outsWhere (p : Nat → Bool) {f : Nat → State → State} (hf : ∀ n < 16, ∀ u, StageLeaves u (f n u)) :
    StageLeaves s (foldState f ((laneOuts l).filter p) t) :=
  stageLeaves_foldState h fun n hn => hf n (lt_of_mem_laneOuts hl (List.mem_filter.1 hn).1)

theorem stageLeaves_glLose : StageLeaves s (glLose l t) := by
  have hsent := stageLeaves_send h 11 (laneInst t l) 7 10 0
  have hfault := stageLeaves_outs hsent hl (f := fun n => faultOut n 1) fun n hn u => stageLeaves_faultOut (stageLeaves_refl u) hn 1
  exact leaves_ite h (stageLeaves_setGl (stageLeaves_laneField hfault hl (by simp [laneEventFields]) 0) _ _)

theorem stageLeaves_busFault : StageLeaves s (busFault l t) := by
  refine stageLeaves_outs (stageLeaves_send h _ _ _ _ _) hl fun n hn u => ?_
  split
  · exact stageLeaves_faultOut (stageLeaves_refl u) hn 5
  · exact stageLeaves_refl u

theorem stageLeaves_takeLock (flight : Nat) : StageLeaves s (takeLock l flight t) := by
  refine leaves_ite (stageLeaves_outs h hl fun n _ u => ?late) (stageLeaves_when (stageLeaves_outsWhere ?locked hl _ fun n hn u => ?due) _ fun u => ?ask)
  case late => exact leaves_ite (stageLeaves_setOut (stageLeaves_refl u) _ _) (stageLeaves_refl u)
  case locked =>
    exact stageLeaves_laneField (stageLeaves_laneField h hl (by simp [laneEventFields]) 1) hl (by simp [laneEventFields]) flight
  case due =>
    have hu := stageLeaves_refl u
    exact leaves_ite (leaves_ite (stageLeaves_toTest hu hn) (stageLeaves_trainFail hu hn 2)) (stageLeaves_setOut hu _ _)
  case ask => exact stageLeaves_setGl (stageLeaves_refl u) _ _

theorem stageLeaves_takeMessage (f : ReturnFrame) : StageLeaves s (takeMessage l f t) := by
  have hgl (g : GlSt) : StageLeaves s (setGl l g t) := stageLeaves_setGl h l g
  refine leaves_ite h (leaves_ite (hgl _) (leaves_ite (stageLeaves_outsWhere (stageLeaves_outsWhere ?known hl _ fun n hn u => ?cells) hl _
    fun n hn u => ?test) (stageLeaves_outsWhere (hgl _) hl _ fun n hn u => ?fails)))
  case known =>
    exact stageLeaves_laneField (stageLeaves_laneField (hgl _) hl (by simp [laneEventFields]) _) hl (by simp [laneEventFields]) 1
  case cells => exact stageLeaves_outField (stageLeaves_refl u) hn (by simp [outEventFields]) _
  case test => exact stageLeaves_toTest (stageLeaves_refl u) hn
  case fails => exact stageLeaves_trainFail (stageLeaves_refl u) hn 2

theorem stageLeaves_returnFrame (f : ReturnFrame) : StageLeaves s (returnFrame l f t) := by
  refine leaves_ite h (leaves_ite (stageLeaves_takeMessage (stageLeaves_takeLock (stageLeaves_outs (stageLeaves_when ?ovt _ fun u => ?sent) hl
    fun n hn u => ?channel) hl _) hl f) (stageLeaves_outs ?bad hl fun n hn u => ?count))
  case ovt => exact stageLeaves_setGl h _ _
  case sent => exact stageLeaves_send (stageLeaves_refl u) _ _ _ _ _
  case channel => exact stageLeaves_takeChannel (stageLeaves_refl u) hn f _
  case bad => exact stageLeaves_send (stageLeaves_setGl h _ _) _ _ _ _ _
  case count => exact stageLeaves_outField (stageLeaves_refl u) hn (by simp [outEventFields]) _

end

end

/-! ## The events -/

theorem stageLeaves_run {i : Instr} {c : Nat} {g : State → Bool} {op : State → State} {s t : State} (ht : exec i s = .next t)
    (hexec : exec i s = run c (fun u => if g u then op u else u) s) (hop : ∀ u, StageLeaves u (op u)) : StageLeaves s t :=
  leaves_run eventPart_stage ht hexec fun u => leaves_ite (hop u) (stageLeaves_refl u)

/-- What LINK_TEST_END does to an output in TEST (R194). -/
def endLinkTest (n : Nat) (clean : Bool) (s : State) : State :=
  if !clean ∨ (gl s (laneOf n)).errs ≠ 0 then trainFail n 3 s
  else if !busOk s n then trainFail n 5 s
  else startPrecharge n ((out_ s n).code == some 255) s

/-- What PRECHARGE_CHECK_END does to an output that is checked (R195). -/
def endCheck (n : Nat) (s : State) : State :=
  if (out_ s n).step = 9 ∨ !capsInBand s n then prechargeFail n 7 0 s else checkPassed n s

/-- What the end of a ramp leads to (R195). -/
def endRamp (n : Nat) (s : State) : State :=
  if (out_ s n).toward = 4 then enterArmed n (setOut n { out_ s n with soft := steady (out_ s n).soft.target } s)
  else if (out_ s n).toward ≠ 0 then enterOff n (setOut n { out_ s n with soft := steady (out_ s n).soft.target } s)
  else setOut n { out_ s n with soft := steady (out_ s n).soft.target } s

theorem stageLeaves_endRamp {n : Nat} (hn : n < 16) (s : State) : StageLeaves s (endRamp n s) := by
  have hset (q : OutSt) : StageLeaves s (setOut n q s) := stageLeaves_setOut (stageLeaves_refl s) n q
  exact leaves_ite (stageLeaves_enterArmed (hset _) hn) (leaves_ite (stageLeaves_enterOff (hset _) hn) (hset _))

/-- The events at stages and their protection, each by the operations it is made of. -/
theorem stageLeaves_event {i : Instr} {s t : State} (hi : stageEvent i = true) (ht : exec i s = .next t) : StageLeaves s t := by
  have hrefl := stageLeaves_refl
  cases i with
  | returnFrame c l f =>
    exact leaves_run eventPart_stage ht (op := returnFrame l f) rfl fun u => stageLeaves_returnFrame (hrefl u) l.isLt f
  | glLost c l => exact stageLeaves_run (g := glLive) (op := glLose l) ht rfl fun u => stageLeaves_glLose (hrefl u) l.isLt
  | bus c l =>
    exact stageLeaves_run (g := fun u => glLive u && (laneOuts l).any (fun n => isPowered (outState u n))) (op := busFault l) ht rfl
      fun u => stageLeaves_busFault (hrefl u) l.isLt
  | fcDrift c n =>
    exact stageLeaves_run (g := fun u => glLive u && (outState u n == oARMED || outState u n == oRUN)) (op := send 11 n 7 7 0) ht rfl
      fun u => stageLeaves_send (hrefl u) _ _ _ _ _
  | trainTimeout c n =>
    exact stageLeaves_run (g := fun u => u.pwr.phase == .run && hasMod u && outState u n == oIDENT)
      (op := fun u => trainFail n (if (out_ u n).step = 2 then 2 else if (out_ u n).step = 3 then 4 else 1) u) ht rfl
      fun u => stageLeaves_trainFail (hrefl u) n.isLt _
  | linkTestEnd c n clean =>
    exact stageLeaves_run (g := fun u => glLive u && outState u n == oTEST) (op := endLinkTest n clean) ht rfl
      fun u => leaves_ite (stageLeaves_trainFail (hrefl u) n.isLt 3) (leaves_ite (stageLeaves_trainFail (hrefl u) n.isLt 5)
        (stageLeaves_startPrecharge (hrefl u) n.isLt _))
  | prechargeTimeout c n =>
    exact stageLeaves_run (g := fun u => glLive u && outState u n == oPRECHARGE && (out_ u n).pcCap != 0)
      (op := fun u => prechargeFail n 6 (out_ u n).pcCap u) ht rfl fun u => stageLeaves_trainFailAt (hrefl u) n.isLt 6 _
  | prechargeCheckEnd c n =>
    exact stageLeaves_run (g := fun u => glLive u && outState u n == oPRECHARGE && (out_ u n).pcCap == 0 && (out_ u n).step != 8)
      (op := endCheck n) ht rfl
      fun u => leaves_ite (stageLeaves_trainFailAt (hrefl u) n.isLt 7 0) (stageLeaves_checkPassed (hrefl u) n.isLt)
  | softStartEnd c n =>
    exact stageLeaves_run (g := fun u => glLive u && outState u n == oRUN && decide (rampLeft (out_ u n).soft ≤ 16)) (op := endRamp n)
      ht rfl (stageLeaves_endRamp n.isLt)
  | retryStart c n => exact leaves_event eventPart_stage ht (op := startRetry n) rfl fun u => stageLeaves_startRetry (hrefl u) n.isLt
  | retryClear c n =>
    exact leaves_event eventPart_stage ht (op := fun u => if outState u n = oRUN then setF (fPROT_RUN_RETRY n) 0 u else u) rfl
      fun u => leaves_ite (stageLeaves_outField (hrefl u) n.isLt (by simp [outEventFields]) 0) (hrefl u)
  | measWindowEnd c n =>
    exact leaves_event eventPart_stage ht (op := measWindowEnd n) rfl fun u => stageLeaves_measWindowEnd (hrefl u) n.isLt
  | probeWindowEnd c n z38 current =>
    exact leaves_event eventPart_stage ht (op := probeWindowEnd n) rfl fun u => stageLeaves_probeWindowEnd (hrefl u) n
  | _ => cases hi

/-- Settles O58: every event by the operations it is made of, each of which changes only its own part of the state. -/
theorem stageEventsLeave : Obligations.StageEventsLeave := fun _ _ _ hi ht => stageLeaves_event hi ht

end Sys2Proof.Machine
end

section
/-! The referee and its words (R322 to R328, R333). -/
namespace Sys2Proof.Machine

open Sys2Proof

/-! ## What leaves the twin's own state and registers -/

/-- The twin's state and the registers of its unit are as they were. -/
structure TwinSame (s t : State) : Prop where
  twin : t.twin = s.twin
  regs : ∀ f : Fld, unitOfAddr (f.key / 32) = 13 → getF t f = getF s f

theorem twinSame_refl (s : State) : TwinSame s s := ⟨rfl, fun _ _ => rfl⟩

theorem twinSame_of_eq {s t : State} (htwin : t.twin = s.twin) (hregs : t.regs = s.regs) : TwinSame s t :=
  ⟨htwin, fun f _ => by rw [getF, getF, hregs]⟩

theorem twinSame_trans {s t u : State} (h : TwinSame s t) (h' : TwinSame t u) : TwinSame s u :=
  ⟨h'.twin.trans h.twin, fun f hf => (h'.regs f hf).trans (h.regs f hf)⟩

theorem twinSame_setF {f : Fld} (hf : unitOfAddr (f.key / 32) ≠ 13) (v : Nat) (s : State) : TwinSame s (setF f v s) :=
  ⟨rfl, fun _ hg => getF_setF_ne _ _ _ _ fun hkey => hf (hkey ▸ hg)⟩

theorem twinSame_setProt (n : Nat) (q : ProtSt) (s : State) : TwinSame s (setProt n q s) := twinSame_of_eq rfl rfl

theorem getF_withTwin (s : State) (x : TwinSt) (f : Fld) : getF { s with twin := x } f = getF s f := rfl

theorem twinSame_finishAll (p : OpKind → Bool) (st : Nat) (res : List Byte) (s : State) : TwinSame s (finishAll p st res s) := by
  have hfin := sameButFinish_finishAll p st res s
  refine ⟨by rw [hfin.1], fun f hf => hfin.2 f fun hkey => ?_⟩
  rw [hkey] at hf
  exact absurd hf (by decide)

theorem twinSame_send (src inst cls kind ctx : Nat) (s : State) : TwinSame s (send src inst cls kind ctx s) := by
  refine ⟨?_, fun f hf => getF_send (fun hkey => ?_) src inst cls kind ctx s⟩
  · unfold send enqueue
    split <;> rfl
  · rw [hkey] at hf
    exact absurd hf (by decide)

theorem twinSame_stopSweep (n : Nat) (s : State) : TwinSame s (stopSweep n s) := by
  rw [stopSweep]
  split
  · exact twinSame_trans (twinSame_setProt n _ s) (twinSame_finishAll _ _ _ _)
  · exact twinSame_refl s

theorem twinSame_stopCal {n : Nat} (hn : n < 16) (s : State) : TwinSame s (stopCal n s) := by
  have hpilot : ∀ n < 16, unitOfAddr ((fPROT_RUN_PILOTON n).key / 32) ≠ 13 := by decide
  rw [stopCal]
  split
  · exact twinSame_trans (twinSame_trans (twinSame_setProt n _ s) (twinSame_finishAll _ _ _ _))
      (twinSame_trans (twinSame_setProt n _ _) (twinSame_setF (hpilot n hn) _ _))
  · exact twinSame_refl s

theorem twinSame_rampDown (n : Nat) (s : State) : TwinSame s (applyRun n 1 s) := by
  rw [applyRun]
  split <;> exact twinSame_of_eq rfl rfl

theorem twinSame_stopTests (s : State) : TwinSame s (stopTests s) := by
  refine List.foldlRecOn (motive := TwinSame s) _ _ (twinSame_refl s) fun t ht n hn => twinSame_trans ht ?_
  have hstopped := twinSame_trans (twinSame_stopSweep n t) (twinSame_stopCal (List.mem_range.1 hn) (stopSweep n t))
  dsimp only
  rw [when_]
  split
  · exact twinSame_trans hstopped (twinSame_rampDown n _)
  · exact hstopped

/-! ## Roles (R305, R325) -/

/-- What a word of the referee shows and resets in a twin (R324, R325). -/
def RefereeSeen (t : State) : Prop := getF t fTWIN_STAT_REFOK = 1 ∧ t.twin.gotWord = true ∧ t.twin.missed = 0

theorem refereeSeen_of_same {s t : State} (h : TwinSame s t) (hs : RefereeSeen s) : RefereeSeen t := by
  obtain ⟨hok, hgot, hmissed⟩ := hs
  exact ⟨(h.regs _ rfl).trans hok, by rw [h.twin, hgot], by rw [h.twin, hmissed]⟩

theorem refereeSeen_setF {f : Fld} (hf : fTWIN_STAT_REFOK.key ≠ f.key) (v : Nat) {s : State} (hs : RefereeSeen s) : RefereeSeen (setF f v s) :=
  ⟨(getF_setF_ne _ _ _ _ hf).trans hs.1, hs.2⟩

/-- What a twin forgets of its peer when its role changes. -/
def forgetPeer (rejoin : Bool) (copied : Nat) (s : State) : State :=
  { s with twin := { s.twin with peerSync := 0, rejoin := rejoin, txRecs := [], closeOut := [], copied := copied } }

theorem getF_forgetPeer (rejoin : Bool) (copied : Nat) (s : State) (f : Fld) : getF (forgetPeer rejoin copied s) f = getF s f := rfl

theorem refereeSeen_forgetPeer (rejoin : Bool) (copied : Nat) {s : State} (hs : RefereeSeen s) : RefereeSeen (forgetPeer rejoin copied s) := hs

/-- What is sent and forgotten when the ACTIVE role ends (R305). -/
def endActive (s : State) : State := send 13 0 10 2 0 (forgetSync (setF fTWIN_STAT_ROLE tSTANDBY (stopTests s)))

theorem demote_active {s : State} (hrole : role s = tACTIVE) : demote s = forgetPeer true (endActive s).twin.copied (endActive s) := by
  rw [demote, if_pos hrole, endActive, forgetPeer]

/-- A standby with the ACTIVE role and the claim granted, before what it forgets of its peer (R325). -/
def startActive (claim : Nat) (s : State) : State :=
  send 13 0 10 1 0 (bump fTWIN_CNT_GRANT (forgetSync (failJoin 1 (setF fTWIN_CLAIM_CLAIM claim (setF fTWIN_STAT_ROLE tACTIVE (stopTests s))))))

theorem promote_eq (claim : Nat) (s : State) : promote claim s = forgetPeer false 0 (startActive claim s) := by
  rw [promote, startActive, forgetPeer]

theorem refereeSeen_bump {f : Fld} (hf : fTWIN_STAT_REFOK.key ≠ f.key) {s : State} (hs : RefereeSeen s) : RefereeSeen (bump f s) :=
  refereeSeen_setF hf _ hs

section
variable (s : State)

theorem getF_forgetSync {f : Fld} (hf : f.key ≠ fTWIN_STAT_SYNC.key) : getF (forgetSync s) f = getF s f := by
  rw [forgetSync, getF_withTwin, setSync, getF_setF_ne _ _ _ _ hf]

theorem sync_forgetSync : sync (forgetSync s) = 0 := by
  rw [sync, forgetSync, getF_withTwin, setSync, getF_setF_self]
  rfl

theorem refereeSeen_forgetSync {s : State} (hs : RefereeSeen s) : RefereeSeen (forgetSync s) := by
  obtain ⟨hok, hgot, hmissed⟩ := hs
  exact ⟨(getF_forgetSync s (by decide)).trans hok, hgot, hmissed⟩

theorem refereeSeen_failJoin (code : Nat) {s : State} (hs : RefereeSeen s) : RefereeSeen (failJoin code s) := by
  obtain ⟨hok, hgot, hmissed⟩ := hs
  refine refereeSeen_of_same (twinSame_finishAll _ _ _ _) ⟨?_, hgot, hmissed⟩
  rw [getF_withTwin]
  exact hok

theorem getF_failJoin {f : Fld} (hf : f.key ≠ fETH_STAT_LPI.key) (code : Nat) : getF (failJoin code s) f = getF s f := by
  rw [failJoin, getF_finishAll _ _ _ _ _ hf, getF_withTwin]

theorem role_demote (hrole : role s = tACTIVE) : role (demote s) = tSTANDBY := by
  rw [demote_active hrole, role, getF_forgetPeer, endActive, getF_send (by decide), getF_forgetSync _ (by decide), getF_setF_self]
  rfl

theorem sync_demote (hrole : role s = tACTIVE) : sync (demote s) = 0 := by
  rw [demote_active hrole, sync, getF_forgetPeer, endActive, getF_send (by decide)]
  exact sync_forgetSync _

theorem refereeSeen_send (src inst cls kind ctx : Nat) {s : State} (hs : RefereeSeen s) : RefereeSeen (send src inst cls kind ctx s) :=
  refereeSeen_of_same (twinSame_send src inst cls kind ctx s) hs

theorem refereeSeen_demote {s : State} (hs : RefereeSeen s) : RefereeSeen (demote s) := by
  have hstandby : RefereeSeen (setF fTWIN_STAT_ROLE tSTANDBY (stopTests s)) :=
    refereeSeen_setF (by decide) _ (refereeSeen_of_same (twinSame_stopTests s) hs)
  have hsent := refereeSeen_send 13 0 10 2 0 (refereeSeen_forgetSync hstandby)
  by_cases hrole : role s = tACTIVE
  · rw [demote_active hrole]
    exact refereeSeen_forgetPeer true _ hsent
  · rw [demote, if_neg hrole]
    exact hs

/-- A granted claim and the ACTIVE role, before what a twin forgets with them. -/
theorem getF_promote {f : Fld} (hdrop : f.key ≠ fKILN_CNT_DROP.key) (hgrant : f.key ≠ fTWIN_CNT_GRANT.key) (hsync : f.key ≠ fTWIN_STAT_SYNC.key)
    (hlpi : f.key ≠ fETH_STAT_LPI.key) (claim : Nat) :
    getF (promote claim s) f = getF (setF fTWIN_CLAIM_CLAIM claim (setF fTWIN_STAT_ROLE tACTIVE (stopTests s))) f := by
  rw [promote_eq, getF_forgetPeer, startActive, getF_send hdrop, getF_bump_ne hgrant, getF_forgetSync _ hsync, getF_failJoin _ hlpi]

theorem role_promote (claim : Nat) : role (promote claim s) = tACTIVE := by
  rw [role, getF_promote s (by decide) (by decide) (by decide) (by decide), getF_setF_ne _ _ _ _ (by decide), getF_setF_self]
  rfl

theorem getF_claim_promote (claim : Nat) : getF (promote claim s) fTWIN_CLAIM_CLAIM = claim % 2 ^ 16 := by
  rw [getF_promote s (by decide) (by decide) (by decide) (by decide), getF_setF_self]
  rfl

theorem refereeSeen_promote (claim : Nat) {s : State} (hs : RefereeSeen s) : RefereeSeen (promote claim s) := by
  have hactive : RefereeSeen (setF fTWIN_STAT_ROLE tACTIVE (stopTests s)) :=
    refereeSeen_setF (by decide) _ (refereeSeen_of_same (twinSame_stopTests s) hs)
  have hclaim : RefereeSeen (setF fTWIN_CLAIM_CLAIM claim (setF fTWIN_STAT_ROLE tACTIVE (stopTests s))) := refereeSeen_setF (by decide) _ hactive
  have hforgot := refereeSeen_forgetSync (refereeSeen_failJoin 1 hclaim)
  have hsent := refereeSeen_send 13 0 10 1 0 (refereeSeen_bump (f := fTWIN_CNT_GRANT) (by decide) hforgot)
  exact refereeSeen_forgetPeer false 0 hsent

end

/-! ## A word of the referee at a twin (R324, R325) -/

/-- A valid word is seen, with its claim, and a switch that waited for the claim completes (R325, R333). -/
def seeReferee (claim : Nat) (s : State) : State :=
  let t := seeClaim claim (setF fTWIN_STAT_REFOK 1 { s with twin := { s.twin with gotWord := true, missed := 0, lostSent := false } })
  if claimHigher claim t.twin.swClaim then finishAll isSwitch stOK (be2 claim ++ [0, 0]) t else t

/-- What the owner that a word names means for this twin (R325). -/
def followOwner (w : List Byte) (u : State) : State :=
  if (num w 2 1).testBit 1 && num w 2 1 % 2 == getF u fTWIN_CFG_SIDE then
    (if (num w 2 1).testBit 2 && role u == tSTANDBY then promote (num w 0 2) u else u)
  else if (num w 2 1).testBit 1 && role u == tACTIVE then demote u
  else u

theorem takeRefereeWord_valid {w : List Byte} {s : State} (href : hasRef s = true) (hpair : inPair s = true) (hw : wordValid s w = true) :
    takeRefereeWord w s = followOwner w (seeReferee (num w 0 2) s) := by
  rw [takeRefereeWord, if_neg (by simp [href, hpair, hw])]
  rfl

theorem seeClaim_keeps {f : Fld} (hf : f.key ≠ fTWIN_CLAIM_HIGH.key) (claim : Nat) (s : State) : getF (seeClaim claim s) f = getF s f := by
  rw [seeClaim]
  split
  · exact getF_setF_ne _ _ _ _ hf
  · rfl

theorem getF_seeReferee {f : Fld} (hhigh : f.key ≠ fTWIN_CLAIM_HIGH.key) (hok : f.key ≠ fTWIN_STAT_REFOK.key) (hlpi : f.key ≠ fETH_STAT_LPI.key)
    (claim : Nat) (s : State) : getF (seeReferee claim s) f = getF s f := by
  have hseen (t : State) : getF (seeClaim claim (setF fTWIN_STAT_REFOK 1 t)) f = getF t f :=
    (seeClaim_keeps hhigh claim _).trans (getF_setF_ne _ _ _ _ hok)
  rw [seeReferee]
  dsimp only
  split
  · exact (getF_finishAll _ _ _ _ _ hlpi).trans (hseen _)
  · exact hseen _

theorem role_seeReferee (claim : Nat) (s : State) : role (seeReferee claim s) = role s :=
  getF_seeReferee (by decide) (by decide) (by decide) claim s

theorem side_seeReferee (claim : Nat) (s : State) : getF (seeReferee claim s) fTWIN_CFG_SIDE = getF s fTWIN_CFG_SIDE :=
  getF_seeReferee (by decide) (by decide) (by decide) claim s

theorem refereeSeen_seeClaim (claim : Nat) {s : State} (hs : RefereeSeen s) : RefereeSeen (seeClaim claim s) := by
  rw [seeClaim]
  split
  · exact refereeSeen_setF (by decide) claim hs
  · exact hs

theorem refereeSeen_seeReferee (claim : Nat) (s : State) : RefereeSeen (seeReferee claim s) := by
  have hset (t : TwinSt) (hgot : t.gotWord = true) (hmissed : t.missed = 0) : RefereeSeen (setF fTWIN_STAT_REFOK 1 { s with twin := t }) :=
    ⟨getF_setF_self _ _ _, hgot, hmissed⟩
  rw [seeReferee]
  dsimp only
  split
  · exact refereeSeen_of_same (twinSame_finishAll _ _ _ _) (refereeSeen_seeClaim claim (hset _ rfl rfl))
  · exact refereeSeen_seeClaim claim (hset _ rfl rfl)

theorem refereeSeen_followOwner (w : List Byte) {s : State} (hs : RefereeSeen s) : RefereeSeen (followOwner w s) := by
  rw [followOwner]
  split
  · split
    · exact refereeSeen_promote _ hs
    · exact hs
  · split
    · exact refereeSeen_demote hs
    · exact hs

/-- A granted word makes a standby ACTIVE with its claim. -/
theorem followOwner_granted {w : List Byte} {u : State} (hvalid : (num w 2 1).testBit 1 = true) (hside : num w 2 1 % 2 = getF u fTWIN_CFG_SIDE)
    (hgrant : (num w 2 1).testBit 2 = true) (hrole : role u = tSTANDBY) : followOwner w u = promote (num w 0 2) u := by
  simp [followOwner, hvalid, hside, hgrant, hrole]

/-- A word for the other side ends the ACTIVE role. -/
theorem followOwner_other {w : List Byte} {u : State} (hvalid : (num w 2 1).testBit 1 = true) (hside : num w 2 1 % 2 ≠ getF u fTWIN_CFG_SIDE)
    (hrole : role u = tACTIVE) : followOwner w u = demote u := by
  simp [followOwner, hvalid, hside, hrole]

/-- Two bytes spell a number of 16 bits. -/
theorem num_two_lt (w : List Byte) (off : Nat) : num w off 2 < 2 ^ 16 := by
  have hlen : (sub w off 2).length ≤ 2 := List.length_take_le _ _
  rw [num]
  match sub w off 2, hlen with
  | [], _ => decide
  | [a], _ =>
    simp only [beNat, List.foldl_cons, List.foldl_nil]
    omega
  | [a, b], _ =>
    simp only [beNat, List.foldl_cons, List.foldl_nil]
    omega

theorem inPair_of_role {s : State} (h : role s = tACTIVE ∨ role s = tSTANDBY) : inPair s = true := by
  rw [inPair, Bool.or_eq_true, beq_iff_eq, beq_iff_eq]
  exact h

/-! ## Words that leave, and the referee's quarter (R321 to R326) -/

/-- What a twin's quarter does besides its word. -/
theorem sendWord_twin {s : State} (href : hasRef s = true) (hpair : inPair s = true) (q : Nat) :
    (sendWord q s).wire = s.wire ++ [.referee 0 (twinWord s q)] ∧ (sendWord q s).twin.swreq = s.twin.swreq - 1 ∧
    (sendWord q s).twin.gotWord = false ∧ (sendWord q s).twin.missed = s.twin.missed + (if s.twin.gotWord then 0 else 1) := by
  rw [sendWord, if_neg (by simp [href]), if_pos hpair]
  cases s.twin.gotWord <;> exact ⟨rfl, rfl, rfl, rfl⟩

theorem sendWord_referee {s : State} (href : hasRef s = true) (hpair : inPair s = false) (hrole : role s = tREFEREE) (q : Nat) :
    (sendWord q s).wire = s.wire ++ [.referee 0 (refereeWordOf s q)] ++ [.referee 1 (refereeWordOf s q)] ∧
    (sendWord q s).twin.seq = (s.twin.seq + 1) % 65536 ∧ (sendWord q s).twin.grant = s.twin.grant - 1 := by
  rw [sendWord, if_neg (by simp [href]), if_neg (by simp [hpair]), if_pos hrole]
  exact ⟨rfl, rfl, rfl⟩

theorem twin_setF (f : Fld) (v : Nat) (s : State) : (setF f v s).twin = s.twin := rfl

theorem twin_bump (f : Fld) (s : State) : (bump f s).twin = s.twin := rfl

theorem twin_seeClaim (c : Nat) (s : State) : (seeClaim c s).twin = s.twin := by
  rw [seeClaim]
  split <;> rfl

theorem owner_takeSide (x : Nat) (w : Option (List Byte)) (s : State) : (takeSide x w s).twin.owner = s.twin.owner := by
  cases w with
  | none => rw [takeSide, twin_bump, twin_setF]
  | some b =>
    rw [takeSide]
    split
    · dsimp only
      split
      · rw [twin_setF, twin_setF, twin_setF, twin_setF, twin_setF, twin_seeClaim]
      · split
        · rw [twin_setF, twin_setF, twin_setF, twin_setF, twin_setF, twin_seeClaim]
        · rw [twin_setF, twin_setF, twin_setF, twin_setF, twin_setF, twin_seeClaim]
    · rw [twin_bump, twin_setF]

section
variable {s : State} (href : hasRef s = true) (hrole : role s = tREFEREE) (a b : Option (List Byte))
include href hrole

theorem refereeQuarter_owned {o : Nat} (ho : s.twin.owner = some o) :
    refereeQuarter a b s = refereeOwned o (sideOk s a) (sideOk s b) (takeSide 1 b (takeSide 0 a s)) := by
  have howner : (takeSide 1 b (takeSide 0 a s)).twin.owner = some o := (owner_takeSide 1 b _).trans ((owner_takeSide 0 a s).trans ho)
  rw [refereeQuarter, if_neg (by simp [href, hrole])]
  simp only [howner]

theorem refereeQuarter_free (ho : s.twin.owner = none) :
    refereeQuarter a b s = refereeFree (sideOk s a) (sideOk s b) (takeSide 1 b (takeSide 0 a s)) := by
  have howner : (takeSide 1 b (takeSide 0 a s)).twin.owner = none := (owner_takeSide 1 b _).trans ((owner_takeSide 0 a s).trans ho)
  rw [refereeQuarter, if_neg (by simp [href, hrole])]
  simp only [howner]

end

theorem twin_after (s t : State) : (after s t).twin = t.twin := rfl

theorem refereeSeen_after {s t : State} (h : RefereeSeen t) : RefereeSeen (after s t) := h

theorem refUnseen {s : State} (href : hasRef s = true) (hpair : inPair s = true) (hsent : s.twin.lostSent = false) :
    (hasRef s && inPair s && !s.twin.lostSent) = true := by
  rw [href, hpair, hsent]
  rfl

/-- Settles O44: what leaves each quarter, what a valid word shows and means, and the referee's judgement. -/
theorem refereeWordsComplete : Obligations.RefereeWordsComplete := by
  refine ⟨?twinWord, ?refWord, ?lost, ?word, ?owner, ?quarter, ?timeout⟩
  case twinWord =>
    intro c q s hrun href hpair
    obtain ⟨hwire, hrest⟩ := sendWord_twin (s := begin_ c s) href hpair q
    exact ⟨_, ends_of_event (op := sendWord q) hrun rfl, hwire, hrest⟩
  case refWord =>
    intro c q s hrun href hpair hrole
    obtain ⟨hwire, hrest⟩ := sendWord_referee (s := begin_ c s) href hpair hrole q
    exact ⟨_, ends_of_event (op := sendWord q) hrun rfl, hwire, hrest⟩
  case lost =>
    intro c s hrun href hpair hsent hroom
    have hop : Ends (.refLost c) c s (fun u => send 13 0 10 6 0 (setF fTWIN_STAT_REFOK 0 { u with twin := { u.twin with lostSent := true } })) :=
      ends_of_event_eq (op := fun _ => _) hrun rfl (if_pos (refUnseen (s := begin_ c s) href hpair hsent))
    refine ⟨_, hop, ?_, ?_, ?_⟩
    · rw [getF_after, getF_send (by decide), getF_setF_self]
      rfl
    · rw [twin_after, (twinSame_send 13 0 10 6 0 _).twin, twin_setF]
    · refine queued_congr (kiln_after _ _) (send_queued (room_congr ?_ hroom) 0 10 6 0)
      rw [kiln_setF]
      rfl
  case word =>
    intro c w s hrun href hpair hw
    exact ⟨ends_of_event hrun rfl, _, ends_of_event (op := takeRefereeWord w) hrun rfl,
      (takeRefereeWord_valid (s := begin_ c s) href hpair hw) ▸ refereeSeen_after (refereeSeen_followOwner w (refereeSeen_seeReferee _ _))⟩
  case owner =>
    intro c w s hrun href hw hvalid
    have hends (g : State → State) (hg : takeRefereeWord w (begin_ c s) = g (begin_ c s)) : Ends (.refereeWord c w) c s g :=
      ends_of_event_eq (op := takeRefereeWord w) hrun rfl hg
    refine ⟨fun hside hgrant hrole => ?_, fun hside hrole => ?_⟩
    · have hop := takeRefereeWord_valid (s := begin_ c s) href (inPair_of_role (.inr hrole)) hw
      rw [followOwner_granted (u := seeReferee (num w 0 2) (begin_ c s)) hvalid (hside.trans (side_seeReferee _ (begin_ c s)).symm) hgrant ((role_seeReferee _ (begin_ c s)).trans hrole)] at hop
      refine ⟨_, hends (fun u => promote (num w 0 2) (seeReferee (num w 0 2) u)) hop, ?_, ?_⟩
      · exact (getF_after _ _ _).trans (role_promote _ _)
      · exact (getF_after _ _ _).trans ((getF_claim_promote _ _).trans (Nat.mod_eq_of_lt (num_two_lt w 0)))
    · have hop := takeRefereeWord_valid (s := begin_ c s) href (inPair_of_role (.inl hrole)) hw
      have hactive := (role_seeReferee (num w 0 2) (begin_ c s)).trans hrole
      rw [followOwner_other (u := seeReferee (num w 0 2) (begin_ c s)) hvalid (fun h => hside (h.trans (side_seeReferee _ (begin_ c s)))) hactive] at hop
      refine ⟨_, hends (fun u => demote (seeReferee (num w 0 2) u)) hop, ?_, ?_⟩
      · exact (getF_after _ _ _).trans (role_demote _ hactive)
      · exact (getF_after _ _ _).trans (sync_demote _ hactive)
  case quarter =>
    intro c a b s hrun href hrole
    exact ⟨fun o ho => ends_of_event_eq (op := refereeQuarter a b) hrun rfl (refereeQuarter_owned (s := begin_ c s) href hrole a b ho),
      fun ho => ends_of_event_eq (op := refereeQuarter a b) hrun rfl (refereeQuarter_free (s := begin_ c s) href hrole a b ho)⟩
  case timeout =>
    intro c s hrun
    exact ⟨ends_of_event hrun rfl, _, ends_of_event hrun rfl, stopped_after rfl⟩

end Sys2Proof.Machine
end

section
/-! Twin commands and what passes between twins (R305 to R320, R328, R333). -/
namespace Sys2Proof.Machine

open Sys2Proof

/-! ## Commands (R305, R319, R320, R328, R333) -/

/-- What TWIN_CONFIG's role does to a state that already holds its settings. -/
def configured (m : Nat) (new : List Nat) (s : State) : State :=
  (if m.testBit 0 then followRole (new.headD 0 % 4) else id) (storeWords [rTWIN_CFG] new s)

/-- The settings that TWIN_CONFIG answers. -/
def twinCfgWord (t : State) : List Byte :=
  be4 (getF t fTWIN_CFG_ROLE + 4 * getF t fTWIN_CFG_SIDE + 8 * getF t fTWIN_CFG_AUTOJOIN + 16 * getF t fTWIN_CFG_PREFER +
    65536 * getF t fTWIN_CFG_PAIRID)

/-- The registers that TWIN_STATUS answers. -/
def twinReport (s : State) : List Byte :=
  [rTWIN_STAT, rTWIN_CFG, rTWIN_CLAIM, rTWIN_MIR, rTWIN_MIRPK, rTWIN_COPY, rTWIN_CNT].flatMap (fun a => be4 (peekReg s a)) ++
    (if role s = tREFEREE then be4 (peekReg s (rTWIN_SIDE 0)) ++ be4 (peekReg s (rTWIN_SIDE 1)) else [])

/-- The join that TWIN_JOIN begins. -/
def beginJoin (r : Req) (s : State) : State :=
  { accept r 0x0901 .join s with twin := { (accept r 0x0901 .join s).twin with join := 1, rejoin := false } }

/-- The switch that TWIN_SWITCH asks for. -/
def askSwitch (r : Req) (k : Nat) (s : State) : State :=
  let t := accept r 0x0902 .switch s
  { t with twin := { t.twin with swreq := 4, force := decide (1 ≤ k),
                                 swClaim := higherClaim (getF t fTWIN_CLAIM_HIGH) (getF t fTWIN_CLAIM_CLAIM) } }

section
variable {r : Req} {s : State} (hl : Live s) (htwin : hasTwin s = true)
include hl htwin

theorem opTwinConfig_taken {w : Word} {m : Nat} {new : List Nat} (hnew : new = applyWords [rTWIN_CFG] 0 m [w.toNat] (heldWords s [rTWIN_CFG]))
    (hrole : m.testBit 0 = true → roleRefused s (new.headD 0 % 4) = false) (hsync : role s ≠ tSTANDBY ∨ sync s = 0) :
    opTwinConfig r w m s = replyOK r 0x0900 (twinCfgWord (configured m new s)) (configured m new s) := by
  have hrefused : (m.testBit 0 && roleRefused s (new.headD 0 % 4)) = false := by
    cases hm : m.testBit 0 with
    | false => rfl
    | true => exact hrole hm
  have hfree : (role s == tSTANDBY && sync s != 0) = false := by
    rcases hsync with h | h <;> simp [h]
  subst hnew
  simp only [opTwinConfig]
  rw [command_live hl _ _ _ _ (find?_bad_eq_none (by
    simp only [List.forall_mem_cons, List.not_mem_nil, false_imp_iff, implies_true, and_true, bad_absentIf, bad_notNowIf, htwin, Bool.not_true,
      hrefused, hfree, Bool.false_and, Bool.or_false])), configured]
  split <;> rfl

theorem opTwinJoin_idle (hf : HandleFree r s) (hok : joinOk s = true) (hidle : s.twin.join = 0) : opTwinJoin r s = beginJoin r s := by
  simp only [opTwinJoin]
  rw [command_live hl _ _ _ _ (find?_bad_eq_none (by simp [htwin, bad_handleLimit hf, hok, hidle]))]
  rfl

theorem opTwinSwitch_synced {k : Nat} (hf : HandleFree r s) (hpair : inPair s = true) (hsync : 2 ≤ switchSync s)
    (hforce : switchSync s ≠ 3 ∨ k ≠ 0) : opTwinSwitch r k s = askSwitch r k s := by
  have hmirrored : decide (switchSync s < 2) = false := decide_eq_false (Nat.not_lt.2 hsync)
  have hmixed : (switchSync s == 3 && k == 0) = false := by
    rcases hforce with h | h <;> simp [h]
  simp only [opTwinSwitch]
  rw [command_live hl _ _ _ _ (find?_bad_eq_none (by
    simp only [List.forall_mem_cons, bad_absentIf, bad_deniedIf, bad_notNowIf, htwin, bad_handleLimit hf, hpair, hmirrored, hmixed, Bool.not_true,
      List.not_mem_nil, false_imp_iff, implies_true, and_self]))]
  rfl

theorem opTwinStatus_there (k : Nat) : opTwinStatus r k s =
    (if 1 ≤ k then foldState (fun f => setF f 0) [fTWIN_CNT_DIVERGE, fTWIN_CNT_MISS, fTWIN_CNT_GRANT, fTWIN_CNT_SYNCLOSS, fTWIN_MIRPK_PEAK] else id)
      (replyOK r 0x0903 (twinReport s) s) := by
  rw [opTwinStatus, command_live hl _ _ _ _ (find?_bad_eq_none (by simp [htwin]))]
  dsimp only
  split <;> rfl

end

theorem accepted_beginJoin (r : Req) (s : State) : Accepted r 0x0901 .join s (after s (beginJoin r s)) := accept_accepted r 0x0901 .join s

theorem twin_accept (r : Req) (op : Nat) (k : OpKind) (s : State) : (accept r op k s).twin = s.twin := by
  rw [accept, (sameButReply_reply _ _ _ _ _ _).1]
  rfl

theorem twin_beginJoin (r : Req) (s : State) : (beginJoin r s).twin = { s.twin with join := 1, rejoin := false } := by
  rw [beginJoin, twin_accept]

theorem accepted_askSwitch (r : Req) (k : Nat) (s : State) : Accepted r 0x0902 .switch s (after s (askSwitch r k s)) :=
  accept_accepted r 0x0902 .switch s

/-! ## A standby's SYNC (R317, R330) -/

/-- A standby that has lost its SYNC, but for its wish to join again. -/
def syncLost (code : Nat) (shard : Bool) (s : State) : State :=
  when_ shard (send 13 0 10 5 0) (forgetSync (failJoin code (when_ (decide (2 ≤ sync s)) (bump fTWIN_CNT_SYNCLOSS) s)))

theorem loseSync_synced {s : State} (hrole : role s = tSTANDBY) (hsync : sync s ≠ 0) (code : Nat) (shard : Bool) :
    loseSync code shard s = { syncLost code shard s with twin := { (syncLost code shard s).twin with rejoin := true } } := by
  rw [loseSync, if_neg (by simp [hrole, hsync]), syncLost]

theorem sync_loseSync {s : State} (hrole : role s = tSTANDBY) (hsync : sync s ≠ 0) (code : Nat) (shard : Bool) :
    sync (loseSync code shard s) = 0 := by
  rw [loseSync_synced hrole hsync, sync, getF_withTwin, syncLost, when_]
  split
  · rw [getF_send (by decide)]
    exact sync_forgetSync _
  · exact sync_forgetSync _

/-- Without its shard a lost SYNC changes no lane and nothing of the Kiln. -/
theorem loseSync_keeps {β : Type} {g : State → β} (hregs : ∀ s m, g { s with regs := m } = g s) (htwin : ∀ s x, g { s with twin := x } = g s)
    (hfinish : ∀ s t, SameButFinish s t → g t = g s) (code : Nat) (s : State) : g (loseSync code false s) = g s := by
  rw [loseSync]
  split
  · rfl
  · refine (htwin _ _).trans ((htwin _ _).trans ((hregs _ _).trans ((hfinish _ _ (sameButFinish_finishAll _ _ _ _)).trans ((htwin _ _).trans ?_))))
    rw [when_]
    split
    · exact hregs _ _
    · rfl

/-- A lane of the pair that is lost (R330). -/
def loseTwinLane (l : Nat) (s : State) : State := loseSync 1 false (send 13 l 10 7 0 (trainLane (8 + l) (setLaneLock (8 + l) false s)))

/-- The active forgets its standby when no lane of the pair is left. -/
def forgetStandby (t : State) : State :=
  if role t = tACTIVE ∧ getF t fTWIN_STAT_TWUP = 0 then { t with twin := { t.twin with peerSync := 0 } } else t

theorem kiln_loseSync (code : Nat) (s : State) : (loseSync code false s).kiln = s.kiln :=
  loseSync_keeps (g := State.kiln) (fun _ _ => rfl) (fun _ _ => rfl) (fun _ _ h => by rw [h.1]) code s

theorem lane_loseSync (code l : Nat) (s : State) : lane (loseSync code false s) l = lane s l :=
  loseSync_keeps (g := (lane · l)) (fun _ _ => rfl) (fun _ _ => rfl) (fun _ _ h => by rw [h.1]; rfl) code s

theorem laneState_twin (l : Nat) (s : State) : laneState s (8 + l) = (lane s (8 + l)).state := if_neg (by omega)

theorem laneState_loseTwinLane (l : Nat) (s : State) : laneState (loseTwinLane l s) (8 + l) = lTRAIN := by
  rw [laneState_twin, loseTwinLane, lane_loseSync, ← laneState_twin, laneState_send, laneState_trainLane]

theorem queued_loseTwinLane {s : State} (hr : Room 13 s) (l : Nat) : Queued 13 l 10 7 0 (loseTwinLane l s) :=
  queued_congr (kiln_loseSync 1 _) (send_queued (room_congr ((kiln_trainLane _ _).trans (kiln_setLaneLock _ _ _)) hr) l 10 7 0)

theorem laneState_forgetStandby (l : Nat) (t : State) : laneState (forgetStandby t) l = laneState t l := by
  rw [forgetStandby]
  split <;> rfl

theorem kiln_forgetStandby (t : State) : (forgetStandby t).kiln = t.kiln := by
  rw [forgetStandby]
  split <;> rfl

/-! ## What passes between twins (R310 to R318) -/

/-- A frame of the pair on lane `l`: its header stands, and it names this pair and this lane (R311). -/
structure PairFrame (l : Nat) (f : TwinFrame) (s : State) : Prop where
  live : laneLive s (8 + l) = true
  up : laneState s (8 + l) = lUP
  comma : f.comma = true
  length : f.header.length = 12
  crc : num f.header 10 2 = crc16 (f.header.take 10)
  pair : num f.header 8 2 = getF s fTWIN_CFG_PAIRID
  lane : num f.header 6 1 % 4 = l

/-- What a frame of the pair brings. -/
def takePairFrame (l : Nat) (f : TwinFrame) (u : State) : State :=
  let v := foldState (takeMsg (8 + l) f.det 2) (areaMsgs 1024 f.msgs) (takeTwinHeader f.header (takeComma (8 + l) true u))
  if laneState v (8 + l) = lUP then foldState takeCell f.cells v else v

theorem twinFrame_pair {l : Nat} {f : TwinFrame} {s : State} (h : PairFrame l f s) : twinFrame l f s = takePairFrame l f s := by
  have hpair : num f.header 8 2 = getF (takeComma (8 + l) true s) fTWIN_CFG_PAIRID := by
    rw [takeComma_up h.up, getF_setLane]
    exact h.pair
  have hon : ¬((!laneLive s (8 + l)) = true ∨ laneState s (8 + l) = lOFF) := by
    rw [h.live, h.up]
    decide
  have hgood : (f.comma && f.header.length == 12 && num f.header 10 2 == crc16 (f.header.take 10) &&
      num f.header 8 2 == getF (takeComma (8 + l) f.comma s) fTWIN_CFG_PAIRID && num f.header 6 1 % 4 == l) = true := by
    simp [h.comma, h.length, h.crc, ← hpair, h.lane]
  rw [twinFrame, if_neg hon]
  dsimp only
  rw [hgood, h.comma]
  rfl

theorem endsMem_event {i : Instr} {c : Nat} {op f : State → State} {s : State} (hr : Running s) (hexec : exec i s = runMem c (ifRunning op) s)
    (hop : op (begin_ c s) = f (begin_ c s)) : EndsMem i c s f :=
  endsMem_of_runMem hexec ((ifRunning_run (running_begin hr c) op).trans hop)

section
variable {s : State} (hrole : role s = tSTANDBY) (hjoin : s.twin.join ≠ 2) (hsync : sync s ≠ 0)
include hrole hjoin hsync

theorem forwarded_onTime {c : Nat} {w : Word} (b : List Byte) (htime : tooLate s c w = false) (hlive : commandsLive s = true) :
    forwarded c w b s = packet c 3 (some w) b s := by
  simp only [forwarded]
  rw [if_neg (by rw [hrole]; decide), if_neg (by simp [hrole]), if_neg hjoin, if_neg hsync, if_neg (by simp [htime, hlive])]

theorem forwarded_late {c : Nat} {w : Word} (b : List Byte) (htime : tooLate s c w = true) : forwarded c w b s = loseSync 2 true s := by
  simp only [forwarded]
  rw [if_neg (by rw [hrole]; decide), if_neg (by simp [hrole]), if_neg hjoin, if_neg hsync, if_pos (by simp [htime])]

end

/-- Settles O43: the commands, then frames, mirror records, forwarded commands and lost lanes. -/
theorem twinsComplete : Obligations.TwinsComplete := by
  refine ⟨⟨?config, ?join, ?switch, ?status⟩, ?frame, ?mirror, ?forwarded, ?loss⟩
  case config =>
    intro r w m new s hl htwin hnew hrole hsync
    exact ends_of_run (op := opTwinConfig r w m) rfl (opTwinConfig_taken (live_begin hl _) htwin hnew hrole hsync)
  case join =>
    intro r s hl htwin hf hok hidle
    have hop : Ends (.twinJoin r) r.c s (beginJoin r) :=
      ends_of_run (op := opTwinJoin r) rfl (opTwinJoin_idle (live_begin hl _) htwin hf hok hidle)
    exact ⟨_, hop, accepted_beginJoin r (begin_ r.c s), twin_beginJoin r (begin_ r.c s)⟩
  case switch =>
    intro r k s hl htwin hf hpair hsync hforce
    have hop : Ends (.twinSwitch r k) r.c s (askSwitch r k) :=
      ends_of_run (op := opTwinSwitch r k) rfl (opTwinSwitch_synced (live_begin hl _) htwin hf hpair hsync hforce)
    exact ⟨_, hop, accepted_askSwitch r k (begin_ r.c s), rfl, rfl⟩
  case status =>
    intro r k s hl htwin
    exact ends_of_run (op := opTwinStatus r k) rfl (opTwinStatus_there (live_begin hl _) htwin k)
  case frame =>
    intro c l f s hlive hup hcomma hlength hcrc hpair hlane
    exact endsMem_of_runMem (op := twinFrame l f) rfl (twinFrame_pair (s := begin_ c s) ⟨hlive, hup, hcomma, hlength, hcrc, hpair, hlane⟩)
  case mirror =>
    intro c m s hrun htwin hrole hsync
    exact endsMem_event (op := mirrorApply m) hrun rfl (if_pos ⟨htwin, hrole, hsync⟩)
  case forwarded =>
    intro c w b s hrun hrole hjoin hsync
    refine ⟨fun htime hlive => ?_, fun htime => ?_⟩
    · exact endsMem_event (op := forwarded c w b) hrun rfl (forwarded_onTime (s := begin_ c s) hrole hjoin hsync b htime hlive)
    · have hends : EndsMem (.forwardedCommand c w b) c s (loseSync 2 true) :=
        endsMem_event (op := forwarded c w b) hrun rfl (forwarded_late (s := begin_ c s) hrole hjoin hsync b htime)
      exact ⟨hends, _, hends, sync_loseSync (s := begin_ c s) hrole hsync 2 true⟩
  case loss =>
    intro c l s hlive hup hroom _
    have hends : Ends (.twinLaneLoss c l) c s (fun u => forgetStandby (loseTwinLane l u)) :=
      ends_of_run (op := fun u => forgetStandby (twinLaneLoss l u)) rfl (congrArg forgetStandby (if_pos ⟨hlive, hup⟩))
    refine ⟨_, hends, ?_, ?_⟩
    · rw [laneState_after, laneState_forgetStandby, laneState_loseTwinLane]
    · exact queued_congr (kiln_after _ _) (queued_congr (kiln_forgetStandby _) (queued_loseTwinLane (s := begin_ c s) hroom l))

end Sys2Proof.Machine
end

section
/-! How shards wait for the Kiln and are taken (R337). -/
namespace Sys2Proof.Machine

open Sys2Proof

/-- Of the shard chosen so far and the next that waits, the one that the Kiln takes first. -/
def firstOf (b : Option Shard) (x : Shard) : Option Shard :=
  match b with
  | none => some x
  | some y => if x.src < y.src ∨ (x.src = y.src ∧ y.inj ∧ !x.inj) then some x else some y

theorem nextShard_eq (s : State) : nextShard s = s.kiln.waiting.foldl firstOf none := rfl

/-- `x` goes first of the shards `l`: the lowest source, within it a real one before an injected one. -/
structure GoesFirst (x : Shard) (l : List Shard) : Prop where
  waits : x ∈ l
  lowest : ∀ y ∈ l, x.src ≤ y.src
  real : x.inj = true → ∀ y ∈ l, y.src = x.src → y.inj = true

theorem goesFirst_firstOf {l : List Shard} {b : Option Shard} {x z : Shard} (hb : ∀ y, b = some y → GoesFirst y l) (hnone : b = none → l = [])
    (hz : firstOf b x = some z) : GoesFirst z (l ++ [x]) := by
  cases b with
  | none =>
    obtain rfl : x = z := Option.some.inj hz
    obtain rfl := hnone rfl
    exact ⟨by simp, by simp, by simp⟩
  | some y =>
    obtain ⟨hwaits, hlowest, hreal⟩ := hb y rfl
    simp only [firstOf] at hz
    split at hz
    · next hfirst =>
      obtain rfl : x = z := Option.some.inj hz
      have hle : x.src ≤ y.src := by omega
      refine ⟨by simp, fun w hw => ?_, fun hinj w hw hsrc => ?_⟩
      · rcases List.mem_append.1 hw with hw | hw
        · exact Nat.le_trans hle (hlowest w hw)
        · exact Nat.le_of_eq (congrArg Shard.src (List.mem_singleton.1 hw)).symm
      · rcases List.mem_append.1 hw with hw | hw
        · have hlow := hlowest w hw
          rcases hfirst with hlt | ⟨-, -, hnot⟩
          · omega
          · simp [hinj] at hnot
        · rw [List.mem_singleton.1 hw, hinj]
    · next hlater =>
      obtain rfl : y = z := Option.some.inj hz
      refine ⟨by simp [hwaits], fun w hw => ?_, fun hinj w hw hsrc => ?_⟩
      · rcases List.mem_append.1 hw with hw | hw
        · exact hlowest w hw
        · rw [List.mem_singleton.1 hw]
          omega
      · rcases List.mem_append.1 hw with hw | hw
        · exact hreal hinj w hw hsrc
        · obtain rfl := List.mem_singleton.1 hw
          cases hw' : w.inj with
          | true => rfl
          | false => exact absurd (.inr ⟨hsrc, hinj, by simp [hw']⟩) hlater

/-- What the choice among waiting shards gives. -/
theorem foldl_firstOf (l : List Shard) :
    (∀ x, l.foldl firstOf none = some x → GoesFirst x l) ∧ (l.foldl firstOf none = none → l = []) := by
  obtain ⟨m, rfl⟩ : ∃ m : List Shard, m.reverse = l := ⟨l.reverse, l.reverse_reverse⟩
  induction m with
  | nil => exact ⟨fun _ h => by simp at h, fun _ => rfl⟩
  | cons x m ih =>
    obtain ⟨hchosen, hnone⟩ := ih
    rw [List.reverse_cons, List.foldl_append, List.foldl_cons, List.foldl_nil]
    refine ⟨fun z hz => goesFirst_firstOf hchosen hnone hz, fun h => ?_⟩
    cases hb : m.reverse.foldl firstOf none with
    | none => simp [hb, firstOf] at h
    | some y =>
      rw [hb] at h
      simp only [firstOf] at h
      split at h <;> contradiction

/-- Settles O46: a queue's 16 places, and the choice among the shards that wait. -/
theorem shardsAreTaken : Obligations.ShardsAreTaken := by
  refine ⟨fun x s hfull => if_pos hfull, fun x s hroom => if_neg (Nat.not_le.2 hroom), fun c x s hrun hnext => ?_, fun x s hnext => ?_, fun s hnext => ?_⟩
  · refine endsMem_event (op := takeNext) hrun rfl ?_
    rw [takeNext, show nextShard (begin_ c s) = some x from hnext]
  · obtain ⟨hwaits, hlowest, hreal⟩ := (foldl_firstOf s.kiln.waiting).1 x hnext
    exact ⟨hwaits, hlowest, hreal⟩
  · exact (foldl_firstOf s.kiln.waiting).2 hnext

end Sys2Proof.Machine
end

section
/-! The Kiln's commands and registers (R336 to R346, R357, R358). -/
namespace Sys2Proof.Machine

open Sys2Proof

/-! ## A cleared bit of a mask -/

/-- A set bit that is subtracted is cleared, and no other. -/
theorem testBit_sub_two_pow {m i : Nat} (h : m.testBit i = true) (k : Nat) : (m - 2 ^ i).testBit k = (m.testBit k && decide (k ≠ i)) := by
  induction i generalizing m k with
  | zero =>
    have hodd : m % 2 = 1 := by simpa [Nat.testBit_zero] using h
    rw [Nat.pow_zero]
    cases k with
    | zero =>
      have heven : (m - 1) % 2 = 0 := by omega
      simp [Nat.testBit_zero, heven]
    | succ k =>
      have hhalf : (m - 1) / 2 = m / 2 := by omega
      simp [Nat.testBit_succ, hhalf]
  | succ i ih =>
    have hge : 2 ^ (i + 1) ≤ m := Nat.ge_two_pow_of_testBit h
    have hpow : 2 ^ (i + 1) = 2 * 2 ^ i := by rw [Nat.pow_succ, Nat.mul_comm]
    cases k with
    | zero =>
      have hparity : (m - 2 ^ (i + 1)) % 2 = m % 2 := by omega
      simp [Nat.testBit_zero, hparity]
    | succ k =>
      have hhalf : (m - 2 ^ (i + 1)) / 2 = m / 2 - 2 ^ i := by omega
      rw [Nat.testBit_succ, hhalf, ih (by rwa [Nat.testBit_succ] at h), Nat.testBit_succ]
      simp

theorem testBit_setBit_false (m i k : Nat) : (setBit m i false).testBit k = (m.testBit k && decide (k ≠ i)) := by
  rw [setBit, if_neg (by decide)]
  split
  · next h => exact testBit_sub_two_pow h k
  · next h =>
    by_cases hk : k = i
    · subst hk
      simp [h]
    · simp [hk]

theorem testBit_clearMaskBit {f : Fld} {k : Nat} (hk : k < f.width) (i : Nat) (s : State) :
    (getF (setMaskBit f i false s) f).testBit k = ((getF s f).testBit k && decide (k ≠ i)) := by
  rw [setMaskBit, getF_setF_self, Nat.testBit_mod_two_pow, testBit_setBit_false, decide_eq_true hk, Bool.true_and]

/-! ## Acknowledgement (R343) -/

theorem escKey (c : Nat) : (fKILN_CLS_ESC c).key = 0x40010100 * 32 + 128 * c + 4 := by
  simp only [Fld.key, fieldKey, fKILN_CLS_ESC, rKILN_CLS]
  omega

/-- Where the fields stand that show all classes. -/
theorem kilnStatKeys :
    fKILN_STAT_ACTIVE.key = 0x40010000 * 32 ∧ fKILN_STAT_UNACK.key = 0x40010000 * 32 + 16 ∧ fKILN_STAT_MAXLVL.key = 0x40010000 * 32 + 27 ∧
    fETH_STAT_LPI.key = 0x400A0000 * 32 + 2 := by decide

/-- A class is acknowledged. -/
def ackClass (c : Nat) (s : State) : State := setF (fKILN_CLS_ESC c) 0 (setMaskBit fKILN_STAT_UNACK c false s)

theorem getF_ackClass {f : Fld} {c : Nat} (hesc : f.key ≠ (fKILN_CLS_ESC c).key) (hunack : f.key ≠ fKILN_STAT_UNACK.key) (s : State) :
    getF (ackClass c s) f = getF s f := by
  rw [ackClass, getF_setF_ne _ _ _ _ hesc, setMaskBit, getF_setF_ne _ _ _ _ hunack]

theorem esc_ackClass (c k : Nat) (s : State) : getF (ackClass c s) (fKILN_CLS_ESC k) = if k = c then 0 else getF s (fKILN_CLS_ESC k) := by
  split
  · next h =>
    rw [h, ackClass, getF_setF_self]
    rfl
  · next h => exact getF_ackClass (by simp only [escKey]; omega) (by simp only [escKey, kilnStatKeys]; omega) s

theorem unack_ackClass {k : Nat} (hk : k < 11) (c : Nat) (s : State) :
    (getF (ackClass c s) fKILN_STAT_UNACK).testBit k = ((getF s fKILN_STAT_UNACK).testBit k && decide (k ≠ c)) := by
  rw [ackClass, getF_setF_ne _ _ _ _ (by simp only [escKey, kilnStatKeys]; omega)]
  exact testBit_clearMaskBit hk c s

theorem foldState_nil {α : Type} (f : α → State → State) (s : State) : foldState f [] s = s := rfl

theorem foldState_cons {α : Type} (f : α → State → State) (a : α) (l : List α) (s : State) :
    foldState f (a :: l) s = foldState f l (f a s) := rfl

/-- What acknowledging the classes of a list leaves. -/
theorem ackClasses (l : List Nat) (s : State) :
    getF (foldState ackClass l s) fKILN_STAT_ACTIVE = getF s fKILN_STAT_ACTIVE ∧
    ∀ k < 11, (getF (foldState ackClass l s) fKILN_STAT_UNACK).testBit k = ((getF s fKILN_STAT_UNACK).testBit k && decide (k ∉ l)) ∧
      getF (foldState ackClass l s) (fKILN_CLS_ESC k) = if k ∈ l then 0 else getF s (fKILN_CLS_ESC k) := by
  induction l generalizing s with
  | nil =>
    rw [foldState_nil]
    exact ⟨rfl, fun k _ => by simp⟩
  | cons c l ih =>
    obtain ⟨hactive, hclass⟩ := ih (ackClass c s)
    have hkept := getF_ackClass (f := fKILN_STAT_ACTIVE) (c := c) (by simp only [escKey, kilnStatKeys]; omega) (by decide) s
    refine ⟨?_, fun k hk => ?_⟩
    · rw [foldState_cons, hactive, hkept]
    · obtain ⟨hunack, hesc⟩ := hclass k hk
      rw [foldState_cons, hunack, hesc, unack_ackClass hk, esc_ackClass]
      by_cases hkc : k = c
      · simp [hkc]
      · simp [hkc]

theorem getF_showMaxLevel {f : Fld} (hf : f.key ≠ fKILN_STAT_MAXLVL.key) (s : State) : getF (showMaxLevel s) f = getF s f :=
  getF_setF_ne _ _ _ _ hf

theorem acknowledge_eq (m : Nat) (s : State) : acknowledge m s = showMaxLevel (foldState ackClass (maskList 11 m) s) := rfl

theorem mem_maskList {n m k : Nat} (hk : k < n) : k ∈ maskList n m ↔ m.testBit k = true := by
  simp [maskList, hk]

/-- The classes of the 11 lowest bits of a mask are acknowledged, and no other. -/
theorem acknowledged_acknowledge (m : Nat) (s : State) : Acknowledged m s (acknowledge (m % 2 ^ 11) s) := by
  obtain ⟨hactive, hclass⟩ := ackClasses (maskList 11 (m % 2 ^ 11)) s
  rw [acknowledge_eq]
  refine ⟨(getF_showMaxLevel (by decide) _).trans hactive, fun k hk => ?_⟩
  obtain ⟨hunack, hesc⟩ := hclass k hk
  have hmem : k ∈ maskList 11 (m % 2 ^ 11) ↔ m.testBit k = true := by
    rw [mem_maskList hk, Nat.testBit_mod_two_pow]
    simp [hk]
  rw [getF_showMaxLevel (by decide), getF_showMaxLevel (by simp only [escKey, kilnStatKeys]; omega), hunack, hesc]
  refine ⟨fun h => ?_, fun h => ?_⟩
  · have hin := hmem.2 h
    simp only [hin, not_true_eq_false, decide_false, Bool.and_false, if_true, and_self]
  · have hout : k ∉ maskList 11 (m % 2 ^ 11) := fun hin => absurd (hmem.1 hin) (by simp [h])
    simp only [hout, not_false_eq_true, decide_true, Bool.and_true, if_false, and_self]

theorem acknowledged_congr {m : Nat} {s t u : State} (h : Acknowledged m s t) (hu : ∀ f : Fld, f.key ≠ fETH_STAT_LPI.key → getF u f = getF t f) :
    Acknowledged m s u := by
  have hesc (k : Nat) (hk : k < 11) := hu (fKILN_CLS_ESC k) (by simp only [escKey, kilnStatKeys]; omega)
  refine ⟨(hu _ (by decide)).trans h.1, fun k hk => ?_⟩
  rw [hu _ (by decide), hesc k hk]
  exact h.2 k hk

/-! ## Commands (R339, R343 to R346, R357, R358) -/

/-- What KILN_READ does to the Kiln: the entries it answers leave the log, and LOST with them. -/
def takeLog (k : Nat) (s : State) : State :=
  setF fKILN_LOGSTAT_LOST 0 { s with kiln := { s.kiln with log := s.kiln.log.drop k, logPos := 0 } }

/-- A kind's level as KILN_LEVEL_SET stores it; a level fixed at 5 stays. -/
def levelSet (k n l : Nat) : Nat := if defaultLevel (k * 256 + n) = 5 then 5 else min l 5

def withLevel (k n v : Nat) (s : State) : State := { s with kiln := { s.kiln with levels := cset defaultLevel s.kiln.levels (k * 256 + n) v } }

/-- An injected shard as the log shows it (R346). -/
def loggedAs (x : Shard) (s : State) : Shard :=
  match (takeShard x (drainSource x.src s)).kiln.log.reverse.find? (fun e => e.shard.inj && e.seq == (drainSource x.src s).kiln.seq) with
  | some e => e.shard
  | none => x

section
variable {r : Req} {s : State} (hl : Live s)
include hl

theorem opKilnLevelSet_defined {k n : Nat} (hdef : kindDefined k n = true) (l : Nat) :
    opKilnLevelSet r k n l s = replyOK r 0x0A04 [byteOf (levelSet k n l), 0, 0, 0] (withLevel k n (levelSet k n l) s) := by
  rw [opKilnLevelSet, command_live hl _ _ _ _ (find?_bad_eq_none (by simp [hdef]))]
  simp only [clampHi_eq_min]
  rfl

theorem opKilnInject_there {src i k n d : Nat} {w : Word} {x : Shard} (hunit : unitAbsent s (min src 24) = false)
    (hdef : kindDefined (min k 10) n = true)
    (hx : x = { inj := true, dry := decide (1 ≤ d), src := min src 24, inst := i, cls := min k 10, kind := n, ctx := w.toNat }) :
    opKilnInject r src i k n w d s = replyOK r 0x0A03 (shardBytes (loggedAs x s)) (takeShard x (drainSource x.src s)) := by
  subst hx
  simp only [opKilnInject, clampHi_eq_min]
  rw [command_live hl _ _ _ _ (find?_bad_eq_none (by simp [hunit, hdef]))]
  rfl

end

theorem kindLevel_withLevel (k n v : Nat) (s : State) : kindLevel (withLevel k n v s) k n = v := cget_cset_self _ _ _ _

theorem kiln_reply (r : Req) (op st d : Nat) (res : List Byte) (s : State) : (reply r op st d res s).kiln = s.kiln := by
  rw [(sameButReply_reply r op st d res s).1]

theorem kindLevel_congr {s t : State} (h : t.kiln = s.kiln) (k n : Nat) : kindLevel t k n = kindLevel s k n := by
  rw [kindLevel, kindLevel, h]

/-! ## The log by register (R357) -/

theorem log_readLog_moves {s : State} (hlog : s.kiln.log ≠ []) (hpos : s.kiln.logPos < 3) :
    (readLog s).kiln.log = s.kiln.log ∧ (readLog s).kiln.logPos = s.kiln.logPos + 1 := by
  rw [readLog, if_neg (by simpa using hlog), if_pos hpos]
  exact ⟨rfl, rfl⟩

theorem log_readLog_drops {s : State} (hpos : 3 ≤ s.kiln.logPos) : (readLog s).kiln.log = s.kiln.log.drop 1 := by
  rw [readLog]
  split
  · next h =>
    rw [List.isEmpty_iff.1 h]
    rfl
  · rw [if_neg (by omega)]

theorem wire_readLog (s : State) : (readLog s).wire = s.wire := by
  rw [readLog]
  split
  · rfl
  · split <;> rfl

/-- A read of KILN_LOG: the word goes out, and the log moves on. -/
def logRead (s : State) : State := emit (.fabric [BitVec.ofNat 32 (logWord s)] false 0) (readLog s)

theorem wire_logRead (s : State) : (logRead s).wire = s.wire ++ [.fabric [BitVec.ofNat 32 (logWord s)] false 0] :=
  congrArg (· ++ _) (wire_readLog s)

/-- Settles O47: the commands, the registers, and what acknowledgement clears. -/
theorem kilnCommandsComplete : Obligations.KilnCommandsComplete := by
  refine ⟨⟨fun r s hl => ⟨?read, ?ackClear, ?level, ?status⟩, ?inject, ?registers, ?log⟩, ?acknowledged, ?acknowledgedRegister⟩
  case read =>
    intro n
    exact ends_of_run (op := opKilnRead r n) rfl (command_live (live_begin hl _) _ _ _ _ rfl)
  case ackClear =>
    intro m
    exact ⟨ends_of_run (op := opKilnAck r m) rfl (command_live (live_begin hl _) _ _ _ _ rfl),
      endsMem_of_runMem (op := opKilnClear r m) rfl (command_live (live_begin hl _) _ _ _ _ rfl)⟩
  case level =>
    intro k n l hdef
    have hends : Ends (.kilnLevelSet r k n l) r.c s
        (fun u => replyOK r 0x0A04 [byteOf (levelSet k n l), 0, 0, 0] (withLevel k n (levelSet k n l) u)) :=
      ends_of_run (op := opKilnLevelSet r k n l) rfl (opKilnLevelSet_defined (live_begin hl _) hdef l)
    refine ⟨_, hends, ?_, reply_sent r 0x0A04 stOK 0 _ (withLevel k n (levelSet k n l) (begin_ r.c s))⟩
    exact (kindLevel_congr ((kiln_after _ _).trans (kiln_reply _ _ _ _ _ _)) k n).trans (kindLevel_withLevel k n _ _)
  case status => exact ends_of_run (op := opKilnStatus r) rfl (command_live (live_begin hl _) _ _ _ _ rfl)
  case inject =>
    intro r src i k n d w x s hl hunit hdef hx
    exact endsMem_of_runMem (op := opKilnInject r src i k n w d) rfl (opKilnInject_there (live_begin hl _) hunit hdef hx)
  case registers =>
    intro c m v s hrun
    exact ⟨ends_of_event hrun rfl, endsMem_event (op := fun u => (clearClasses (v.toNat % 2 ^ 11) u).s) hrun rfl rfl⟩
  case log =>
    intro c m s hrun
    refine ⟨_, ends_of_event (op := logRead) hrun rfl, wire_logRead _, fun hlog hpos => ?_, fun hpos => ?_⟩
    · exact log_readLog_moves (s := begin_ c s) hlog hpos
    · exact log_readLog_drops (s := begin_ c s) hpos
  case acknowledged =>
    intro r m s hl
    have hends : Ends (.kilnAck r m) r.c s (fun u =>
        replyOK r 0x0A01 (be2 (getF (acknowledge (m % 2 ^ 11) u) fKILN_STAT_UNACK) ++ [0, 0]) (acknowledge (m % 2 ^ 11) u)) :=
      ends_of_run (op := opKilnAck r m) rfl (command_live (live_begin hl _) _ _ _ _ rfl)
    exact ⟨_, hends, acknowledged_congr (acknowledged_acknowledge m (begin_ r.c s)) fun f hf => (getF_after _ _ _).trans (getF_reply _ _ _ _ _ _ hf)⟩
  case acknowledgedRegister =>
    intro c a v s hrun
    exact ⟨_, ends_of_event (op := acknowledge (v.toNat % 2 ^ 11)) hrun rfl, acknowledged_congr (acknowledged_acknowledge v.toNat (begin_ c s)) fun f _ => getF_after _ _ f⟩

end Sys2Proof.Machine
end

section
/-! Supplies, temperatures and power states (R336, R348 to R355, R358, R360). -/
namespace Sys2Proof.Machine

open Sys2Proof

/-! ## What a core's work leaves (R95 to R107, R125) -/

/-- Register fields of other units than the Kiln and the cores are as they were, and no shard that waited is gone. -/
structure CoreWork (s t : State) : Prop where
  regs : ∀ f : Fld, unitOfAddr (f.key / 32) ∉ [1, 5] → getF t f = getF s f
  waits : ∀ x ∈ s.kiln.waiting, x ∈ t.kiln.waiting

theorem coreWork_of_eq {s t : State} (hregs : t.regs = s.regs) (hkiln : t.kiln = s.kiln) : CoreWork s t :=
  ⟨fun f _ => by rw [getF, getF, hregs], fun x hx => hkiln ▸ hx⟩

theorem coreWork_refl (s : State) : CoreWork s s := coreWork_of_eq rfl rfl

theorem coreWork_trans {s t u : State} (h : CoreWork s t) (h' : CoreWork t u) : CoreWork s u :=
  ⟨fun f hf => (h'.regs f hf).trans (h.regs f hf), fun x hx => h'.waits x (h.waits x hx)⟩

theorem coreWork_foldState {α : Type} {f : α → State → State} {l : List α} {s : State} (hf : ∀ a ∈ l, ∀ u, CoreWork u (f a u)) :
    CoreWork s (foldState f l s) :=
  List.foldlRecOn (motive := CoreWork s) l _ (coreWork_refl s) fun u hu a ha => coreWork_trans hu (hf a ha u)

theorem coreWork_iter {f : State → State} (hf : ∀ u, CoreWork u (f u)) (k : Nat) (s : State) : CoreWork s (iter f k s) := by
  induction k generalizing s with
  | zero => exact coreWork_refl s
  | succ k ih => exact coreWork_trans (hf s) (ih (f s))

/-- The fields of core `n` that a bundle or its events change. -/
def coreFields (n : Nat) : List Fld :=
  [fCORE_LOAD_BG n, fCORE_CNT_SAT n, fCORE_FLAGS_AOV n, fCORE_FLAGS_FOV n, fCORE_FLAGS_OPND n, fCORE_FLAGS_ADDR n, fCORE_FLAGS_BANK n,
   fCORE_FLAGS_UECC n]

theorem unit_coreField {n : Nat} (hn : n < 128) : ∀ f ∈ coreFields n, unitOfAddr (f.key / 32) ∈ [1, 5] := by
  revert n
  decide

theorem flagOf_mem (n kind : Nat) : flagOf n kind ∈ coreFields n := by
  unfold flagOf
  split <;> simp [coreFields]

section
variable {s t : State} (h : CoreWork s t)
include h

theorem coreWork_setF {f : Fld} (hf : unitOfAddr (f.key / 32) ∈ [1, 5]) (v : Nat) : CoreWork s (setF f v t) :=
  coreWork_trans h ⟨fun g hg => getF_setF_ne f g v t fun hkey => hg (hkey ▸ hf), fun _ hx => hx⟩

theorem coreWork_send (src inst cls kind ctx : Nat) : CoreWork s (send src inst cls kind ctx t) := by
  unfold send enqueue
  split
  · exact coreWork_setF h (f := fKILN_CNT_DROP) (by decide) _
  · exact coreWork_trans h ⟨fun _ _ => rfl, fun x hx => List.mem_append_left _ hx⟩

theorem coreWork_noteFresh (f : Fld) (k : Nat) : CoreWork s (noteFresh f k t) := by
  refine coreWork_trans h (coreWork_of_eq ?_ ?_)
  · rw [noteFresh]
    split <;> rfl
  · rw [noteFresh]
    split <;> rfl

theorem coreWork_setCore (n : Nat) (c : CoreSt) : CoreWork s (setCore n c t) := coreWork_trans h (coreWork_of_eq rfl rfl)

section
variable {n : Nat} (hn : n < 128)
include hn

theorem coreWork_coreField {f : Fld} (hf : f ∈ coreFields n) (v : Nat) : CoreWork s (setF f v t) :=
  coreWork_setF h (unit_coreField hn f hf) v

theorem coreWork_refreshBg : CoreWork s (refreshBg n t) := by
  have hset (v : Nat) : CoreWork s (setF (fCORE_LOAD_BG n) v t) := coreWork_coreField h hn (by simp [coreFields]) v
  rw [refreshBg]
  split
  · exact hset 1
  · exact hset 2
  · exact hset 3
  · exact h
  · exact hset 0
  · exact hset 0

theorem coreWork_coreEvent (kind : Nat) (isBundle : Bool) (a : Nat) : CoreWork s (coreEvent n kind isBundle a t) := by
  have hflag := coreWork_coreField (coreWork_noteFresh h (flagOf n kind) 1) hn (flagOf_mem n kind) 1
  have hshown := coreWork_setF hflag (f := fCORE_STAT_ANYFLAG) (by decide) 1
  rw [coreEvent]
  split
  · exact hshown
  · exact coreWork_send (coreWork_setCore hshown _ _) _ _ _ _ _

theorem coreWork_eventWhen (b : Bool) (kind : Nat) (isBundle : Bool) (a : Nat) :
    CoreWork s (when_ b (coreEvent n kind isBundle a) t) := by
  rw [when_]
  split
  · exact coreWork_coreEvent h hn kind isBundle a
  · exact h

end

theorem coreWork_settleStores (c : Nat) : CoreWork s (settleStores c t) := by
  have hslot (x : SlotStore) (u : State) : CoreWork u (setSlotWord (x.key / 8) (x.key % 8) x.val u) := coreWork_of_eq rfl rfl
  have hleft : CoreWork s { t with stores := t.stores.filter (fun x => !decide (x.seen ≤ c)) } := coreWork_trans h (coreWork_of_eq rfl rfl)
  exact coreWork_trans hleft (coreWork_foldState fun x _ u => hslot x u)

theorem coreWork_put (space loc : Nat) (v : Word) (b : Bool) :
    CoreWork s (when_ b (record space loc v) (setDspWord space loc v t)) := by
  refine coreWork_trans h (coreWork_of_eq ?_ ?_)
  · rw [when_, record]
    split
    · split <;> rfl
    · rfl
  · rw [when_, record]
    split
    · split <;> rfl
    · rfl

end

theorem coreWork_coreLoad (n : Nat) (bg : Bool) (t a : Nat) (s : State) : CoreWork s (coreLoad n bg t a s).s := by
  have hsettled := coreWork_settleStores (coreWork_refl s) t
  rw [coreLoad]
  split
  · exact hsettled
  · split <;> exact hsettled
  · exact hsettled
  · exact hsettled

theorem coreWork_coreStore (n : Nat) (bg : Bool) (t a : Nat) (v : Word) (s : State) : CoreWork s (coreStore n bg t a v s).s := by
  have hs := coreWork_refl s
  rw [coreStore]
  split
  · exact coreWork_put hs _ _ _ _
  · split
    · exact coreWork_put hs _ _ _ _
    · exact hs
  · exact coreWork_of_eq rfl rfl
  · exact hs

theorem coreWork_memSlot (n : Nat) (bg : Bool) (t w : Nat) (c : CoreSt) (s : State) : CoreWork s (memSlot n bg t w c s).s := by
  have hs := coreWork_refl s
  rw [memSlot]
  split
  · exact hs
  · split
    · exact coreWork_coreLoad _ _ _ _ _
    · exact coreWork_coreStore _ _ _ _ _ _
    · split
      · exact hs
      · exact coreWork_coreLoad _ _ _ _ _
    · split
      · exact hs
      · exact coreWork_coreStore _ _ _ _ _ _
    · split <;> exact hs
    · exact hs
    · exact hs

/-- The faults that a bundle raises, and its saturations, after its slots. -/
theorem coreWork_faults {s t : State} (h : CoreWork s t) {n : Nat} (hn : n < 128) (aov fov opnd addr bank : Bool) (pc a sats : Nat) :
    CoreWork s (bumpN (fCORE_CNT_SAT n) sats (noteFresh (fCORE_CNT_SAT n) sats (when_ bank (coreEvent n 5 false a)
      (when_ addr (coreEvent n 4 false a) (when_ opnd (coreEvent n 3 true pc) (when_ fov (coreEvent n 2 true pc)
        (when_ aov (coreEvent n 1 true pc) t))))))) := by
  have h1 := coreWork_eventWhen h hn aov 1 true pc
  have h3 := coreWork_eventWhen (coreWork_eventWhen h1 hn fov 2 true pc) hn opnd 3 true pc
  have h5 := coreWork_eventWhen (coreWork_eventWhen h3 hn addr 4 false a) hn bank 5 false a
  exact coreWork_coreField (coreWork_noteFresh h5 _ sats) hn (by simp [coreFields]) _

theorem coreWork_issueBundle {n : Nat} (hn : n < 128) (s : State) : CoreWork s (issueBundle n s) := by
  unfold issueBundle
  extract_lets
  split
  · exact coreWork_of_eq rfl rfl
  · exact coreWork_faults (coreWork_refreshBg (coreWork_setCore (coreWork_memSlot _ _ _ _ _ _) _ _) hn) hn _ _ _ _ _ _ _ _

/-- A background context that runs or waits is left and parked (R125). -/
def parkBack (n : Nat) (s : State) : State :=
  if bgActive (core_ s n) then refreshBg n (setCore n { leaveBack (core_ s n) with ctx := .parked } s) else s

theorem coreWork_parkBack {s t : State} (h : CoreWork s t) {n : Nat} (hn : n < 128) : CoreWork s (parkBack n t) := by
  rw [parkBack]
  split
  · exact coreWork_refreshBg (coreWork_setCore h _ _) hn
  · exact h

theorem coreWork_parkCore {n : Nat} (hn : n < 128) (s : State) : CoreWork s (parkCore n s) := by
  rw [parkCore]
  split
  · exact coreWork_parkBack (coreWork_iter (coreWork_issueBundle hn) _ s) hn
  · exact coreWork_parkBack (coreWork_refl s) hn

/-! ## The Damper state (R348) -/

/-- A shard that waits goes on waiting while cores work. -/
theorem queued_coreWork {s t : State} (h : CoreWork s t) {src inst cls kind ctx : Nat} (hq : Queued src inst cls kind ctx s) :
    Queued src inst cls kind ctx t := h.waits _ hq

/-- A dip is shown, counted and sent, and an NVS write stops. -/
def dipShown (rail : Nat) (s : State) : State :=
  setF fPWR_STAT_DAMPER 1 (setF fNVS_STAT_BUSY 0 (bump fPWR_CNT_DIPS (send 16 0 5 1 rail (setMaskBit fPWR_STAT_WARN rail true s))))

def parkCores (s : State) : State := foldState parkCore (List.range 128) s

theorem coreWork_parkCores (s : State) : CoreWork s (parkCores s) :=
  coreWork_foldState fun _ hn u => coreWork_parkCore (List.mem_range.1 hn) u

theorem dip_enters {s : State} (hoff : getF s fPWR_STAT_DAMPER = 0) (rail : Nat) :
    dip rail s = pauseScrubs true (parkCores (dipShown rail s)) := by
  rw [dip, if_neg (by simp [hoff]), dipShown, parkCores]

theorem getF_pauseScrubs (on : Bool) (s : State) (f : Fld) : getF (pauseScrubs on s) f = getF s f := rfl

theorem kiln_pauseScrubs (on : Bool) (s : State) : (pauseScrubs on s).kiln = s.kiln := rfl

theorem pwr_pauseScrubs (on : Bool) (s : State) : (pauseScrubs on s).pwr = s.pwr := rfl

theorem getF_dip {s : State} (hoff : getF s fPWR_STAT_DAMPER = 0) (rail : Nat) {f : Fld} (hf : unitOfAddr (f.key / 32) ∉ [1, 5]) :
    getF (dip rail s) f = getF (dipShown rail s) f := by
  rw [dip_enters hoff, getF_pauseScrubs, (coreWork_parkCores _).regs f hf]

theorem damper_dipShown (rail : Nat) (s : State) : getF (dipShown rail s) fPWR_STAT_DAMPER = 1 := by
  rw [dipShown, getF_setF_self]
  rfl

theorem busy_dipShown (rail : Nat) (s : State) : getF (dipShown rail s) fNVS_STAT_BUSY = 0 := by
  rw [dipShown, getF_setF_ne _ _ _ _ (by decide), getF_setF_self]
  rfl

theorem warn_dipShown {rail : Nat} (hrail : rail < 7) (s : State) : (getF (dipShown rail s) fPWR_STAT_WARN).testBit rail = true := by
  rw [dipShown, getF_setF_ne _ _ _ _ (by decide), getF_setF_ne _ _ _ _ (by decide), getF_bump_ne (by decide), getF_send (by decide)]
  exact testBit_setMaskBit_self hrail s

theorem dips_dipShown (rail : Nat) (s : State) :
    getF (dipShown rail s) fPWR_CNT_DIPS = min (2 ^ fPWR_CNT_DIPS.width - 1) (getF s fPWR_CNT_DIPS + 1) := by
  rw [dipShown, getF_setF_ne _ _ _ _ (by decide), getF_setF_ne _ _ _ _ (by decide), getF_bump_self, getF_send (by decide), setMaskBit,
    getF_setF_ne _ _ _ _ (by decide)]

theorem queued_dipShown {s : State} (hr : Room 16 s) (rail : Nat) : Queued 16 0 5 1 rail (dipShown rail s) := by
  have hsent : Queued 16 0 5 1 rail (send 16 0 5 1 rail (setMaskBit fPWR_STAT_WARN rail true s)) :=
    send_queued (room_congr (kiln_setF _ _ _) hr) 0 5 1 rail
  rw [dipShown]
  exact queued_congr ((kiln_setF _ _ _).trans ((kiln_setF _ _ _).trans (kiln_bump _ _))) hsent

/-! ## NVS writes that were held (R348) -/

/-- Only memory, firmware state and the registers of the NVS may have changed. -/
structure NvsWork (s t : State) : Prop where
  pwr : t.pwr = s.pwr
  kiln : t.kiln = s.kiln
  regs : ∀ f : Fld, unitOfAddr (f.key / 32) ≠ 17 → getF t f = getF s f

theorem nvsWork_of_eq {s t : State} (hpwr : t.pwr = s.pwr) (hkiln : t.kiln = s.kiln) (hregs : t.regs = s.regs) : NvsWork s t :=
  ⟨hpwr, hkiln, fun f _ => by rw [getF, getF, hregs]⟩

theorem nvsWork_trans {s t u : State} (h : NvsWork s t) (h' : NvsWork t u) : NvsWork s u :=
  ⟨h'.pwr.trans h.pwr, h'.kiln.trans h.kiln, fun f hf => (h'.regs f hf).trans (h.regs f hf)⟩

theorem nvsWork_setF {f : Fld} (hf : unitOfAddr (f.key / 32) = 17) (v : Nat) (s : State) : NvsWork s (setF f v s) :=
  ⟨rfl, rfl, fun g hg => getF_setF_ne f g v s fun hkey => hg (hkey ▸ hf)⟩

theorem nvsWork_wearLine (s : State) : NvsWork s (wearLine s) := by
  have hcount (n : Nat) : NvsWork s { s with upd := { s.upd with lineWrites := n } } := nvsWork_of_eq rfl rfl rfl
  rw [wearLine]
  split
  · exact hcount _
  · exact nvsWork_trans (nvsWork_trans (hcount _) (nvsWork_setF (f := fNVS_STAT_WEAR) (by decide) _ _)) (nvsWork_of_eq rfl rfl rfl)

theorem nvsWork_writeNvs (w : HeldWrite) (s : State) : NvsWork s (writeNvs w s) := by
  unfold writeNvs
  split
  · exact nvsWork_trans (nvsWork_trans (t := setMemBytes _ _ s) (nvsWork_of_eq rfl rfl rfl) (nvsWork_setF (f := fNVS_CNT_LINES) (by decide) _ _))
      (nvsWork_wearLine _)
  · exact nvsWork_of_eq rfl rfl rfl
  · exact nvsWork_of_eq rfl rfl rfl
  · next b =>
    exact nvsWork_trans (t := { s with upd := { s.upd with boot := b } }) (nvsWork_of_eq rfl rfl rfl)
      (nvsWork_setF (f := fNVS_STAT_PRIMARY) (by decide) _ _)

/-- The hold is empty before its writes take place. -/
def emptyHold (s : State) : State := setF fNVS_STAT_HELD 0 { s with pwr := { s.pwr with held := [] } }

theorem flushNvs_eq (s : State) : flushNvs s = foldState writeNvs s.pwr.held (emptyHold s) := rfl

theorem nvsWork_flushNvs (s : State) : NvsWork (emptyHold s) (flushNvs s) :=
  List.foldlRecOn (motive := NvsWork (emptyHold s)) s.pwr.held _ (nvsWork_of_eq rfl rfl rfl) fun u hu w _ =>
    nvsWork_trans hu (nvsWork_writeNvs w u)

theorem getF_flushNvs {f : Fld} (hf : unitOfAddr (f.key / 32) ≠ 17) (s : State) : getF (flushNvs s) f = getF s f := by
  rw [(nvsWork_flushNvs s).regs f hf, emptyHold, getF_setF_ne _ _ _ _ fun hkey => hf (by rw [hkey]; decide)]
  rfl

theorem kiln_flushNvs (s : State) : (flushNvs s).kiln = s.kiln := by
  rw [(nvsWork_flushNvs s).kiln, emptyHold, kiln_setF]

theorem held_flushNvs (s : State) : (flushNvs s).pwr.held = [] := by
  rw [(nvsWork_flushNvs s).pwr]
  rfl

/-! ## The end of a dip (R348) -/

/-- The end of a dip is shown and sent. -/
def dipOver (s : State) : State :=
  send 16 0 5 2 0 (setF fPWR_STAT_DAMPER 0 (setF fPWR_STAT_WARN (getF s fPWR_STAT_WARN / 64 * 64) s))

/-- What was held is written, unless a reaction still holds it. -/
def writeHeld (u : State) : State := if nvsHeld u then u else flushNvs u

theorem dipEnd_ends {s : State} (hon : getF s fPWR_STAT_DAMPER = 1) : dipEnd s = pauseScrubs false (writeHeld (dipOver s)) := by
  rw [dipEnd, if_neg (by simp [hon]), dipOver, writeHeld]

theorem getF_writeHeld {f : Fld} (hf : unitOfAddr (f.key / 32) ≠ 17) (s : State) : getF (writeHeld s) f = getF s f := by
  rw [writeHeld]
  split
  · rfl
  · exact getF_flushNvs hf s

theorem kiln_writeHeld (s : State) : (writeHeld s).kiln = s.kiln := by
  rw [writeHeld]
  split
  · rfl
  · exact kiln_flushNvs s

theorem damper_dipOver (s : State) : getF (dipOver s) fPWR_STAT_DAMPER = 0 := by
  rw [dipOver, getF_send (by decide), getF_setF_self]
  rfl

theorem warn_dipOver (s : State) : getF (dipOver s) fPWR_STAT_WARN = getF s fPWR_STAT_WARN / 64 * 64 % 2 ^ fPWR_STAT_WARN.width := by
  rw [dipOver, getF_send (by decide), getF_setF_ne _ _ _ _ (by decide), getF_setF_self]

theorem standing_send (src inst cls kind ctx : Nat) (s : State) : (send src inst cls kind ctx s).kiln.standing = s.kiln.standing := by
  unfold send enqueue
  split <;> rfl

theorem held_writeHeld {s : State} (hdamper : getF s fPWR_STAT_DAMPER = 0) (hnone : s.kiln.standing = []) : (writeHeld s).pwr.held = [] := by
  have hfree : nvsHeld s = false := by
    rw [nvsHeld, hdamper, hnone]
    rfl
  rw [writeHeld, hfree]
  exact held_flushNvs s

theorem queued_dipOver {s : State} (hr : Room 16 s) : Queued 16 0 5 2 0 (dipOver s) :=
  send_queued (room_congr ((kiln_setF _ _ _).trans (kiln_setF _ _ _)) hr) 0 5 2 0

/-! ## Temperatures (R336) -/

theorem kiln_showTj (j : Int) (s : State) : (showTj j s).kiln = s.kiln := by rw [showTj, kiln_setFI, kiln_setFI]

theorem pwr_send (src inst cls kind ctx : Nat) (s : State) : (send src inst cls kind ctx s).pwr = s.pwr := by
  unfold send enqueue
  split <;> rfl

theorem pwr_showTj (j : Int) (s : State) : (showTj j s).pwr = s.pwr := rfl

def withPwr (p : PwrSt) (s : State) : State := { s with pwr := p }

theorem kiln_withPwr (p : PwrSt) (s : State) : (withPwr p s).kiln = s.kiln := rfl

theorem pwr_withPwr (p : PwrSt) (s : State) : (withPwr p s).pwr = p := rfl

/-- The shard of a hot die, and the note that it is sent. -/
def tjWarns (j : Int) (s : State) : State :=
  send 16 0 6 5 0 (withPwr { (showTj j s).pwr with tjWarned := true } (showTj j s))
def tjIsCrit (j : Int) (s : State) : State :=
  send 16 0 6 6 0 (withPwr { (showTj j s).pwr with tjCrit := true } (showTj j s))

section
variable {s : State} {j : Int}

theorem tjWarn_hot (hj : 1050 < j) (hw : s.pwr.tjWarned = false) : tjWarn j s = tjWarns j s := if_pos (by simp [hj, hw])

theorem tjCrit_hot (hj : 1200 < j) (hw : s.pwr.tjCrit = false) : tjCrit j s = tjIsCrit j s := if_pos (by simp [hj, hw])

theorem tjWarn_cool (hj : j ≤ 1000) : tjWarn j s = { showTj j s with pwr := { (showTj j s).pwr with tjWarned := false } } := by
  have hnot : ¬1050 < j := by omega
  rw [tjWarn, if_neg (by simp [hnot]), if_pos hj]

theorem tjCrit_cool (hj : j ≤ 1150) : tjCrit j s = { showTj j s with pwr := { (showTj j s).pwr with tjCrit := false } } := by
  have hnot : ¬1200 < j := by omega
  rw [tjCrit, if_neg (by simp [hnot]), if_pos hj]

theorem queued_tjWarns (hr : Room 16 s) : Queued 16 0 6 5 0 (tjWarns j s) := by
  rw [tjWarns]
  exact send_queued (room_congr ((kiln_withPwr _ _).trans (kiln_showTj j s)) hr) 0 6 5 0

theorem queued_tjIsCrit (hr : Room 16 s) : Queued 16 0 6 6 0 (tjIsCrit j s) := by
  rw [tjIsCrit]
  exact send_queued (room_congr ((kiln_withPwr _ _).trans (kiln_showTj j s)) hr) 0 6 6 0

theorem warned_tjWarns : (tjWarns j s).pwr.tjWarned = true := by rw [tjWarns, pwr_send, pwr_withPwr]

theorem crit_tjIsCrit : (tjIsCrit j s).pwr.tjCrit = true := by rw [tjIsCrit, pwr_send, pwr_withPwr]

end

/-! ## Standby and Dormant (R352, R353, R358) -/

theorem accepted_from {r : Req} {op : Nat} {k : OpKind} {s u t : State} (hchans : u.chans = s.chans) (hops : u.ops = s.ops) (hgen : u.gen = s.gen)
    (h : Accepted r op k u t) : Accepted r op k s t := by
  have hchan (n : Nat) : chan u n = chan s n := by rw [chan, chan, hchans]
  have hnext (n : Nat) : nextHandle u n = nextHandle s n := by rw [nextHandle, nextHandle, issueCount, issueCount, hchan]
  obtain ⟨hsent, hhandles, hkinds⟩ := h
  simp only [Sent, hchan, hnext, hgen, hops] at hsent hhandles hkinds
  exact ⟨hsent, hhandles, hkinds⟩

theorem pwr_accept (r : Req) (op : Nat) (k : OpKind) (s : State) : (accept r op k s).pwr = s.pwr := by
  rw [accept, (sameButReply_reply _ _ _ _ _ _).1]
  rfl

/-- PWR_STAT shows Standby, and the entry begins at the next boundary (R352). -/
def entersStandby (s : State) : State :=
  let t := setF fPWR_STAT_STANDBY 1 s
  if t.pwr.standby = .awake then { t with pwr := { t.pwr with standby := .entering 100 } } else t

/-- PWR_STAT shows no Standby, and a gated engine begins to leave it (R352). -/
def leavesStandby (s : State) : State :=
  let t := setF fPWR_STAT_STANDBY 0 s
  if t.pwr.standby = .gated then startLeaving t else t

section
variable {r : Req} {s : State} (hl : Live s)
include hl

theorem opStandbyEnter_awake (hf : HandleFree r s) (hoff : getF s fPWR_STAT_STANDBY = 0) :
    opStandbyEnter r s = accept r 0x0007 .standbyEnter (entersStandby s) := by
  rw [opStandbyEnter, command_live hl _ _ _ _ (find?_bad_eq_none (by simp [bad_handleLimit hf, hoff])), entersStandby]

theorem opStandbyLeave_standing (hf : HandleFree r s) (hon : getF s fPWR_STAT_STANDBY = 1) :
    opStandbyLeave r s = accept r 0x0007 .standbyLeave (leavesStandby s) := by
  rw [opStandbyLeave, command_live hl _ _ _ _ (find?_bad_eq_none (by simp [bad_handleLimit hf, hon])), leavesStandby]

theorem opSysDormant_standing (hon : getF s fPWR_STAT_STANDBY = 1) :
    opSysDormant r 0xD5E7 s = replyOK r 0x0008 [] { s with pwr := { s.pwr with dormDue := true } } :=
  command_live hl _ _ _ _ (find?_bad_eq_none (by simp [hon]))

end

/-- A view that neither registers, supplies, memory nor the dynamics change is as it was when Standby begins or ends. -/
theorem entersStandby_keeps {β : Type} {g : State → β} (hregs : ∀ s m, g { s with regs := m } = g s) (hpwr : ∀ s p, g { s with pwr := p } = g s)
    (s : State) : g (entersStandby s) = g s := by
  rw [entersStandby]
  split
  · exact (hpwr _ _).trans (hregs _ _)
  · exact hregs _ _

theorem leavesStandby_keeps {β : Type} {g : State → β} (hregs : ∀ s m, g { s with regs := m } = g s) (hpwr : ∀ s p, g { s with pwr := p } = g s)
    (hmem : ∀ s m, g { s with mem := m } = g s) (hdyns : ∀ s d, g { s with dyns := d } = g s) (s : State) : g (leavesStandby s) = g s := by
  rw [leavesStandby]
  split
  · exact (hmem _ _).trans ((hdyns _ _).trans ((hpwr _ _).trans (hregs _ _)))
  · exact hregs _ _

theorem standby_entersStandby (s : State) : getF (entersStandby s) fPWR_STAT_STANDBY = 1 := by
  have hset : getF (setF fPWR_STAT_STANDBY 1 s) fPWR_STAT_STANDBY = 1 := getF_setF_self _ _ _
  rw [entersStandby]
  split
  · exact hset
  · exact hset

theorem getF_startLeaving (s : State) (f : Fld) : getF (startLeaving s) f = getF s f := rfl

theorem standby_leavesStandby (s : State) : getF (leavesStandby s) fPWR_STAT_STANDBY = 0 := by
  have hset : getF (setF fPWR_STAT_STANDBY 0 s) fPWR_STAT_STANDBY = 0 := getF_setF_self _ _ _
  rw [leavesStandby]
  split
  · rw [getF_startLeaving, hset]
  · exact hset

theorem entering_entersStandby {s : State} (h : s.pwr.standby = .awake) : (entersStandby s).pwr.standby = .entering 100 := by
  have hset : (setF fPWR_STAT_STANDBY 1 s).pwr.standby = .awake := h
  rw [entersStandby, if_pos hset]

theorem leaving_leavesStandby {s : State} (h : s.pwr.standby = .gated) : (leavesStandby s).pwr.standby = .leaving := by
  have hset : (setF fPWR_STAT_STANDBY 0 s).pwr.standby = .gated := h
  rw [leavesStandby, if_pos hset]
  rfl

/-- What the entry into Dormant leaves of the supplies' state (R353). -/
theorem enterDormant_due {s : State} (hdue : s.pwr.dormDue = true) (hon : getF s fPWR_STAT_STANDBY = 1) :
    (enterDormant s).pwr.phase = .dormant ∧ (enterDormant s).pwr.keepPwren = false := by
  rw [enterDormant, if_pos (by simp [hdue, hon])]
  exact ⟨rfl, rfl⟩

theorem pwr_keepWake (s : State) (h : s.pwr.phase = .dormant) : Yields .keepWake s (fun t => t.pwr = { s.pwr with keepPwren := true }) := by
  have hends : Ends .keepWake 0 s (fun u => { u with pwr := { u.pwr with keepPwren := true } }) :=
    ends_of_run (op := fun u => if u.pwr.phase = .dormant then { u with pwr := { u.pwr with keepPwren := true } } else u) rfl (if_pos h)
  exact ⟨_, hends, rfl⟩

/-- Settles O48: supplies and temperatures, then the ways into Standby and Dormant and out of them. -/
theorem suppliesAndPowerComplete : Obligations.SuppliesAndPowerComplete := by
  refine ⟨⟨?dip, ?dipEnd, ?vkeep, ?warn, ?warnEnd, ?crit, ?critEnd⟩, ?enter, ?leave, ?dormant, ?entry, pwr_keepWake⟩
  case dip =>
    intro c n s hrun hoff hroom
    have hoff' : getF (begin_ c s) fPWR_STAT_DAMPER = 0 := hoff
    refine ⟨_, ends_of_event (op := dip n) hrun rfl, ?_, ?_, ?_, ?_, ?_⟩
    · rw [getF_after, getF_dip hoff' n (by decide), damper_dipShown]
    · rw [getF_after, getF_dip hoff' n (by decide)]
      exact warn_dipShown (by omega) _
    · rw [getF_after, getF_dip hoff' n (by decide), busy_dipShown]
    · rw [dip_enters hoff']
      exact queued_congr ((kiln_after _ _).trans (kiln_pauseScrubs _ _)) (queued_coreWork (coreWork_parkCores _) (queued_dipShown (s := begin_ c s) hroom n))
    · rw [getF_after, getF_dip hoff' n (by decide), dips_dipShown, getF_begin]
  case dipEnd =>
    intro c s hrun hon hroom
    have hends : EndsMem (.dipEnd c) c s (fun u => pauseScrubs false (writeHeld (dipOver u))) :=
      endsMem_event (op := dipEnd) hrun rfl (dipEnd_ends (s := begin_ c s) hon)
    refine ⟨_, hends, ?_, ?_, ?_, fun hnone => ?_⟩
    · exact (getF_writeHeld (by decide) _).trans (damper_dipOver _)
    · exact queued_congr (kiln_writeHeld _) (queued_dipOver (s := begin_ c s) hroom)
    · exact (getF_writeHeld (by decide) _).trans (warn_dipOver _)
    · exact held_writeHeld (damper_dipOver _) ((standing_send _ _ _ _ _ _).trans hnone)
  case vkeep =>
    intro c s hrun hroom
    refine ⟨_, ends_of_event (op := vkeepLow) hrun rfl, ?_, ?_⟩
    · rw [getF_after, vkeepLow, getF_send (by decide)]
      exact testBit_setMaskBit_self (by decide) _
    · refine queued_congr (kiln_after _ _) ?_
      rw [vkeepLow]
      exact send_queued (room_congr (s := begin_ c s) (kiln_setF _ _ _) hroom) 0 5 3 0
  case warn =>
    intro c j s hrun hj hw hroom
    exact ⟨_, ends_of_event_eq (op := tjWarn j) hrun rfl (tjWarn_hot (s := begin_ c s) hj hw), warned_tjWarns,
      queued_tjWarns (s := begin_ c s) hroom⟩
  case warnEnd =>
    intro c j s hrun hj
    refine ⟨_, ends_of_event (op := tjWarn j) hrun rfl, ?_⟩
    rw [tjWarn_cool hj]
    rfl
  case crit =>
    intro c j s hrun hj hw hroom
    exact ⟨_, ends_of_event_eq (op := tjCrit j) hrun rfl (tjCrit_hot (s := begin_ c s) hj hw), crit_tjIsCrit,
      queued_tjIsCrit (s := begin_ c s) hroom⟩
  case critEnd =>
    intro c j s hrun hj
    refine ⟨_, ends_of_event (op := tjCrit j) hrun rfl, ?_⟩
    rw [tjCrit_cool hj]
    rfl
  case enter =>
    intro r s hl hf hoff
    have hends : Ends (.standbyEnter r) r.c s (fun u => accept r 0x0007 .standbyEnter (entersStandby u)) :=
      ends_of_run (op := opStandbyEnter r) rfl (opStandbyEnter_awake (live_begin hl _) hf hoff)
    have hkeeps {β : Type} {g : State → β} (hregs : ∀ s m, g { s with regs := m } = g s) (hpwr : ∀ s p, g { s with pwr := p } = g s) :
        g (entersStandby (begin_ r.c s)) = g (begin_ r.c s) := entersStandby_keeps hregs hpwr _
    refine ⟨_, hends, ?_, ?_, fun hawake => ?_⟩
    · exact accepted_from (hkeeps (g := State.chans) (fun _ _ => rfl) (fun _ _ => rfl)) (hkeeps (g := State.ops) (fun _ _ => rfl) (fun _ _ => rfl))
        (hkeeps (g := State.gen) (fun _ _ => rfl) (fun _ _ => rfl)) (accept_accepted r 0x0007 .standbyEnter (entersStandby (begin_ r.c s)))
    · rw [getF_after, getF_accept (by decide), standby_entersStandby]
    · exact (congrArg PwrSt.standby (pwr_accept _ _ _ _)).trans (entering_entersStandby (s := begin_ r.c s) hawake)
  case leave =>
    intro r s hl hf hon
    have hends : EndsMem (.standbyLeave r) r.c s (fun u => accept r 0x0007 .standbyLeave (leavesStandby u)) :=
      endsMem_of_runMem (op := opStandbyLeave r) rfl (opStandbyLeave_standing (live_begin hl _) hf hon)
    have hkeeps {β : Type} {g : State → β} (hregs : ∀ s m, g { s with regs := m } = g s) (hpwr : ∀ s p, g { s with pwr := p } = g s)
        (hmem : ∀ s m, g { s with mem := m } = g s) (hdyns : ∀ s d, g { s with dyns := d } = g s) :
        g (leavesStandby (begin_ r.c s)) = g (begin_ r.c s) := leavesStandby_keeps hregs hpwr hmem hdyns _
    refine ⟨_, hends, ?_, ?_, fun hgated => ?_⟩
    · exact accepted_from (hkeeps (g := State.chans) (fun _ _ => rfl) (fun _ _ => rfl) (fun _ _ => rfl) (fun _ _ => rfl))
        (hkeeps (g := State.ops) (fun _ _ => rfl) (fun _ _ => rfl) (fun _ _ => rfl) (fun _ _ => rfl))
        (hkeeps (g := State.gen) (fun _ _ => rfl) (fun _ _ => rfl) (fun _ _ => rfl) (fun _ _ => rfl))
        (accept_accepted r 0x0007 .standbyLeave (leavesStandby (begin_ r.c s)))
    · exact (getF_accept (by decide) _ _ _ _).trans (standby_leavesStandby _)
    · exact (congrArg PwrSt.standby (pwr_accept _ _ _ _)).trans (leaving_leavesStandby (s := begin_ r.c s) hgated)
  case dormant =>
    intro r s hl hon
    exact ends_of_run (op := opSysDormant r 0xD5E7) rfl (opSysDormant_standing (live_begin hl _) hon)
  case entry =>
    intro c s hrun hdue hon
    exact ⟨_, endsMem_event (op := enterDormant) hrun rfl rfl, enterDormant_due (s := begin_ c s) hdue hon⟩

end Sys2Proof.Machine
end

section
/-! Resets that take the whole engine (R211, R291, R350, R351, R353, R355, R396, R397). -/
namespace Sys2Proof.Machine

open Sys2Proof

/-! ## Fields set one after the other -/

section
variable (v : Nat → Nat) {l : List (Fld × Nat)}

theorem getF_setEach_ne {f : Fld} (hf : ∀ e ∈ l, f.key ≠ e.1.key) (t : State) :
    getF (foldState (fun e => setF e.1 (v e.2)) l t) f = getF t f := by
  induction l generalizing t with
  | nil => rw [foldState_nil]
  | cons a l ih =>
    rw [foldState_cons, ih (fun e he => hf e (List.mem_cons_of_mem a he)), getF_setF_ne _ _ _ _ (hf a List.mem_cons_self)]

theorem getF_setEach (hl : l.Pairwise (fun a b => a.1.key ≠ b.1.key)) {e : Fld × Nat} (he : e ∈ l) (t : State) :
    getF (foldState (fun e => setF e.1 (v e.2)) l t) e.1 = v e.2 % 2 ^ e.1.width := by
  induction l generalizing t with
  | nil => simp at he
  | cons a l ih =>
    obtain ⟨hhead, htail⟩ := List.pairwise_cons.1 hl
    rw [foldState_cons]
    rcases List.mem_cons.1 he with rfl | he
    · rw [getF_setEach_ne v hhead, getF_setF_self]
    · exact ih htail he _

end

/-! ## The cause of a reset (R351) -/

/-- The fields of SYS_RSTCAUSE with the numbers of their causes. -/
def causeFields : List (Fld × Nat) :=
  [(fSYS_RSTCAUSE_COLD, 0), (fSYS_RSTCAUSE_PIN, 1), (fSYS_RSTCAUSE_BROWN, 2), (fSYS_RSTCAUSE_WDOG, 3), (fSYS_RSTCAUSE_SOFT, 4),
   (fSYS_RSTCAUSE_DORM, 5)]

theorem unit_causeField : ∀ e ∈ causeFields, unitOfAddr (e.1.key / 32) = 0 ∧ e.1.width = 1 := by decide

theorem setCause_eq (bit : Nat) (s : State) : setCause bit s = foldState (fun e => setF e.1 (b01 (e.2 == bit))) causeFields s := rfl

theorem getF_setCause (bit : Nat) (s : State) {e : Fld × Nat} (he : e ∈ causeFields) : getF (setCause bit s) e.1 = if e.2 = bit then 1 else 0 := by
  have hdistinct : causeFields.Pairwise (fun a b => a.1.key ≠ b.1.key) := by decide
  rw [setCause_eq, getF_setEach (fun k => b01 (k == bit)) hdistinct he, (unit_causeField e he).2]
  by_cases h : e.2 = bit
  · simp [h, b01]
  · simp [h, b01]

/-- SYS_RSTCAUSE shows a cause alone. -/
def CauseAlone (bit : Nat) (t : State) : Prop := ∀ e ∈ causeFields, getF t e.1 = if e.2 = bit then 1 else 0

theorem causeAlone_congr {bit : Nat} {s t : State} (h : ∀ f : Fld, unitOfAddr (f.key / 32) = 0 → getF t f = getF s f) (hs : CauseAlone bit s) :
    CauseAlone bit t := fun e he => (h e.1 (unit_causeField e he).1).trans (hs e he)

/-- Nothing of the channels, the oven, the outputs, the twin or the Kiln is left, and the engine is held. -/
structure Emptied (t : State) : Prop where
  phase : t.pwr.phase = .held
  chans : t.chans = []
  ops : t.ops = []
  staged : t.staged = []
  oven : t.oven = Bake.empty
  proof : t.proof = Bake.empty
  commits : t.commits = []
  outs : t.outs = []
  kiln : t.kiln = {}
  twin : t.twin = {}

theorem heldInReset_of {bit : Nat} {t : State} (h : Emptied t) (hcause : CauseAlone bit t) : HeldInReset bit t := by
  have hall : causeFields.all (fun e => getF t e.1 == if e.2 = bit then 1 else 0) = true :=
    List.all_eq_true.2 fun e he => beq_iff_eq.2 (hcause e he)
  exact ⟨h.phase, h.chans, h.ops, h.staged, h.oven, h.proof, h.commits, h.outs, h.kiln, h.twin, hall⟩

/-! ## The state after a reset (R211, R291, R338, R350) -/

theorem emptied_freshState (k : ResetKind) (s : State) : Emptied (freshState k s) := by
  constructor <;> rfl

theorem emptied_setF {s : State} (h : Emptied s) (f : Fld) (v : Nat) : Emptied (setF f v s) := by
  obtain ⟨hphase, hchans, hops, hstaged, hoven, hproof, hcommits, houts, hkiln, htwin⟩ := h
  exact ⟨hphase, hchans, hops, hstaged, hoven, hproof, hcommits, houts, hkiln, htwin⟩

theorem emptied_setCause (bit : Nat) {s : State} (h : Emptied s) : Emptied (setCause bit s) := by
  rw [setCause_eq]
  exact foldState_preserves (P := Emptied) (fun e u hu => emptied_setF hu e.1 _) causeFields h

theorem emptied_showProt {s : State} (h : Emptied s) (n : Nat) : Emptied (showProt n s) := by
  have hshown : Emptied (setMaskBit fPROT_STAT_LIMITING n (fpLt (prot s n).gNew fpOne) (setMaskBit fPROT_STAT_HOT n (fpLt (pTmax s n) (prot s n).tc)
      (setF (fPROT_RUN_PF n) (clampI 0 65535 (fpToInt (fpMul (prot s n).pf fpTen) 0)).toNat
        (setFI (fPROT_TEMP_TC n) (tenths (prot s n).tc) (setFI (fPROT_TEMP_TS n) (tenths (prot s n).ts) s))))) :=
    emptied_setF (emptied_setF (emptied_setF (emptied_setF (emptied_setF h _ _) _ _) _ _) _ _) _ _
  rw [showProt, when_]
  split
  · exact emptied_setF (emptied_setF (emptied_setF hshown _ _) _ _) _ _
  · exact hshown

theorem emptied_setProt {s : State} (h : Emptied s) (n : Nat) (q : ProtSt) : Emptied (setProt n q s) := by
  obtain ⟨hphase, hchans, hops, hstaged, hoven, hproof, hcommits, houts, hkiln, htwin⟩ := h
  exact ⟨hphase, hchans, hops, hstaged, hoven, hproof, hcommits, houts, hkiln, htwin⟩

theorem emptied_restoreThermal {s : State} (h : Emptied s) (n : Nat) : Emptied (restoreThermal n s) := by
  rw [restoreThermal]
  split
  · exact h
  · exact emptied_showProt (emptied_setProt h n _) n

theorem getF_restoreThermal {n : Nat} (hn : n < 16) {f : Fld} (hf : unitOfAddr (f.key / 32) = 0) (s : State) :
    getF (restoreThermal n s) f = getF s f := by
  have hunits : ∀ n < 16, ∀ g ∈ shownFields n, unitOfAddr (g.key / 32) ≠ 0 := by decide
  rw [restoreThermal]
  split
  · rfl
  · rw [getF_showProt fun g hg hkey => hunits n hn g hg (hkey ▸ hf), getF_setProt]

/-- A reset's fresh state with its cause, the last-fault record and the banked word, before the thermal model comes back. -/
def resetBase (k : ResetKind) (bit : Nat) (s : State) : State :=
  let u := setF fKILN_LASTH_SHARD 1 (setF fKILN_LASTL_SHARD bit (setCause bit (freshState k s)))
  setF fCLK_FREQ_FREQ (memWord u bankAddr) (setF fCLK_BANK_BANK (memWord u bankAddr) u)

theorem fullReset_eq (k : ResetKind) (bit : Nat) (s : State) : fullReset k bit s = foldState restoreThermal (List.range 16) (resetBase k bit s) := rfl

theorem causeAlone_setCause (bit : Nat) (s : State) : CauseAlone bit (setCause bit s) := fun _ he => getF_setCause bit s he

theorem causeAlone_resetBase (k : ResetKind) (bit : Nat) (s : State) : CauseAlone bit (resetBase k bit s) := by
  refine causeAlone_congr (fun f hf => ?_) (causeAlone_setCause bit (freshState k s))
  have hother {g : Fld} (hg : unitOfAddr (g.key / 32) ≠ 0) : f.key ≠ g.key := fun hkey => hg (hkey ▸ hf)
  rw [resetBase, getF_setF_ne _ _ _ _ (hother (by decide)), getF_setF_ne _ _ _ _ (hother (by decide)), getF_setF_ne _ _ _ _ (hother (by decide)),
    getF_setF_ne _ _ _ _ (hother (by decide))]

theorem emptied_resetBase (k : ResetKind) (bit : Nat) (s : State) : Emptied (resetBase k bit s) := by
  have hset := emptied_setF (emptied_setF (emptied_setCause bit (emptied_freshState k s)) fKILN_LASTL_SHARD bit) fKILN_LASTH_SHARD 1
  rw [resetBase]
  exact emptied_setF (emptied_setF hset _ _) _ _

theorem emptied_fullReset (k : ResetKind) (bit : Nat) (s : State) : Emptied (fullReset k bit s) := by
  rw [fullReset_eq]
  exact foldState_preserves (P := Emptied) (fun n u hu => emptied_restoreThermal hu n) (List.range 16) (emptied_resetBase k bit s)

theorem causeAlone_fullReset (k : ResetKind) (bit : Nat) (s : State) : CauseAlone bit (fullReset k bit s) := by
  rw [fullReset_eq]
  exact List.foldlRecOn (motive := CauseAlone bit) _ _ (causeAlone_resetBase k bit s) fun u hu n hn =>
    causeAlone_congr (fun f hf => getF_restoreThermal (List.mem_range.1 hn) hf u) hu

theorem heldInReset_fullReset (k : ResetKind) (bit : Nat) (s : State) : HeldInReset bit (fullReset k bit s) :=
  heldInReset_of (emptied_fullReset k bit s) (causeAlone_fullReset k bit s)

theorem emptied_withPwr {s : State} (h : Emptied s) {p : PwrSt} (hp : p.phase = .held) : Emptied (withPwr p s) := by
  obtain ⟨-, hchans, hops, hstaged, hoven, hproof, hcommits, houts, hkiln, htwin⟩ := h
  exact ⟨hp, hchans, hops, hstaged, hoven, hproof, hcommits, houts, hkiln, htwin⟩

theorem getF_withPwr (p : PwrSt) (s : State) (f : Fld) : getF (withPwr p s) f = getF s f := rfl

theorem coldReset_eq (s : State) : coldReset s = withPwr {} (setCause 0 (freshState .cold s)) := by rw [coldReset, withPwr]

theorem heldInReset_coldReset (s : State) : HeldInReset 0 (coldReset s) := by
  rw [coldReset_eq]
  exact heldInReset_of (emptied_withPwr (emptied_setCause 0 (emptied_freshState .cold s)) rfl)
    (causeAlone_congr (fun f _ => getF_withPwr _ _ f) (causeAlone_setCause 0 (freshState .cold s)))

theorem heldInReset_afterMem {bit : Nat} {s t : State} (h : HeldInReset bit t) : HeldInReset bit (afterMem s t) := h

/-- A reset that an instruction performs, whatever lets it take place. -/
theorem yields_fullReset {i : Instr} {c : Nat} {k : ResetKind} {bit : Nat} {op : State → State} {s : State} (hexec : exec i s = runMem c op s)
    (hop : op (begin_ c s) = fullReset k bit (begin_ c s)) : Yields i s (HeldInReset bit) :=
  ⟨_, endsMem_of_runMem hexec hop, heldInReset_afterMem (heldInReset_fullReset k bit _)⟩

/-- The leaving of Dormant (R353). -/
def leaveDormant (s : State) : State := withPwr { (fullReset .pin 5 s).pwr with phase := .run } (fullReset .pin 5 s)

theorem resetRelease_held {s : State} (h : s.pwr.phase = .held) : resetRelease s = withPwr { s.pwr with phase := .run } s := by
  rw [resetRelease, h]
  rfl

theorem resetRelease_dormant {s : State} (h : s.pwr.phase = .dormant) : resetRelease s = leaveDormant s := by
  rw [resetRelease, h]
  rfl

theorem dorm_leaveDormant (s : State) : getF (leaveDormant s) fSYS_RSTCAUSE_DORM = 1 := by
  have hcause := causeAlone_fullReset .pin 5 s (fSYS_RSTCAUSE_DORM, 5) (by decide)
  rw [leaveDormant, getF_withPwr]
  exact hcause

theorem getF_afterMem (s t : State) (f : Fld) : getF (afterMem s t) f = getF t f := rfl

theorem phase_leaveDormant (s : State) : (leaveDormant s).pwr.phase = .run := by rw [leaveDormant, pwr_withPwr]

theorem pwr_afterMem (s t : State) : (afterMem s t).pwr = t.pwr := rfl

theorem watchdogExpiry_second (s : State) : watchdogExpiry true s = fullReset .watchdog 3 s := rfl

theorem opDeviceReset_confirmed {r : Req} {s : State} (hl : Live s) :
    opDeviceReset r 0xD5E7 s = replyOK r 0x0002 [] { s with pwr := { s.pwr with softDue := true } } := command_live hl _ _ _ _ rfl

/-- Settles O49: each reset by the fresh state it leaves and the cause it shows. -/
theorem fullResetsComplete : Obligations.FullResetsComplete := by
  refine ⟨?cold, ?pin, ?brownOut, ?watchdog, ?soft, ?release, ?leave, ?vkeep, ?device⟩
  case cold =>
    intro s
    exact ⟨_, endsMem_of_runMem (op := coldReset) rfl rfl, heldInReset_afterMem (heldInReset_coldReset _)⟩
  case pin =>
    intro c s hup
    exact yields_fullReset (op := fun u => if poweredUp u then fullReset .pin 1 u else u) rfl (if_pos hup)
  case brownOut =>
    intro c n s hup
    exact yields_fullReset (op := fun u => if poweredUp u then fullReset .pin 2 u else u) rfl (if_pos hup)
  case watchdog =>
    intro c s hrun
    exact yields_fullReset (op := ifRunning (watchdogExpiry true)) rfl
      ((ifRunning_run (running_begin hrun c) _).trans (watchdogExpiry_second _))
  case soft =>
    intro c s hrun hdue
    exact yields_fullReset (op := ifRunning fun u => if u.pwr.softDue then fullReset .soft 4 u else u) rfl
      ((ifRunning_run (running_begin hrun c) _).trans (if_pos hdue))
  case release =>
    intro s hheld
    exact ⟨_, endsMem_of_runMem (op := resetRelease) rfl (resetRelease_held (s := begin_ 0 s) hheld), rfl⟩
  case leave =>
    intro s hdormant
    exact ⟨_, endsMem_of_runMem (op := resetRelease) rfl (resetRelease_dormant (s := begin_ 0 s) hdormant),
      (congrArg PwrSt.phase (pwr_afterMem _ _)).trans (phase_leaveDormant _), (getF_afterMem _ _ _).trans (dorm_leaveDormant _)⟩
  case vkeep =>
    intro s
    have hends : EndsMem .vkeepFall 0 s (fun u => withPwr { phase := .keepLow } (freshState .cold u)) :=
      endsMem_of_runMem (op := fun u => withPwr { phase := .keepLow } (freshState .cold u)) rfl rfl
    exact ⟨_, hends, rfl⟩
  case device =>
    intro r s hl
    exact ends_of_run (op := opDeviceReset r 0xD5E7) rfl (opDeviceReset_confirmed (live_begin hl _))

end Sys2Proof.Machine
end

section
/-! In Standby, commands that latch at a boundary are refused (R352). -/
namespace Sys2Proof.Machine

open Sys2Proof

section
variable {r : Req} {s : State} (hl : Live s) (hrole : getF s fTWIN_STAT_ROLE ≠ 2 ∨ r.ch = 3) (hstandby : inStandby s = true)

include hl hstandby in
/-- A command whose checks before Standby's all pass. -/
theorem command_inStandby {pre : List Guard} (hpre : ∀ g ∈ pre, g.bad = false) (op : Nat) (k : State → State) :
    command r op (pre ++ [standbyNotNow s]) k s = reply r op stNOTNOW 14 [] s := by
  have hfirst : (pre ++ [standbyNotNow s]).find? (fun g => g.bad) = some (standbyNotNow s) := by
    rw [List.find?_append, find?_bad_eq_none hpre]
    simp [standbyNotNow, hstandby]
  exact command_bad hl r op _ k (standbyNotNow s) hfirst

include hl hrole hstandby

theorem opGate_inStandby {n : Nat} (hport : (portDef s.oven (min n 7)).isSome = true) (action ramp mask : Nat) :
    opGate r n action ramp mask s = reply r 0x0500 stNOTNOW 14 [] s := by
  simp only [opGate, clampHi_eq_min]
  exact command_inStandby hl hstandby (pre := [standbyDenied r s, deniedIf (portDef s.oven (min n 7)).isNone 1])
    (by simpa [bad_standbyDenied_of_reaches hrole] using hport) _ _

theorem opStageSet_inStandby (hmod : hasMod s = true) (o m : Nat) (ws : List Word) :
    opStageSet r o m ws s = reply r 0x0602 stNOTNOW 14 [] s :=
  command_inStandby hl hstandby (pre := [absentMod s, standbyDenied r s])
    (by simp [bad_absentMod hmod, bad_standbyDenied_of_reaches hrole]) _ _

theorem opProtSet_inStandby (hprot : hasProt s = true) (o m : Nat) (ws : List Word) :
    opProtSet r o m ws s = reply r 0x0610 stNOTNOW 14 [] s :=
  command_inStandby hl hstandby (pre := [absentProt s, standbyDenied r s])
    (by simp [bad_absentProt hprot, bad_standbyDenied_of_reaches hrole]) _ _

theorem opAesStreamSet_inStandby {o : Nat} (haes : (aesDef s.oven o).isSome = true) (f : AesFields) :
    opAesStreamSet r o f s = reply r 0x0710 stNOTNOW 14 [] s :=
  command_inStandby hl hstandby (pre := [standbyDenied r s, deniedIf (aesDef s.oven o).isNone 1])
    (by simpa [bad_standbyDenied_of_reaches hrole] using haes) _ _

theorem opDelaySet_inStandby {es : List DelayEntry} (hes : ∀ e ∈ es, (delayDef s.oven e.line).isSome = true) :
    opDelaySet r es s = reply r 0x0304 stNOTNOW 14 [] s := by
  have hbad : es.any (fun e => (delayDef s.oven e.line).isNone) = false :=
    List.any_eq_false.2 fun e he => by simpa using Option.isSome_iff_ne_none.1 (hes e he)
  exact command_inStandby hl hstandby (pre := [standbyDenied r s, deniedIf (es.any (fun e => (delayDef s.oven e.line).isNone)) 1])
    (by simp only [List.forall_mem_cons, bad_standbyDenied_of_reaches hrole, bad_deniedIf, hbad, List.not_mem_nil, false_imp_iff, implies_true,
      and_self]) _ _

/-- Is some value of a write not a number, where its parameter takes numbers (R84)? -/
def writesNaN (s : State) (es : List ParamEntry) : Bool :=
  es.any fun e => match paramDef s.oven e.id with
    | some (_, d) => d.kind != 3 && fpIsNaN e.value
    | none => false

theorem opParamWrite_inStandby {es : List ParamEntry} (hes : ∀ e ∈ es, (paramDef s.oven e.id).isSome = true ∧ fpIsNaN e.value = false) :
    opParamWrite r es s = reply r 0x0210 stNOTNOW 14 [] s := by
  have hbad : es.any (fun e => (paramDef s.oven e.id).isNone) = false :=
    List.any_eq_false.2 fun e he => by simpa using Option.isSome_iff_ne_none.1 (hes e he).1
  have hnan : writesNaN s es = false := by
    refine List.any_eq_false.2 fun e he => ?_
    split
    · simp [(hes e he).2]
    · simp
  exact command_inStandby hl hstandby
    (pre := [standbyDenied r s, deniedIf (es.any (fun e => (paramDef s.oven e.id).isNone)) 1, deniedIf (writesNaN s es) 20])
    (by simp only [List.forall_mem_cons, bad_standbyDenied_of_reaches hrole, bad_deniedIf, hbad, hnan, List.not_mem_nil, false_imp_iff,
      implies_true, and_self]) _ _

end

/-- Settles O51: each command by the check that refuses it. -/
theorem standbyBarsLatching : Obligations.StandbyBarsLatching := by
  intro r s hl hrole hstandby
  have hl' := live_begin hl r.c
  refine ⟨fun n l m hport i hi => ?_, fun o m ws => ⟨fun hmod => ?_, fun hprot => ?_⟩, fun o f haes => ?_, fun es hes => ?_, fun es hes => ?_⟩
  · have hgate (action mask : Nat) := opGate_inStandby (s := begin_ r.c s) hl' hrole hstandby hport action l mask
    simp only [List.mem_cons, List.not_mem_nil, or_false] at hi
    rcases hi with rfl | rfl | rfl | rfl
    · exact ends_of_run (op := opGate r n 0 l 0) rfl (hgate 0 0)
    · exact ends_of_run (op := opGate r n 1 l 0) rfl (hgate 1 0)
    · exact ends_of_run (op := opGate r n 2 l m.toNat) rfl (hgate 2 m.toNat)
    · exact ends_of_run (op := opGate r n 3 l m.toNat) rfl (hgate 3 m.toNat)
  · exact ends_of_run (op := opStageSet r o m ws) rfl (opStageSet_inStandby (s := begin_ r.c s) hl' hrole hstandby hmod o m ws)
  · exact ends_of_run (op := opProtSet r o m ws) rfl (opProtSet_inStandby (s := begin_ r.c s) hl' hrole hstandby hprot o m ws)
  · exact ends_of_run (op := opAesStreamSet r o f) rfl (opAesStreamSet_inStandby (s := begin_ r.c s) hl' hrole hstandby haes f)
  · exact ends_of_run (op := opDelaySet r es) rfl (opDelaySet_inStandby (s := begin_ r.c s) hl' hrole hstandby hes)
  · exact ends_of_run (op := opParamWrite r es) rfl (opParamWrite_inStandby (s := begin_ r.c s) hl' hrole hstandby hes)

end Sys2Proof.Machine
end

section
/-! NVS lines and settings (R348, R376 to R378, R391, R392, R410). -/
namespace Sys2Proof.Machine

open Sys2Proof

/-! ## Writes that are not held (R348) -/

section
variable {s : State} (hfree : nvsHeld s = false)

include hfree

theorem holdFull_free (n : Nat) : holdFull s n = false := by simp [holdFull, hfree]

theorem nvsWrite_free (w : HeldWrite) : nvsWrite w s = writeNvs w s := if_neg (by simp [hfree])

theorem nvsGo_writes {m : Master} {v : Nat} (hv : v % 2 = 1) (hbusy : getF s fNVS_STAT_BUSY = 0) (hline : m = .sup ∨ 6208 ≤ getF s fNVS_LINE_LINE) :
    nvsGo m v s = setF fNVS_STAT_BUSY 1 (writeNvs (.line (nvsBase + 64 * getF s fNVS_LINE_LINE) (nvsLine s)) s) := by
  have htaken : ¬(getF s fNVS_STAT_BUSY = 1 ∨ (m ≠ .sup ∧ getF s fNVS_LINE_LINE < 6208) ∨ holdFull s 64 = true) := by
    rw [hbusy, holdFull_free hfree]
    rintro (hbusy | ⟨hm, hlow⟩ | hfull)
    · exact Nat.zero_ne_one hbusy
    · exact hline.elim hm (Nat.not_le.2 hlow)
    · exact Bool.false_ne_true hfull
  rw [nvsGo, if_neg (by omega)]
  exact (if_neg htaken).trans ((if_neg (by simp [hfree])).trans (congrArg _ (nvsWrite_free hfree _)))

end

theorem nvsGo_refused {m : Master} {v : Nat} {s : State} (hv : v % 2 = 1)
    (hbars : getF s fNVS_STAT_BUSY = 1 ∨ (m ≠ .sup ∧ getF s fNVS_LINE_LINE < 6208)) : nvsGo m v s = bump fNVS_CNT_REJ s := by
  rw [nvsGo, if_neg (by omega)]
  exact if_pos (hbars.imp_right .inl)

/-! ## Records (R377, R410) -/

section
variable {r : Req} {s : State} (hl : Live s) (hfree : nvsHeld s = false)

include hl hfree

theorem opSetWrite_free {k : Nat} (hk : 0x8000 ≤ k) (d : List Byte) :
    opSetWrite r k d s = replyOK r 0x0B10 [] (writeNvs (.record (areaInUse s) { key := k, fmt := 0, data := d }) s) := by
  have hbad : ∀ g ∈ [deniedIf (decide (k < 0x8000)) 1, notNowIf (holdFull s (4 + d.length)) 15], g.bad = false := by
    simp [holdFull_free hfree, hk]
  rw [opSetWrite, command_live hl _ _ _ _ (find?_bad_eq_none hbad), nvsWrite_free hfree]

theorem opSysBootSave_free (hroom : HandleFree r s) (hstop : Stopped isBootSave s) :
    opSysBootSave r s =
      accept r 0x0009 .bootSave (foldState (fun x t => nvsWrite (.record (areaInUse t) x) t) (bootRecords s) s) := by
  have hnone : s.ops.any (fun o => isBootSave o.kind) = false := by simpa [Stopped] using hstop
  have hbad : ∀ g ∈ [handleLimit r s, notNowIf (holdFull s (8 * bootRegs.length)) 15, busyIf (s.ops.any (fun o => isBootSave o.kind))], g.bad = false := by
    simp only [List.forall_mem_cons, bad_handleLimit hroom, bad_notNowIf, bad_busyIf, holdFull_free hfree, hnone, List.not_mem_nil, false_imp_iff,
      implies_true, and_self]
  rw [opSysBootSave, command_live hl _ _ _ _ (find?_bad_eq_none hbad)]

end

theorem opSetRead_live {r : Req} {s : State} (hl : Live s) (k : Nat) :
    opSetRead r k s = replyOK r 0x0B11 (be2 (recordAt s k).length ++ [0, 0] ++ recordAt s k) s := command_live hl r _ _ _ rfl

theorem appliedWord_begin (c : Nat) (s : State) (a : Nat) : appliedWord (begin_ c s) a = appliedWord s a := rfl

theorem manifest_begin (c : Nat) (s : State) (b : Nat) : manifest (begin_ c s) b = manifest s b := rfl

theorem bootRecords_begin (c : Nat) (s : State) : bootRecords (begin_ c s) = bootRecords s := by
  simp only [bootRecords, appliedWord_begin, manifest_begin, activeBank, getF_begin]

/-- The end of SYS_BOOT_SAVE while no writes are held. -/
theorem bootSaveDone_free {c : Nat} {s : State} (hrun : Running s) (hfree : nvsHeld s = false) :
    Ends (.sysBootSaveDone c) c s (finishAll isBootSave stOK (be2 bootRegs.length ++ [0, 0])) :=
  ends_of_event_eq (op := fun _ => _) hrun rfl (if_neg (Bool.eq_false_iff.1 hfree))

/-- Settles O53: each command by what its checks let through, each event by its branch. -/
theorem nvsAndSettingsComplete : Obligations.NvsAndSettingsComplete := by
  refine ⟨fun c m v s hrun hv hbusy hline hfree => ?_, fun c m v s hrun hv hbars => ?_, fun c s hrun => ends_of_event hrun rfl,
    fun r k d s hl hk hfree => ?_, fun r k s hl => ?_, fun r s hl hroom hfree hstop => ?_, fun c s hrun hfree => ⟨bootSaveDone_free hrun hfree, ?_⟩⟩
  · exact endsMem_event (op := nvsGo m v.toNat) hrun rfl (nvsGo_writes (s := begin_ c s) hfree hv hbusy hline)
  · exact endsMem_event (op := nvsGo m v.toNat) hrun rfl (nvsGo_refused (s := begin_ c s) hv hbars)
  · exact endsMem_of_runMem (op := opSetWrite r k d) rfl (opSetWrite_free (s := begin_ r.c s) (live_begin hl _) hfree hk d)
  · exact ends_of_run (op := opSetRead r k) rfl (opSetRead_live (live_begin hl _) k)
  · exact endsMem_of_runMem (op := opSysBootSave r) rfl
      ((opSysBootSave_free (s := begin_ r.c s) (live_begin hl _) hfree hroom hstop).trans (by rw [bootRecords_begin]))
  · exact ⟨_, bootSaveDone_free hrun hfree, stopped_after rfl⟩

end Sys2Proof.Machine
end

section
/-! The control fabric and the supervisor (R359 to R374, R385). -/
namespace Sys2Proof.Machine

open Sys2Proof

/-! ## Transfers (R361 to R367) -/

/-- The size of a request's beats, and the address of the first (R364). -/
def fabSize (q : FabReq) : Nat := if q.size = 1 ∨ q.size = 2 then q.size else 4
def fabStart (q : FabReq) : Nat := q.addr.toNat / fabSize q * fabSize q

/-- Does a lock, a rival's grant or a Unit reset hold the way to a place (R363, R365, R367)? -/
def pathHeld (m : Master) (q : FabReq) (s : State) (x : Target) (b : Nat) : Bool :=
  lockedOut s m x || grantOf s x (m :: q.rivals) != some m || (x == .reg && s.kiln.resets.any (fun u => u.unit == unitOfAddr b))

/-- Does the transfer wait? One to the default target does not. -/
def fabWaits (m : Master) (q : FabReq) (s : State) : Bool :=
  match beatTarget m (fabStart q) q.write (fabSize q) s with
  | some (x, b) => pathHeld m q s x b
  | none => false

/-- A transfer waits, or its words, its error and its cycles are the last thing put out. -/
theorem fabricTransfer_eq (m : Master) (q : FabReq) (s : State) :
    ∃ w e k t, fabricTransfer m q s = if fabWaits m q s then s else emit (.fabric w e k) t := ⟨_, _, _, _, rfl⟩

theorem fabWaits_eq_false {m : Master} {q : FabReq} {s : State}
    (h : ∀ x y, beatTarget m (fabStart q) q.write (fabSize q) s = some (x, y) → pathHeld m q s x y = false) : fabWaits m q s = false := by
  rw [fabWaits]
  split
  · exact h _ _ ‹_›
  · rfl

theorem fabric_getLast?_of_free {m : Master} {q : FabReq} {s : State} (h : fabWaits m q s = false) :
    ∃ w e k, (fabricTransfer m q s).wire.getLast? = some (.fabric w e k) := by
  obtain ⟨w, e, k, t, heq⟩ := fabricTransfer_eq m q s
  rw [heq, h]
  exact ⟨w, e, k, List.getLast?_concat⟩

theorem pathHeld_eq_false {m : Master} {q : FabReq} {s : State} {x : Target} {b : Nat} (hlock : lockedOut s m x = false)
    (hgrant : grantOf s x (m :: q.rivals) = some m) (hunit : x = .reg → s.kiln.resets.any (fun u => u.unit == unitOfAddr b) = false) :
    pathHeld m q s x b = false := by
  have hreset : (x == .reg && s.kiln.resets.any (fun u => u.unit == unitOfAddr b)) = false := by
    by_cases hx : x = .reg
    · rw [hunit hx, Bool.and_false]
    · rw [beq_false_of_ne hx, Bool.false_and]
  simp [pathHeld, hlock, hgrant, hreset]

theorem fabWaits_begin (m : Master) (q : FabReq) (c : Nat) (s : State) : fabWaits m q (begin_ c s) = fabWaits m q s := rfl

/-! ## Watchdog, heartbeats and locks (R360, R368, R373, R374) -/

theorem serviceWdog_key {key : Nat} {s : State} (hkey : key % 65536 = 0xA5F0) : serviceWdog key s = withPwr { s.pwr with wdog := 0 } s :=
  if_pos hkey

/-- A helper's timer is restarted, and its supervision with it. -/
def restartHelper (h : Nat) (p : PwrSt) : PwrSt := { p with hbeat := setT 0 p.hbeat h 0, hlpStop := p.hlpStop.filter (fun k => !(k == h)) }

theorem hbeat_restartHelper (h : Nat) (p : PwrSt) : getT 0 (restartHelper h p).hbeat h = 0 := getT_setT_self 0 p.hbeat h 0

theorem not_mem_hlpStop_restartHelper (h : Nat) (p : PwrSt) : h ∉ (restartHelper h p).hlpStop := by simp [restartHelper]

/-- A heartbeat that changes the count. -/
theorem heartbeat_changes {h v : Nat} {s : State} (hnew : getF s (fFAB_HBEAT_COUNT h) ≠ v % 65536) :
    heartbeat h v s = setF (fFAB_HBEAT_COUNT h) v (withPwr (restartHelper h s.pwr) s) := if_neg hnew

theorem lock_send (src inst cls kind ctx : Nat) (s : State) : (send src inst cls kind ctx s).lock = s.lock := by
  unfold send enqueue
  split
  · rfl
  · rfl

/-- A lock that is cut: the state before the shard that reports it (R368). -/
def unlocked (s : State) : State := bump fFAB_CNT_CUT { s with lock := none }

theorem cutLock_held {p : Master → Bool} {m : Master} {a : Nat} {s : State} (hlock : s.lock = some (m, a)) (hp : p m = true) :
    cutLock p s = send 15 0 8 2 a (unlocked s) := by
  simp only [cutLock, hlock, hp, if_true]
  rfl

theorem lock_unlocked (s : State) : (unlocked s).lock = none := rfl

theorem lock_after (s t : State) : (after s t).lock = t.lock := rfl

theorem room_unlocked {src : Nat} {s : State} (h : Room src s) : Room src (unlocked s) := room_congr ((kiln_bump _ _).trans rfl) h

theorem supervisorStart_due {k : Start} {s : State} (hdue : startDue s = some k) : supervisorStart s = romStart k s := by
  simp only [supervisorStart, hdue]

/-- Settles O52: each event by the branch that its state takes. -/
theorem fabricAndSupervisorComplete : Obligations.FabricAndSupervisorComplete := by
  refine ⟨fun c m q s hrun hway => ?_, fun c m v s hrun hkey => ?_, fun c m v s hrun => ends_of_event hrun rfl, fun c m h v s hrun hnew => ?_,
    fun c h s hrun hruns hroom => ?_, fun c a s hrun hlock hroom => ?_, fun c k s hrun hdue => ?_⟩
  · have hends : EndsMem (.fabricTransfer c m q) c s (fabricTransfer m q) := endsMem_event hrun rfl rfl
    have hfree : fabWaits m q s = false := fabWaits_eq_false fun x y hxy =>
      have ⟨hlock, hgrant, hunit⟩ := hway x y hxy
      pathHeld_eq_false hlock hgrant hunit
    exact ⟨hends, _, hends, fabric_getLast?_of_free ((fabWaits_begin m q c s).trans hfree)⟩
  · exact ⟨_, ends_of_event_eq (op := serviceWdog v.toNat) (f := fun u => withPwr { u.pwr with wdog := 0 } u) hrun rfl
      (serviceWdog_key (s := begin_ c s) hkey), rfl⟩
  · refine ⟨_, ends_of_event_eq (op := heartbeat h v.toNat) (f := fun u => setF (fFAB_HBEAT_COUNT h) v.toNat (withPwr (restartHelper h u.pwr) u)) hrun rfl
      (heartbeat_changes (s := begin_ c s) hnew), ?_, hbeat_restartHelper h s.pwr, not_mem_hlpStop_restartHelper h s.pwr⟩
    rw [getF_after, getF_setF_self]
    rfl
  · have hnot : ¬(s.pwr.hlpStop.contains (h : Nat) = true) := by simpa using hruns
    have hroom' : Room (19 + h) (begin_ c s) := room_congr rfl hroom
    exact ⟨_, ends_of_event_eq (op := helperHang h) (f := send (19 + h) h 9 2 0) hrun rfl (if_neg hnot),
      queued_congr (kiln_after _ _) (send_queued hroom' h 9 2 0)⟩
  · have hroom' : Room 15 (unlocked (begin_ c s)) := room_unlocked (room_congr rfl hroom)
    refine ⟨_, ends_of_event_eq (op := cutLock (fun m => m == .dbg)) (f := fun u => send 15 0 8 2 a (unlocked u)) hrun rfl
      (cutLock_held (s := begin_ c s) hlock rfl), ?_, queued_congr (kiln_after _ _) (send_queued hroom' 0 8 2 a)⟩
    rw [lock_after, lock_send, lock_unlocked]
  · exact endsMem_event (op := supervisorStart) hrun rfl (supervisorStart_due (s := begin_ c s) hdue)

end Sys2Proof.Machine
end

section
/-! Reading back what a payload was written from (R43): numbers, words, and lists of entries behind a fixed part. -/
namespace Sys2Proof.Machine

open Sys2Proof

/-! ## Bytes of a number -/

@[simp] theorem length_beBytes (k n : Nat) : (beBytes k n).length = k := by
  induction k with
  | zero => rfl
  | succ k ih => rw [beBytes, List.length_cons, ih]

theorem foldl_beBytes (k n a : Nat) : (beBytes k n).foldl (fun a b => a * 256 + b.toNat) a = a * 2 ^ (8 * k) + n % 2 ^ (8 * k) := by
  induction k generalizing a with
  | zero => simp [beBytes, Nat.mod_one]
  | succ k ih =>
    have hpow : 2 ^ (8 * (k + 1)) = 2 ^ (8 * k) * 256 := pow_add 2 (8 * k) 8
    have hbyte : (byteOf (n / 2 ^ (8 * k))).toNat = n / 2 ^ (8 * k) % 256 := BitVec.toNat_ofNat ..
    rw [beBytes, List.foldl_cons, ih, hbyte, hpow, Nat.mod_mul]
    ring

theorem beNat_beBytes (k n : Nat) : beNat (beBytes k n) = n % 2 ^ (8 * k) := by
  rw [beNat, foldl_beBytes, Nat.zero_mul, Nat.zero_add]

@[simp] theorem length_be4 (n : Nat) : (be4 n).length = 4 := rfl
@[simp] theorem length_beWord (w : Word) : (beWord w).length = 4 := rfl
@[simp] theorem length_zeros (n : Nat) : (zeros n).length = n := List.length_replicate

/-! ## Reading at an offset -/

section
variable (p t : List Byte)

theorem num_drop (a o k : Nat) : num (p.drop a) o k = num p (a + o) k := by
  simp only [num, sub, List.drop_drop]

/-- What stands behind a byte. -/
@[simp] theorem num_cons (b : Byte) (o k : Nat) : num (b :: p) (o + 1) k = num p o k := rfl

/-- What stands behind several bytes. -/
theorem num_append {a : List Byte} {o : Nat} (h : a.length ≤ o) (k : Nat) : num (a ++ p) o k = num p (o - a.length) k := by
  simp only [num, sub, List.drop_append, List.drop_eq_nil_of_le h, List.nil_append]

theorem num_beBytes (k n : Nat) : num (beBytes k n ++ t) 0 k = n % 2 ^ (8 * k) := by
  rw [num, sub, List.drop_zero, List.take_left' (length_beBytes k n), beNat_beBytes]


theorem w4_beWord (w : Word) : w4 (beWord w ++ t) 0 = w := by
  rw [w4, beWord, num_beBytes, Nat.mod_eq_of_lt w.isLt, BitVec.ofNat_toNat, BitVec.setWidth_eq]

theorem h2_be2 (h : Half) : h2 (be2 h.toNat ++ t) 0 = h := by
  rw [h2, be2, num_beBytes, Nat.mod_eq_of_lt h.isLt, BitVec.ofNat_toNat, BitVec.setWidth_eq]

end

/-! ## Lists of entries of one length -/

section
variable {α : Type} {f : α → List Byte} {k : Nat} (hf : ∀ x, (f x).length = k)
include hf

theorem length_flatMap_const (l : List α) : (l.flatMap f).length = k * l.length := by
  rw [List.length_flatMap, List.map_congr_left (fun x _ => hf x), List.map_const', List.sum_replicate, smul_eq_mul, Nat.mul_comm]

/-- Behind the first `i` entries stand the others. -/
theorem drop_flatMap_const (l : List α) (i : Nat) : (l.flatMap f).drop (k * i) = (l.drop i).flatMap f := by
  induction l generalizing i with
  | nil => simp
  | cons x xs ih =>
    cases i with
    | zero => rfl
    | succ i =>
      rw [List.flatMap_cons, List.drop_append, hf, Nat.mul_succ, Nat.add_sub_cancel, ih,
        List.drop_eq_nil_of_le (by rw [hf]; omega), List.nil_append, List.drop_succ_cons]

/-- A reader that gives back each entry from its bytes gives back the whole list. -/
theorem map_range_read {l : List α} {read : List Byte → α} (hread : ∀ x ∈ l, ∀ t, read (f x ++ t) = x) :
    (List.range l.length).map (fun i => read ((l.flatMap f).drop (k * i))) = l := by
  refine List.ext_getElem (by simp) fun i h₁ h₂ => ?_
  rw [List.getElem_map, List.getElem_range, drop_flatMap_const hf, List.drop_eq_getElem_cons h₂, List.flatMap_cons]
  exact hread _ (List.getElem_mem h₂) _

end

@[simp] theorem length_beWords (ws : List Word) : (beWords ws).length = 4 * ws.length := length_flatMap_const length_beWord ws

/-- Words behind a fixed part are read back. -/
theorem wordsAt_beWords {a : List Byte} {o n : Nat} {ws : List Word} (ho : a.length = o) (hn : n = ws.length) :
    wordsAt (a ++ beWords ws) o n = ws := by
  subst ho hn
  calc wordsAt (a ++ beWords ws) a.length ws.length
      = (List.range ws.length).map (fun i => w4 ((ws.flatMap beWord).drop (4 * i)) 0) := List.map_congr_left fun i _ => by
        rw [w4, w4, num_drop, num_append _ (Nat.le_add_right ..), Nat.add_sub_cancel_left, Nat.add_zero, beWords]
    _ = ws := map_range_read (read := fun p => w4 p 0) length_beWord fun w _ t => w4_beWord t w

end Sys2Proof.Machine
end

section
/-! The fields of a payload and the entries of its lists, read where the cards place them (R43, R65). -/
namespace Sys2Proof.Machine

open Sys2Proof

/-! ## Fields of a payload -/

section
variable (p t : List Byte) (o k n : Nat)

@[simp] theorem num_behind_be2 : num (be2 n ++ p) (o + 2) k = num p o k := rfl
@[simp] theorem num_behind_be4 : num (be4 n ++ p) (o + 4) k = num p o k := rfl
@[simp] theorem num_behind_beWord (w : Word) : num (beWord w ++ p) (o + 4) k = num p o k := rfl

@[simp] theorem num_head (b : Byte) : num (b :: t) 0 1 = b.toNat := Nat.zero_add _
@[simp] theorem toNat_byteOf : (byteOf n).toNat = n % 256 := BitVec.toNat_ofNat ..
@[simp] theorem num_be2 : num (be2 n ++ t) 0 2 = n % 65536 := num_beBytes t 2 n
@[simp] theorem num_be4 : num (be4 n ++ t) 0 4 = n % 4294967296 := num_beBytes t 4 n
@[simp] theorem num_beWord (w : Word) : num (beWord w ++ t) 0 4 = w.toNat := (num_be4 t w.toNat).trans (Nat.mod_eq_of_lt w.isLt)

@[simp] theorem num_be2_last : num (be2 n) 0 2 = n % 65536 := by simpa using num_be2 [] n
@[simp] theorem num_be4_last : num (be4 n) 0 4 = n % 4294967296 := by simpa using num_be4 [] n
@[simp] theorem num_beWord_last (w : Word) : num (beWord w) 0 4 = w.toNat := by simpa using num_beWord [] w

end

/-! ## Lists of entries -/

section
variable {a l : List Byte} {c o j m : Nat} (ha : a.length = c) (ho : o = c + j + m)
include ha ho

/-- A field of an entry that begins `j` bytes behind the fixed part. -/
theorem num_entry (k : Nat) : num (a ++ l) o k = num (l.drop j) m k := by
  subst ha ho
  rw [num_drop, num_append _ (by omega), Nat.add_assoc, Nat.add_sub_cancel_left]

theorem n2_entry : n2 (a ++ l) o = n2 (l.drop j) m := num_entry ha ho 2
theorem n4_entry : n4 (a ++ l) o = n4 (l.drop j) m := num_entry ha ho 4
theorem w4_entry : w4 (a ++ l) o = w4 (l.drop j) m := congrArg (BitVec.ofNat 32) (num_entry ha ho 4)

end

def paramBytes (e : ParamEntry) : List Byte := be2 e.id ++ be2 e.ramp ++ beWord e.value
def xpBytes (e : XpEntry) : List Byte := be2 e.src ++ be2 e.dst ++ beWord e.gain ++ be2 e.ramp ++ zeros 2
def routeBytes (e : RouteEntry) : List Byte := be2 e.src ++ zeros 2 ++ beWord e.gain
def delayBytes (e : DelayEntry) : List Byte := be2 e.line ++ be2 e.ramp ++ be4 e.delay

theorem length_paramBytes (e : ParamEntry) : (paramBytes e).length = 8 := rfl
theorem length_xpBytes (e : XpEntry) : (xpBytes e).length = 12 := rfl
theorem length_routeBytes (e : RouteEntry) : (routeBytes e).length = 8 := rfl
theorem length_delayBytes (e : DelayEntry) : (delayBytes e).length = 8 := rfl

theorem paramEntries_read {a : List Byte} (ha : a.length = 4) {l : List ParamEntry} (h : ∀ e ∈ l, e.id < 65536 ∧ e.ramp < 65536) :
    (List.range l.length).map (fun i =>
      ({ id := n2 (a ++ l.flatMap paramBytes) (4 + 8 * i), ramp := n2 (a ++ l.flatMap paramBytes) (6 + 8 * i),
         value := w4 (a ++ l.flatMap paramBytes) (8 + 8 * i) } : ParamEntry)) = l := by
  refine (List.map_congr_left fun i _ => ?_).trans (map_range_read
    (read := fun q => { id := n2 q 0, ramp := n2 q 2, value := w4 q 4 }) length_paramBytes fun e he t => ?_)
  · congr 1
    · exact n2_entry ha rfl
    · exact n2_entry ha (by omega)
    · exact w4_entry ha (by omega)
  · obtain ⟨hid, hramp⟩ := h e he
    simp [paramBytes, n2, w4, Nat.mod_eq_of_lt, hid, hramp]

theorem xpEntries_read {a : List Byte} (ha : a.length = 4) {l : List XpEntry} (h : ∀ e ∈ l, (e.src < 65536 ∧ e.dst < 65536) ∧ e.ramp < 65536) :
    (List.range l.length).map (fun i =>
      ({ src := n2 (a ++ l.flatMap xpBytes) (4 + 12 * i), dst := n2 (a ++ l.flatMap xpBytes) (6 + 12 * i),
         gain := w4 (a ++ l.flatMap xpBytes) (8 + 12 * i), ramp := n2 (a ++ l.flatMap xpBytes) (12 + 12 * i) } : XpEntry)) = l := by
  refine (List.map_congr_left fun i _ => ?_).trans (map_range_read
    (read := fun q => { src := n2 q 0, dst := n2 q 2, gain := w4 q 4, ramp := n2 q 8 }) length_xpBytes fun e he t => ?_)
  · congr 1
    · exact n2_entry ha rfl
    · exact n2_entry ha (by omega)
    · exact w4_entry ha (by omega)
    · exact n2_entry ha (by omega)
  · obtain ⟨⟨hsrc, hdst⟩, hramp⟩ := h e he
    simp [xpBytes, n2, w4, Nat.mod_eq_of_lt, hsrc, hdst, hramp]

theorem routeEntries_read {a : List Byte} (ha : a.length = 8) {l : List RouteEntry} (h : ∀ e ∈ l, e.src < 65536) :
    (List.range l.length).map (fun i =>
      ({ src := n2 (a ++ l.flatMap routeBytes) (8 + 8 * i), gain := w4 (a ++ l.flatMap routeBytes) (12 + 8 * i) } : RouteEntry)) = l := by
  refine (List.map_congr_left fun i _ => ?_).trans (map_range_read
    (read := fun q => { src := n2 q 0, gain := w4 q 4 }) length_routeBytes fun e he t => ?_)
  · congr 1
    · exact n2_entry ha rfl
    · exact w4_entry ha (by omega)
  · simp [routeBytes, n2, w4, zeros, Nat.mod_eq_of_lt, h e he]

theorem delayEntries_read {a : List Byte} (ha : a.length = 4) {l : List DelayEntry}
    (h : ∀ e ∈ l, (e.line < 65536 ∧ e.ramp < 65536) ∧ e.delay < 4294967296) :
    (List.range l.length).map (fun i =>
      ({ line := n2 (a ++ l.flatMap delayBytes) (4 + 8 * i), ramp := n2 (a ++ l.flatMap delayBytes) (6 + 8 * i),
         delay := n4 (a ++ l.flatMap delayBytes) (8 + 8 * i) } : DelayEntry)) = l := by
  refine (List.map_congr_left fun i _ => ?_).trans (map_range_read
    (read := fun q => { line := n2 q 0, ramp := n2 q 2, delay := n4 q 4 }) length_delayBytes fun e he t => ?_)
  · congr 1
    · exact n2_entry ha rfl
    · exact n2_entry ha (by omega)
    · exact n4_entry ha (by omega)
  · obtain ⟨⟨hline, hramp⟩, hdelay⟩ := h e he
    simp [delayBytes, n2, n4, Nat.mod_eq_of_lt, hline, hramp, hdelay]

end Sys2Proof.Machine
end

section
/-! Each host command is read back from the payload that its card lays out (R43 to R46, R49, R416). -/
namespace Sys2Proof.Machine

open Sys2Proof

/-! ## From an opcode's length rule to its command -/

section
variable {p : List Byte} {i j : Instr} (t : List Parse)

theorem parsed_lenIs {n : Nat} (hlen : p.length = n) (hj : i = j) : firstKnown (lenIs n p i :: t) = .cmd j := by
  rw [lenIs, if_pos hlen, hj]
  rfl

theorem parsed_lenCount {fixed k lo hi count n : Nat} (hcount : count = n) (hlo : lo ≤ n) (hhi : n ≤ hi) (hlen : p.length = fixed + k * n)
    (hj : i = j) : firstKnown (lenCount fixed k lo hi count p i :: t) = .cmd j := by
  subst hcount
  rw [lenCount, if_pos ⟨hlo, hhi, hlen⟩, hj]
  rfl

end

theorem lenIn_iff {α : Type} {l : List α} {lo hi : Nat} : lenIn l lo hi = true ↔ lo ≤ l.length ∧ l.length ≤ hi := by
  rw [lenIn, Bool.and_eq_true, decide_eq_true_eq, decide_eq_true_eq]

/-! ## Commands that end in words -/

/-- A payload whose words stand behind a fixed part, with their number in its 2 bytes at `o`. -/
theorem length_append_beWords {a : List Byte} {n : Nat} (ha : a.length = n) (ws : List Word) : (a ++ beWords ws).length = n + 4 * ws.length := by
  rw [List.length_append, length_beWords, ha]

section
variable (r : Req) {w : Word} {n m k : Nat} {bs : List Byte} {ws : List Word}

theorem parse_sysComplAck (hlo : 1 ≤ ws.length) (hhi : ws.length ≤ 16) :
    parseAll r 0x0005 (payloadOf (.sysComplAck r ws)) = .cmd (.sysComplAck r ws) := by
  delta payloadOf
  dsimp only
  have hcount : n2 (be2 ws.length ++ zeros 2 ++ beWords ws) 0 = ws.length := by simp [n2]; omega
  refine parsed_lenCount _ hcount hlo hhi (length_append_beWords (n := 4) rfl ws) ?_
  rw [hcount, wordsAt_beWords (o := 4) rfl rfl]

theorem parse_regWrite (hlo : 1 ≤ ws.length) (hhi : ws.length ≤ 256) :
    parseAll r 0x0101 (payloadOf (.regWrite r w ws)) = .cmd (.regWrite r w ws) := by
  delta payloadOf
  dsimp only
  have hcount : n2 (beWord w ++ be2 ws.length ++ zeros 2 ++ beWords ws) 4 = ws.length := by simp [n2]; omega
  refine parsed_lenCount _ hcount hlo hhi (length_append_beWords (n := 8) rfl ws) ?_
  rw [hcount, wordsAt_beWords (o := 8) rfl rfl]
  simp [w4]

theorem parse_bundleWrite (hid : n < 65536) (hlo : 1 ≤ k) (hhi : k ≤ 8) (hramp : m < 65536) (hlen : ws.length = 5 * k) :
    parseAll r 0x0212 (payloadOf (.bundleWrite r n k m ws)) = .cmd (.bundleWrite r n k m ws) := by
  delta payloadOf
  dsimp only
  have hcount : n1 (be2 n ++ [byteOf k, 0] ++ be2 m ++ zeros 2 ++ beWords ws) 2 = k := by simp [n1]; omega
  refine parsed_lenCount _ hcount hlo hhi ((length_append_beWords (n := 8) rfl ws).trans (by omega)) ?_
  rw [hcount, wordsAt_beWords (o := 8) rfl hlen.symm]
  simp [n2, Nat.mod_eq_of_lt, hid, hramp]

theorem parse_stageSet (hout : n < 256) (hmask : m < 65536) (hlen : ws.length = 4) :
    parseAll r 0x0602 (payloadOf (.stageSet r n m ws)) = .cmd (.stageSet r n m ws) := by
  delta payloadOf
  dsimp only
  refine parsed_lenIs _ ((length_append_beWords (n := 4) rfl ws).trans (by omega)) ?_
  rw [wordsAt_beWords (o := 4) rfl hlen.symm]
  simp [n1, n2, Nat.mod_eq_of_lt, hout, hmask]

theorem parse_protSet (hout : n < 256) (hmask : m < 4294967296) (hlen : ws.length = 7) :
    parseAll r 0x0610 (payloadOf (.protSet r n m ws)) = .cmd (.protSet r n m ws) := by
  delta payloadOf
  dsimp only
  refine parsed_lenIs _ ((length_append_beWords (n := 8) rfl ws).trans (by omega)) ?_
  rw [wordsAt_beWords (o := 8) rfl hlen.symm]
  simp [n1, n4, zeros, Nat.mod_eq_of_lt, hout, hmask]

theorem parse_clkTableSet (hentry : n < 256) (hmask : m < 65536) (hlen : ws.length = 4) :
    parseAll r 0x0800 (payloadOf (.clkTableSet r n m ws)) = .cmd (.clkTableSet r n m ws) := by
  delta payloadOf
  dsimp only
  refine parsed_lenIs _ ((length_append_beWords (n := 4) rfl ws).trans (by omega)) ?_
  rw [wordsAt_beWords (o := 4) rfl hlen.symm]
  simp [n1, n2, Nat.mod_eq_of_lt, hentry, hmask]

/-! ## Commands that end in bytes -/

theorem length_append_bytes {a : List Byte} {n : Nat} (ha : a.length = n) (bs : List Byte) : (a ++ bs).length = n + 1 * bs.length := by
  rw [List.length_append, ha, Nat.one_mul]

theorem parse_diagEcho (hhi : bs.length ≤ 4092) : parseAll r 0x0C00 (payloadOf (.diagEcho r bs)) = .cmd (.diagEcho r bs) :=
  congrArg (fun x => firstKnown (x :: _)) (if_pos hhi)

theorem parse_bakeWrite (hoff : n < 4294967296) (hlo : 1 ≤ bs.length) (hhi : bs.length ≤ 4000) :
    parseAll r 0x0201 (payloadOf (.bakeWrite r n w bs)) = .cmd (.bakeWrite r n w bs) := by
  delta payloadOf
  dsimp only
  refine parsed_lenCount _ (by simp [n2]; omega) hlo hhi (length_append_bytes (n := 12) rfl bs) ?_
  rw [List.drop_left' (i := 12) rfl]
  simp [n4, w4, zeros, Nat.mod_eq_of_lt, hoff]

theorem parse_trunkMsgSend (hlane : n < 256) (hlo : 1 ≤ bs.length) (hhi : bs.length ≤ 4000) :
    parseAll r 0x0704 (payloadOf (.trunkMsgSend r n bs)) = .cmd (.trunkMsgSend r n bs) := by
  delta payloadOf
  dsimp only
  refine parsed_lenCount _ (by simp [n2]; omega) hlo hhi (length_append_bytes (n := 4) rfl bs) ?_
  rw [List.drop_left' (i := 4) rfl]
  simp [n1, Nat.mod_eq_of_lt, hlane]

theorem parse_updWrite (hoff : n < 4294967296) (hlo : 1 ≤ bs.length) (hhi : bs.length ≤ 4000) (v : Word) :
    parseAll r 0x0B01 (payloadOf (.updWrite r v n w bs)) = .cmd (.updWrite r v n w bs) := by
  delta payloadOf
  dsimp only
  refine parsed_lenCount _ (by simp [n2]; omega) hlo hhi (length_append_bytes (n := 16) rfl bs) ?_
  rw [List.drop_left' (i := 16) rfl]
  simp [n4, w4, zeros, Nat.mod_eq_of_lt, hoff]

theorem parse_setWrite (hkey : n < 65536) (hhi : bs.length ≤ 252) :
    parseAll r 0x0B10 (payloadOf (.setWrite r n bs)) = .cmd (.setWrite r n bs) := by
  delta payloadOf
  dsimp only
  refine parsed_lenCount _ (by simp [n2]; omega) (Nat.zero_le _) hhi (length_append_bytes (n := 4) rfl bs) ?_
  rw [List.drop_left' (i := 4) rfl]
  simp [n2, Nat.mod_eq_of_lt, hkey]

/-! ## Commands that end in entries -/

theorem length_append_entries {α : Type} {f : α → List Byte} {a : List Byte} {n k : Nat} (ha : a.length = n) (hf : ∀ x, (f x).length = k)
    (l : List α) : (a ++ l.flatMap f).length = n + k * l.length := by
  rw [List.length_append, ha, length_flatMap_const hf]

theorem payloadOf_paramWrite (es : List ParamEntry) : payloadOf (.paramWrite r es) = be2 es.length ++ zeros 2 ++ es.flatMap paramBytes := rfl
theorem payloadOf_xpSet (es : List XpEntry) : payloadOf (.xpSet r es) = be2 es.length ++ zeros 2 ++ es.flatMap xpBytes := rfl
theorem payloadOf_routeSet (es : List RouteEntry) :
    payloadOf (.routeSet r n m es) = be2 n ++ be2 es.length ++ be2 m ++ zeros 2 ++ es.flatMap routeBytes := rfl
theorem payloadOf_delaySet (es : List DelayEntry) : payloadOf (.delaySet r es) = be2 es.length ++ zeros 2 ++ es.flatMap delayBytes := rfl

/-- The number of entries, where it stands first. -/
theorem n2_count (hn : n < 65536) (t : List Byte) : n2 (be2 n ++ zeros 2 ++ t) 0 = n := by
  rw [List.append_assoc, n2, num_be2, Nat.mod_eq_of_lt hn]

theorem parse_paramWrite {es : List ParamEntry} (hlo : 1 ≤ es.length) (hhi : es.length ≤ 255) (hes : ∀ e ∈ es, e.id < 65536 ∧ e.ramp < 65536) :
    parseAll r 0x0210 (payloadOf (.paramWrite r es)) = .cmd (.paramWrite r es) := by
  rw [payloadOf_paramWrite]
  have hcount := n2_count (Nat.lt_of_le_of_lt hhi (by decide)) (es.flatMap paramBytes)
  refine parsed_lenCount _ hcount hlo hhi (length_append_entries (n := 4) rfl length_paramBytes es) ?_
  rw [hcount, paramEntries_read rfl hes]

theorem parse_xpSet {es : List XpEntry} (hlo : 1 ≤ es.length) (hhi : es.length ≤ 255)
    (hes : ∀ e ∈ es, (e.src < 65536 ∧ e.dst < 65536) ∧ e.ramp < 65536) :
    parseAll r 0x0300 (payloadOf (.xpSet r es)) = .cmd (.xpSet r es) := by
  rw [payloadOf_xpSet]
  have hcount := n2_count (Nat.lt_of_le_of_lt hhi (by decide)) (es.flatMap xpBytes)
  refine parsed_lenCount _ hcount hlo hhi (length_append_entries (n := 4) rfl length_xpBytes es) ?_
  rw [hcount, xpEntries_read rfl hes]

theorem parse_routeSet {es : List RouteEntry} (hdst : n < 65536) (hramp : m < 65536) (hhi : es.length ≤ 255) (hes : ∀ e ∈ es, e.src < 65536) :
    parseAll r 0x0302 (payloadOf (.routeSet r n m es)) = .cmd (.routeSet r n m es) := by
  rw [payloadOf_routeSet]
  have hcount : n2 (be2 n ++ be2 es.length ++ be2 m ++ zeros 2 ++ es.flatMap routeBytes) 2 = es.length := by simp [n2]; omega
  refine parsed_lenCount _ hcount (Nat.zero_le _) hhi (length_append_entries (n := 8) rfl length_routeBytes es) ?_
  rw [hcount, routeEntries_read rfl hes]
  simp [n2, Nat.mod_eq_of_lt, hdst, hramp]

theorem parse_delaySet {es : List DelayEntry} (hlo : 1 ≤ es.length) (hhi : es.length ≤ 255)
    (hes : ∀ e ∈ es, (e.line < 65536 ∧ e.ramp < 65536) ∧ e.delay < 4294967296) :
    parseAll r 0x0304 (payloadOf (.delaySet r es)) = .cmd (.delaySet r es) := by
  rw [payloadOf_delaySet]
  have hcount := n2_count (Nat.lt_of_le_of_lt hhi (by decide)) (es.flatMap delayBytes)
  refine parsed_lenCount _ hcount hlo hhi (length_append_entries (n := 4) rfl length_delayBytes es) ?_
  rw [hcount, delayEntries_read rfl hes]

end

/-! ## Every host command -/

/-- Settles O8: commands without parameters, those whose fields stand at fixed places, and those that end in a list of bytes, words or
entries. -/
theorem packetsDecode : Obligations.PacketsDecode := by
  intro r i hwf hreq
  cases i
  case sysNop | sysInfo | controlReset | diagRomCheck | bakeEnd | bakeStatus | trunkMsgRead | clkAlign | twinJoin | kilnStatus | standbyEnter |
      standbyLeave | updActivate | healthConfirm | updStatus | sysBootSave =>
    cases hreq
    rfl
  case deviceReset | sysDormant =>
    cases hreq
    exact parsed_lenIs _ rfl (congrArg _ (h2_be2 _ _))
  case sysAbort | regModify | bakeCommit | clkSteer | clkOutSet | updClose | updAbort =>
    cases hreq
    delta opcodeOf payloadOf
    dsimp only
    refine parsed_lenIs _ rfl ?_
    simp [w4]
  case sysResultRead | regRead | diagCounters | diagScrub | bakeBegin | bakeLoadFlash | bakeReport | paramRead | xpRead | routeLatency |
      delayRead | dynSet | dynRead | portStart | portStop | portMute | portUnmute | portStatus | asrcRead | bundleStatus | stageTrain |
      stageRunRun | stageRunArm | stageRunOff | stageRunClearLatch | stageStatus | stageSense | protStatus | protSweep | protCal |
      trunkEnable | trunkDisable | trunkRestart | trunkSet | trunkStatus | trunkRange | trunkClaimClr | aesStreamSet | aesStreamStatus |
      ethStatus | clkSelect | clkStatus | twinConfig | twinSwitch | twinStatus | kilnRead | kilnAck | kilnClear | kilnInject |
      kilnLevelSet | updOpen | setRead =>
    cases hreq
    delta opcodeOf payloadOf
    dsimp only
    simp only [Instr.wf, Bool.and_eq_true, decide_eq_true_eq] at hwf
    refine parsed_lenIs _ rfl ?_
    simp [n1, n2, n4, w4, zeros, Nat.mod_eq_of_lt, hwf]
  case diagEcho =>
    cases hreq
    simp only [Instr.wf, Bool.and_eq_true, lenIn_iff] at hwf
    obtain ⟨-, -, hhi⟩ := hwf
    exact parse_diagEcho r hhi
  case setWrite =>
    cases hreq
    simp only [Instr.wf, Bool.and_eq_true, decide_eq_true_eq, lenIn_iff] at hwf
    obtain ⟨⟨-, hkey⟩, -, hhi⟩ := hwf
    exact parse_setWrite r hkey hhi
  case sysComplAck =>
    cases hreq
    simp only [Instr.wf, Bool.and_eq_true, lenIn_iff] at hwf
    obtain ⟨-, hlo, hhi⟩ := hwf
    exact parse_sysComplAck r hlo hhi
  case regWrite =>
    cases hreq
    simp only [Instr.wf, Bool.and_eq_true, lenIn_iff] at hwf
    obtain ⟨-, hlo, hhi⟩ := hwf
    exact parse_regWrite r hlo hhi
  case bakeWrite =>
    cases hreq
    simp only [Instr.wf, Bool.and_eq_true, decide_eq_true_eq, lenIn_iff] at hwf
    obtain ⟨⟨-, hoff⟩, hlo, hhi⟩ := hwf
    exact parse_bakeWrite r hoff hlo hhi
  case trunkMsgSend =>
    cases hreq
    simp only [Instr.wf, Bool.and_eq_true, decide_eq_true_eq, lenIn_iff] at hwf
    obtain ⟨⟨-, hlane⟩, hlo, hhi⟩ := hwf
    exact parse_trunkMsgSend r hlane hlo hhi
  case updWrite =>
    cases hreq
    simp only [Instr.wf, Bool.and_eq_true, decide_eq_true_eq, lenIn_iff] at hwf
    obtain ⟨⟨-, hoff⟩, hlo, hhi⟩ := hwf
    exact parse_updWrite r hoff hlo hhi _
  case stageSet =>
    cases hreq
    simp only [Instr.wf, Bool.and_eq_true, decide_eq_true_eq, lenIn_iff] at hwf
    obtain ⟨⟨⟨-, hout⟩, hmask⟩, hge, hle⟩ := hwf
    exact parse_stageSet r hout hmask (Nat.le_antisymm hle hge)
  case protSet =>
    cases hreq
    simp only [Instr.wf, Bool.and_eq_true, decide_eq_true_eq, lenIn_iff] at hwf
    obtain ⟨⟨⟨-, hout⟩, hmask⟩, hge, hle⟩ := hwf
    exact parse_protSet r hout hmask (Nat.le_antisymm hle hge)
  case clkTableSet =>
    cases hreq
    simp only [Instr.wf, Bool.and_eq_true, decide_eq_true_eq, lenIn_iff] at hwf
    obtain ⟨⟨⟨-, hentry⟩, hmask⟩, hge, hle⟩ := hwf
    exact parse_clkTableSet r hentry hmask (Nat.le_antisymm hle hge)
  case bundleWrite =>
    cases hreq
    simp only [Instr.wf, Bool.and_eq_true, decide_eq_true_eq, lenIn_iff] at hwf
    obtain ⟨⟨⟨⟨⟨-, hid⟩, hlo⟩, hhi⟩, hramp⟩, hge, hle⟩ := hwf
    exact parse_bundleWrite r hid hlo hhi hramp (Nat.le_antisymm hle hge)
  case paramWrite =>
    cases hreq
    simp only [Instr.wf, Bool.and_eq_true, decide_eq_true_eq, lenIn_iff, List.all_eq_true] at hwf
    obtain ⟨⟨-, hlo, hhi⟩, hes⟩ := hwf
    exact parse_paramWrite r hlo hhi hes
  case xpSet =>
    cases hreq
    simp only [Instr.wf, Bool.and_eq_true, decide_eq_true_eq, lenIn_iff, List.all_eq_true] at hwf
    obtain ⟨⟨-, hlo, hhi⟩, hes⟩ := hwf
    exact parse_xpSet r hlo hhi hes
  case delaySet =>
    cases hreq
    simp only [Instr.wf, Bool.and_eq_true, decide_eq_true_eq, lenIn_iff, List.all_eq_true] at hwf
    obtain ⟨⟨-, hlo, hhi⟩, hes⟩ := hwf
    exact parse_delaySet r hlo hhi hes
  case routeSet =>
    cases hreq
    simp only [Instr.wf, Bool.and_eq_true, decide_eq_true_eq, lenIn_iff, List.all_eq_true] at hwf
    obtain ⟨⟨⟨⟨-, hdst⟩, hramp⟩, -, hhi⟩, hes⟩ := hwf
    exact parse_routeSet r hdst hramp hhi hes
  all_goals cases hreq

end Sys2Proof.Machine
end

section
/-! The packet of a host command passes every check of R49 and is that command (R34, R36, R44 to R46, R49). -/
namespace Sys2Proof.Machine

open Sys2Proof

/-- The CRC-32 fits the four bytes that carry it. -/
theorem crc32_lt (bs : List Byte) : crc32 bs < 2 ^ 32 := by
  have hbit : ∀ c < 2 ^ 32, crc32Bit c < 2 ^ 32 := fun c hc => by
    unfold crc32Bit
    split
    · exact Nat.xor_lt_two_pow (by omega) (by decide)
    · omega
  have hiter : ∀ n, ∀ c < 2 ^ 32, iter crc32Bit n c < 2 ^ 32 := fun n => by
    induction n with
    | zero => exact fun c hc => hc
    | succ n ih => exact fun c hc => ih _ (hbit c hc)
  refine Nat.xor_lt_two_pow (List.foldlRecOn (motive := (· < 2 ^ 32)) bs crc32Byte (by decide) fun c hc b _ => ?_) (by decide)
  exact hiter 8 _ (Nat.xor_lt_two_pow hc (b.isLt.trans (by decide)))

/-! ## The fields of an item (R44) -/

section
variable (op fl ch ep : Nat) (tag : Half) (p : List Byte)

/-- The payload of an item, and the CRC behind it. -/
def itemTail : List Byte := p ++ (if fl.testBit 2 then be4 (crc32 p) else [])

theorem makeItem_fields : makeItem op tag fl ch ep p = 0xA5 :: 0xC3 :: (be2 op ++ (be2 tag.toNat ++ (be2 p.length ++
    byteOf fl :: byteOf ch :: byteOf ep :: 0 :: 0 :: 0 :: (be2 (crc16 (itemHeader op tag fl ch ep p)) ++ itemTail fl p)))) := by
  simp only [makeItem_eq, itemHeader, itemTail, List.append_assoc, List.cons_append, List.nil_append]

theorem n2_makeItem_sync : n2 (makeItem op tag fl ch ep p) 0 = 0xA5C3 := by
  rw [makeItem_fields]; rfl

theorem n2_makeItem_opcode (h : op < 65536) : n2 (makeItem op tag fl ch ep p) 2 = op := by
  rw [makeItem_fields, n2, num_cons, num_cons, num_be2, Nat.mod_eq_of_lt h]

theorem h2_makeItem_tag : h2 (makeItem op tag fl ch ep p) 4 = tag := by
  rw [makeItem_fields, h2, num_cons, num_cons, num_behind_be2]
  exact h2_be2 _ _

theorem n2_makeItem_length (h : p.length < 65536) : n2 (makeItem op tag fl ch ep p) 6 = p.length := by
  simp [makeItem_fields, n2, Nat.mod_eq_of_lt h]

theorem n1_makeItem_flags (h : fl < 256) : n1 (makeItem op tag fl ch ep p) 8 = fl := by
  simp [makeItem_fields, n1, Nat.mod_eq_of_lt h]

theorem n1_makeItem_channel (h : ch < 256) : n1 (makeItem op tag fl ch ep p) 9 = ch := by
  simp [makeItem_fields, n1, Nat.mod_eq_of_lt h]

theorem length_makeItem : (makeItem op tag fl ch ep p).length = 16 + p.length + (if fl.testBit 2 then 4 else 0) := by
  rw [makeItem_fields]
  split <;> simp_all [itemTail, length_be2] <;> omega

theorem sub_makeItem : sub (makeItem op tag fl ch ep p) 16 p.length = p := by
  rw [sub, drop_makeItem_payload, List.take_left]

/-- The payload's CRC stands behind it. -/
theorem n4_makeItem_payloadCrc (h : fl.testBit 2 = true) : n4 (makeItem op tag fl ch ep p) (16 + p.length) = crc32 p := by
  rw [n4, ← num_drop, drop_makeItem_payload, if_pos h, num_append _ (Nat.le_refl _), Nat.sub_self, num_be4_last, Nat.mod_eq_of_lt]
  exact crc32_lt p

theorem headGood_makeItem : headGood (makeItem op tag fl ch ep p) = true := by
  have hlen : 16 ≤ (makeItem op tag fl ch ep p).length := by rw [length_makeItem]; omega
  rw [headGood, n2_makeItem, beq_self_eq_true, Bool.and_true, decide_eq_true hlen]

end

/-! ## The sizes of opcodes and payloads (R44, R46) -/

theorem opcodeOf_lt (i : Instr) : opcodeOf i < 65536 := by cases i <;> exact Nat.le_of_ble_eq_true rfl

section
variable {p : List Byte} {i j : Instr} {t : List Parse}

theorem length_of_lenIs {n : Nat} (h : firstKnown (lenIs n p i :: t) = .cmd j) : p.length ≤ n := by
  by_contra hne
  rw [lenIs, if_neg (by omega)] at h
  cases h

theorem length_of_lenCount {fixed k lo hi count : Nat} (h : firstKnown (lenCount fixed k lo hi count p i :: t) = .cmd j) :
    p.length ≤ fixed + k * hi := by
  by_cases hc : lo ≤ count ∧ count ≤ hi ∧ p.length = fixed + k * count
  · obtain ⟨-, hhi, hlen⟩ := hc
    exact hlen.le.trans (Nat.add_le_add_left (Nat.mul_le_mul_left k hhi) fixed)
  · rw [lenCount, if_neg hc] at h
    cases h

end

/-- No card lays out more than 4,096 bytes. -/
theorem length_payloadOf_le {r : Req} {i : Instr} (hwf : i.wf = true) (hreq : requestOf i = some r) : (payloadOf i).length ≤ 4096 := by
  have hparse := packetsDecode r i hwf hreq
  cases i
  case diagEcho bytes =>
    simp only [Instr.wf, Bool.and_eq_true, lenIn_iff] at hwf
    obtain ⟨-, -, hhi⟩ := hwf
    exact hhi.trans (by decide)
  case sysComplAck | regWrite | bakeWrite | trunkMsgSend | updWrite | setWrite | bundleWrite | paramWrite | xpSet | delaySet | routeSet =>
    exact (length_of_lenCount hparse).trans (by decide)
  case stageSet | protSet | clkTableSet => exact (length_of_lenIs hparse).trans (by decide)
  all_goals exact Nat.le_of_ble_eq_true rfl

/-! ## The checks (R49) -/

theorem testBit_pcrcFlag (b : Bool) : (if b then 4 else 0 : Nat).testBit 2 = b := by cases b <;> rfl

section
variable {r : Req} {i : Instr} {s : State}

theorem reqOf_packetOf (hch : r.ch = 0) (htarget : r.target = none) (hkey : r.key = BitVec.ofNat 16 (retryKey (packetOf r i))) :
    reqOf r.c 0 none (packetOf r i) = r := by
  have hflags : (n1 (packetOf r i) 8).testBit 2 = r.pcrc := by
    rw [packetOf, n1_makeItem_flags _ _ _ _ _ _ (by split <;> decide), testBit_pcrcFlag]
  have htag : h2 (packetOf r i) 4 = r.tag := h2_makeItem_tag ..
  rw [reqOf, hflags, htag, ← hkey, ← hch, ← htarget]

/-- The checks of R49 let the packet of a well-formed command through to it. -/
theorem packetBody_packetOf (hwf : i.wf = true) (hreq : requestOf i = some r) (hch : r.ch = 0) :
    packetBody r (packetOf r i) s = doCommand i s := by
  have hle := length_payloadOf_le hwf hreq
  have hlen : n2 (packetOf r i) 6 = (payloadOf i).length := n2_makeItem_length _ _ _ _ _ _ (Nat.lt_of_le_of_lt hle (by decide))
  have hsize : (packetOf r i).length = 16 + (payloadOf i).length + (if r.pcrc then 4 else 0) := by
    rw [packetOf, length_makeItem, testBit_pcrcFlag]
  have hchan : n1 (packetOf r i) 9 = r.ch.val := n1_makeItem_channel _ _ _ _ _ _ (by omega)
  have hflags : n1 (packetOf r i) 8 % 4 = 0 := by
    rw [packetOf, n1_makeItem_flags _ _ _ _ _ _ (by split <;> decide)]
    split <;> rfl
  have hbad : badPayload s r (packetOf r i) (payloadOf i).length = false := by
    unfold badPayload
    split
    case isTrue hpcrc =>
      rw [packetOf, n4_makeItem_payloadCrc _ _ _ _ _ _ (by rw [testBit_pcrcFlag, hpcrc]), sub_makeItem, bne_self_eq_false]
    case isFalse => rw [pcrcRequired, hch]; rfl
  have hop : n2 (packetOf r i) 2 = opcodeOf i := n2_makeItem_opcode _ _ _ _ _ _ (opcodeOf_lt i)
  have hsub : sub (packetOf r i) 16 (payloadOf i).length = payloadOf i := sub_makeItem ..
  rw [packetBody, hlen, if_neg (by omega), if_neg (not_not_intro hchan), if_neg (not_not_intro hflags), hop, hsub, packetsDecode r i hwf hreq]
  simp only [hbad, Bool.false_eq_true, if_false]

theorem packet_packetOf (hwf : i.wf = true) (hreq : requestOf i = some r) (hch : r.ch = 0) (htarget : r.target = none)
    (hkey : r.key = BitVec.ofNat 16 (retryKey (packetOf r i))) : packet r.c 0 none (packetOf r i) s = doCommand i s := by
  have hsync : ¬(n2 (packetOf r i) 0 ≠ 0xA5C3 ∨ (packetOf r i).length < 2) := by
    rw [packetOf, n2_makeItem_sync, length_makeItem]
    omega
  have hhead : (!headGood (packetOf r i)) = false := by rw [packetOf, headGood_makeItem, Bool.not_true]
  have hfresh : replayHit r (packetOf r i) s = none := by
    rw [replayHit, if_neg (by simp [hch])]
  unfold packet
  simp only [if_neg hsync, hhead, Bool.false_eq_true, if_false, reqOf_packetOf hch htarget hkey, hfresh]
  exact packetBody_packetOf hwf hreq hch

end

theorem running_of_live {s : State} (h : Live s) : Running s := by
  obtain ⟨hlive, -⟩ := h
  simp only [commandsLive, Bool.and_eq_true, beq_iff_eq] at hlive
  obtain ⟨⟨hphase, -⟩, -⟩ := hlive
  exact hphase

/-- While RDY_IN is 1 a PUT is its packet (R36). -/
theorem put_ready {c : Nat} {b : List Byte} {s : State} (h : rdyIn s = true) : put c b s = packet c 0 none b s := if_pos h

/-- Settles O9: a packet of channel 0 passes every check. -/
theorem packetRunsCommand : Obligations.PacketRunsCommand := by
  intro c r i s hl hrdy hwf hreq hc hch htarget hkey
  subst hc
  refine endsMem_event (running_of_live hl) (op := put r.c (packetOf r i)) rfl ?_
  exact (put_ready (s := begin_ r.c s) hrdy).trans (packet_packetOf hwf hreq hch htarget hkey)

end Sys2Proof.Machine
end

section
/-! Checks and replies, the transports, handles and completions (R34 to R64). -/
namespace Sys2Proof.Machine

open Sys2Proof

/-! ## A reply to a channel -/

/-- A channel after what only puts items out: all but its outbound queue and its replay cache stands. -/
def SameButOut (k l : Chan) : Prop := l = { k with out := l.out, replay := l.replay }

theorem sameButOut_of {k l : Chan} (h : l = { k with out := l.out, replay := l.replay }) : SameButOut k l := h

theorem sameButOut_refl (k : Chan) : SameButOut k k := rfl

theorem sameButOut_trans {k l m : Chan} (h₁ : SameButOut k l) (h₂ : SameButOut l m) : SameButOut k m := by
  rw [SameButOut, h₂, h₁]

theorem chan_congr {s t : State} (h : t.chans = s.chans) (n : Nat) : chan t n = chan s n := by rw [chan, chan, h]

theorem chan_sendUdp (ch q : Nat) (b : List Byte) (s : State) (n : Nat) : chan (sendUdp ch q b s) n = chan s n :=
  chan_congr (chans_txSend ..) n

/-- Writing one channel changes what reads as `p` of it alone. -/
theorem chan_setChan_rel {p : Chan → Chan → Prop} (hrefl : ∀ k, p k k) {n : Nat} {v : Chan} {s : State} (h : p (chan s n) v) (m : Nat) :
    p (chan s m) (chan (setChan n v s) m) := by
  by_cases hm : m = n
  · subst hm
    rwa [chan_setChan_self]
  · rw [chan_setChan_ne _ _ hm]
    exact hrefl _

theorem sameButOut_pushOut (ch q : Nat) (it : OutItem) (s : State) (n : Nat) : SameButOut (chan s n) (chan (pushOut ch q it s) n) := by
  unfold pushOut
  split
  · rw [chan_sendUdp]
    exact sameButOut_refl _
  · exact chan_setChan_rel sameButOut_refl (sameButOut_of rfl) n

theorem sameButOut_storeReplay (r : Req) (b : List Byte) (s : State) (n : Nat) : SameButOut (chan s n) (chan (storeReplay r b s) n) := by
  unfold storeReplay
  split
  · exact chan_setChan_rel sameButOut_refl (sameButOut_of rfl) n
  · exact sameButOut_refl _

theorem sameButOut_reply (r : Req) (op st d : Nat) (res : List Byte) (s : State) (n : Nat) :
    SameButOut (chan s n) (chan (reply r op st d res s) n) :=
  sameButOut_trans (sameButOut_pushOut ..) (sameButOut_storeReplay ..)

theorem next_reply (r : Req) (op st d : Nat) (res : List Byte) (s : State) (n : Nat) :
    (chan (reply r op st d res s) n).next = (chan s n).next := by
  rw [sameButOut_reply r op st d res s n]

/-- Settles O7: the first check that fails is the reply. -/
theorem firstFailingCheckReplies : Obligations.FirstFailingCheckReplies := by
  intro r op gs k g s hl hg
  have hreply := command_bad hl r op gs k g hg
  exact ⟨hreply, hreply ▸ reply_sent ..⟩

/-! ## A header that fails its CRC (R47, R49, R64) -/

section
variable {c : Nat} {b : List Byte} {s : State}

theorem headGood_eq_false (h : n2 b 14 ≠ crc16 (b.take 14)) : headGood b = false := by
  rw [headGood, beq_false_of_ne h, Bool.and_false]

/-- The checks of R49 end at the header's CRC. -/
theorem packet_badHeader (hsync : n2 b 0 = 0xA5C3) (hlen : 16 ≤ b.length) (hcrc : n2 b 14 ≠ crc16 (b.take 14)) (ch : Fin 4) (w : Option Word) :
    packet c ch w b s = headReply (reqOf c ch w b) b stBADCRC 1 false (countHcrc ch s) := by
  have h : ¬(n2 b 0 ≠ 0xA5C3 ∨ b.length < 2) := by omega
  have hbad : (!headGood b) = true := by rw [headGood_eq_false hcrc, Bool.not_false]
  simp only [packet, if_neg h, hbad, if_true]

/-- Such a reply on channel 0 repeats what the header holds (R47). -/
theorem out_headReply0 (w : Option Word) (st d : Nat) : (chan (headReply (reqOf c 0 w b) b st d false s) 0).out = (chan s 0).out ++
    [⟨true, makeItem (n2 b 2) (h2 b 4) (if (n1 b 8).testBit 2 then 5 else 1) (n1 b 9) (chan s 0).epoch [byteOf st, byteOf d, 0, 0], none⟩] :=
  congrArg Chan.out (chan_pushOut0 4 _ s)

theorem staged_pushOut (ch q : Nat) (it : OutItem) (s : State) : (pushOut ch q it s).staged = s.staged := by
  rw [(sameButReply_pushOut ch q it s).1]

theorem ops_headReply (r : Req) (st d : Nat) : (headReply r b st d false s).ops = s.ops := ops_pushOut ..

theorem staged_headReply (r : Req) (st d : Nat) : (headReply r b st d false s).staged = s.staged := staged_pushOut ..

theorem chan_countHcrc0 : chan (countHcrc 0 s) 0 = { chan s 0 with dHcrc := up32 (chan s 0).dHcrc } := chan_setChan_self ..

end

/-- Settles O10: the checks of the packet end at its header, and what the reply puts out leaves operations and staged writes. -/
theorem badHeaderCrcReplies : Obligations.BadHeaderCrcReplies := by
  intro c b s hrun hrdy hsync hlen hcrc
  have hends : EndsMem (.put c b) c s (fun u => headReply (reqOf c 0 none b) b stBADCRC 1 false (countHcrc 0 u)) :=
    endsMem_event (op := put c b) hrun rfl ((put_ready (s := begin_ c s) hrdy).trans (packet_badHeader hsync hlen hcrc 0 none))
  refine ⟨hends, _, hends, ?_, ?_, ?_⟩
  · refine (out_headReply0 none 6 1).trans ?_
    rw [chan_countHcrc0]
    rfl
  · exact ops_headReply ..
  · exact staged_headReply ..

/-! ## QSPI (R34 to R38) -/

section
variable {c n : Nat} {s : State} {it : OutItem} {rest : List OutItem}

theorem rdyIn_iff : rdyIn s = true ↔
    ((commandsLive s = true ∧ s.kiln.ctlReset = false) ∧ ((chan s 0).out.filter (·.reply)).length < 16) ∧ (chan s 0).inBuf.length < 4 := by
  simp [rdyIn]

theorem put_notReady {b : List Byte} (h : rdyIn s = false) : put c b s = countDrop 0 s := by
  rw [put, h, if_neg Bool.false_ne_true]

/-- 8 dummy clocks, then two for each byte (R35). -/
theorem clockedBytes (n : Nat) : (8 + 2 * n - 8) / 2 = n := by omega

theorem get_empty (h : (chan s 0).out = []) : get (8 + 2 * n) s = emit (.qspi (zeros n)) s := by
  simp only [get, h, clockedBytes]

theorem get_partial (h : (chan s 0).out = it :: rest) (hn : n < it.bytes.length) :
    get (8 + 2 * n) s = emit (.qspi (it.bytes.take n)) s := by
  simp only [get, h, clockedBytes, if_pos hn]

/-- The head item has left. -/
def headTaken (n : Nat) (it : OutItem) (rest : List OutItem) (s : State) : State :=
  setChan 0 { chan s 0 with out := rest } (emit (.qspi (it.bytes.take n)) s)

theorem get_whole (h : (chan s 0).out = it :: rest) (hn : it.bytes.length ≤ n) : get (8 + 2 * n) s =
    (match it.handle with
      | some h => delivered 0 h (n2 it.bytes 22) (headTaken n it rest s)
      | none => headTaken n it rest s) := by
  simp only [get, h, clockedBytes, if_neg (Nat.not_lt.2 hn)]
  rfl

end

/-- A delivered completion leaves the outbound queue. -/
theorem out_delivered (ch : Nat) (h : Word) (q : Nat) (s : State) : (chan (delivered ch h q s) ch).out = (chan s ch).out := by
  rw [delivered, chan_setChan_self]

theorem wire_delivered (ch : Nat) (h : Word) (q : Nat) (s : State) : (delivered ch h q s).wire = s.wire := rfl

/-- It closes its handle alone (R52). -/
theorem handles_delivered (ch : Nat) (h : Word) (q : Nat) (s : State) :
    (chan (delivered ch h q s) ch).handles = (chan s ch).handles.filter (fun x => !(x.h == h)) := by
  rw [delivered, chan_setChan_self]

theorem chan_headTaken (n : Nat) (it : OutItem) (rest : List OutItem) (s : State) :
    chan (headTaken n it rest s) 0 = { chan s 0 with out := rest } := chan_setChan_self ..

/-- A GET of all bytes of the head item (R37). -/
theorem get_whole_effect {n : Nat} {it : OutItem} {rest : List OutItem} {s : State} (h : (chan s 0).out = it :: rest)
    (hn : it.bytes.length ≤ n) :
    (get (8 + 2 * n) s).wire = s.wire ++ [.qspi it.bytes] ∧ (chan (get (8 + 2 * n) s) 0).out = rest ∧
      ∀ h, it.handle = some h → (chan (get (8 + 2 * n) s) 0).handles = (chan s 0).handles.filter (fun x => !(x.h == h)) := by
  have hwire : (headTaken n it rest s).wire = s.wire ++ [.qspi it.bytes] := by
    rw [← List.take_of_length_le hn]
    rfl
  rw [get_whole h hn]
  cases hh : it.handle with
  | none => exact ⟨hwire, by rw [chan_headTaken], fun h hsome => nomatch hsome⟩
  | some w =>
    refine ⟨(wire_delivered ..).trans hwire, by rw [out_delivered, chan_headTaken], fun h hsome => ?_⟩
    cases hsome
    rw [handles_delivered, chan_headTaken]

/-- Settles O11: PUT by what RDY_IN is, GET by what the head of the queue and the clocks are. -/
theorem qspiFramesComplete : Obligations.QspiFramesComplete := by
  refine ⟨⟨fun s h => ?_, fun op fl ch ep tag p => length_makeItem .., fun c b s hrun hrdy => ?_, fun c b s hrun hrdy => ?_,
    fun c n it rest s hrun hout hn => ?_, fun c n s hrun hout => ?_, fun c n it rest s hrun hout hn => ?_, fun c i s hrun h05 h32 h6B => ?_⟩,
    fun c s hrun => ends_of_event hrun rfl⟩
  · obtain ⟨⟨-, hreplies⟩, hroom⟩ := rdyIn_iff.1 h
    exact ⟨hroom, hreplies⟩
  · exact endsMem_event (op := put c b) hrun rfl (put_ready (s := begin_ c s) hrdy)
  · exact endsMem_event (op := put c b) hrun rfl (put_notReady (s := begin_ c s) hrdy)
  · exact ⟨_, ends_of_event (op := get (8 + 2 * n)) hrun rfl, get_whole_effect (s := begin_ c s) hout hn⟩
  · exact ends_of_event_eq (op := get (8 + 2 * n)) hrun rfl (get_empty (s := begin_ c s) hout)
  · exact ends_of_event_eq (op := get (8 + 2 * n)) hrun rfl (get_partial (s := begin_ c s) hout hn)
  · exact ends_of_event_eq (op := badInstruction i) hrun rfl (if_neg (not_or.2 ⟨h05, not_or.2 ⟨h32, h6B⟩⟩))

/-! ## Datagrams (R39 to R42) -/

theorem macLeaves_takeFrames {n : Nat} (hn : n < 2) (port k : Nat) (s : State) : MacLeaves s (takeFrames n port k s) := by
  unfold takeFrames
  dsimp only
  split
  · exact macLeaves_refl s
  · exact macLeaves_fillNow (macLeaves_setMac (macLeaves_refl s) _ _) hn _

section
variable {s t : State} (h : MacLeaves s t)
include h

theorem chan_of_macLeaves (n : Nat) : chan t n = chan s n := chan_congr (by rw [h.1, macPart]) n

theorem pwr_of_macLeaves : t.pwr = s.pwr := by rw [h.1, macPart]

theorem ctlReset_of_macLeaves : t.kiln.ctlReset = s.kiln.ctlReset := by rw [h.2.1]

theorem getF_of_macLeaves {f : Fld} (hf : unitOfAddr (f.key / 32) ∉ [1, 8, 10]) : getF t f = getF s f := h.2.2 f hf

end

theorem getF_notePeer (ch : Nat) (d : Datagram) (s : State) (f : Fld) : getF (notePeer ch d s) f = getF s f := by
  unfold notePeer
  split <;> rfl

theorem pwr_notePeer (ch : Nat) (d : Datagram) (s : State) : (notePeer ch d s).pwr = s.pwr := by
  unfold notePeer
  split <;> rfl

theorem kiln_notePeer (ch : Nat) (d : Datagram) (s : State) : (notePeer ch d s).kiln = s.kiln := by
  unfold notePeer
  split <;> rfl

section
variable {c ch : Nat} {d : Datagram} {s : State}

/-- A datagram's frames have left the MAC's buffer. -/
def received (d : Datagram) (s : State) : State := takeFrames d.mac d.port.toNat (max 1 d.frags) s

theorem macLeaves_received (d : Datagram) (s : State) : MacLeaves s (received d s) := macLeaves_takeFrames d.mac.isLt ..

theorem datagram_tooLong (hch : udpChan s d.mac d.port.toNat = some ch) (h : 4 < d.frags ∨ 4160 < d.bytes.length) :
    datagram c d s = countFrag ch (received d s) := by
  simp only [datagram, hch, if_pos h]
  rfl

/-- Outside a Control reset and a pause a whole datagram is a packet (R39, R61, R62). -/
theorem datagram_whole (hrun : Running s) (hch : udpChan s d.mac d.port.toNat = some ch) (hfrags : d.frags ≤ 4) (hlen : d.bytes.length ≤ 4160)
    (h2 : 2 ≤ d.bytes.length) (hsync : n2 d.bytes 0 = 0xA5C3) (hreset : s.kiln.ctlReset = false) (hpaused : getF s fHOST_STAT_PAUSED = 0)
    (hsup : s.pwr.sup = true) : datagram c d s = packet c (chanFin ch) none d.bytes (notePeer ch d (received d s)) := by
  have hleft := macLeaves_received d s
  have hpaused' : getF (notePeer ch d (received d s)) fHOST_STAT_PAUSED = 0 := by
    rw [getF_notePeer, getF_of_macLeaves hleft (by decide), hpaused]
  have hphase : s.pwr.phase = .run := hrun
  have hbuf : buffering (notePeer ch d (received d s)) = false := by
    rw [buffering, hpaused', kiln_notePeer, ctlReset_of_macLeaves hleft, hreset]
    rfl
  have hlive : commandsLive (notePeer ch d (received d s)) = true := by
    rw [commandsLive, hpaused', pwr_notePeer, pwr_of_macLeaves hleft, hphase, hsup]
    rfl
  have hnot : ¬(4 < d.frags ∨ 4160 < d.bytes.length) := by omega
  have hnot' : ¬(n2 d.bytes 0 ≠ 0xA5C3 ∨ d.bytes.length < 2) := by omega
  simp only [datagram, hch, if_neg hnot, if_neg hnot']
  exact (if_neg (Bool.eq_false_iff.1 hbuf)).trans (if_pos hlive)

theorem dFrag_countFrag (ch : Nat) (s : State) : (chan (countFrag ch s) ch).dFrag = up32 (chan s ch).dFrag := by
  rw [countFrag, chan_setChan_self]

end

/-- Settles O12: taking a datagram's frames from the MAC leaves what decides over its packet. -/
theorem datagramsComplete : Obligations.DatagramsComplete := by
  refine ⟨fun c d ch s hrun hch hfrags hlen h2 hsync hreset hpaused hsup => ?_, fun c d ch s hrun hch hlong => ?_,
    fun c m p ch s hrun hch => ?_, fun c ch seq x s hrun hx => ?_⟩
  · exact endsMem_event (op := datagram c d) hrun rfl
      (datagram_whole (s := begin_ c s) (running_begin hrun c) hch hfrags hlen h2 hsync hreset hpaused hsup)
  · exact endsMem_event (op := datagram c d) hrun rfl (datagram_tooLong (s := begin_ c s) hch hlong)
  · have htimeout : fragTimeout m p.toNat (begin_ c s) = countFrag ch (takeFrames m p.toNat 4 (begin_ c s)) := by
      have hch' : udpChan (begin_ c s) m p.toNat = some ch := hch
      simp only [fragTimeout, hch']
    refine ⟨_, ends_of_event_eq (op := fragTimeout m p.toNat) (f := fun u => countFrag ch (takeFrames m p.toNat 4 u)) hrun rfl htimeout,
      (dFrag_countFrag ..).trans ?_⟩
    rw [chan_of_macLeaves (macLeaves_takeFrames m.isLt ..), up32, chan_begin]
  · have hresend : (chan (begin_ c s) ch).unacked.find? (fun y => y.seq == seq.toNat) = some x := hx
    refine ends_of_event_eq (op := resendCompletion ch seq.toNat) hrun rfl ?_
    simp only [resendCompletion, hresend, up32]

end Sys2Proof.Machine
end

section
/-! Handles and completions (R50 to R60). -/
namespace Sys2Proof.Machine

open Sys2Proof

/-! ## The issue counter (R51) -/

theorem issueCount_bounds (s : State) (ch : Nat) : 1 ≤ issueCount s ch ∧ issueCount s ch ≤ 0x3FFFFFFF := by
  unfold issueCount
  split <;> omega

theorem toNat_nextHandle (s : State) {ch : Nat} (hch : ch < 4) : (nextHandle s ch).toNat = ch * 2 ^ 30 + issueCount s ch := by
  obtain ⟨-, hle⟩ := issueCount_bounds s ch
  rw [nextHandle, BitVec.toNat_ofNat, Nat.mod_eq_of_lt (by omega)]

/-- The counter after `n` (R51). -/
def countAfter (n : Nat) : Nat := if n = 0x3FFFFFFF then 1 else n + 1

/-- A counter in its range is read as it is stored (R51). -/
theorem issueCount_of_next {s : State} {ch n : Nat} (h : (chan s ch).next = n) (h1 : 1 ≤ n) (hle : n ≤ 0x3FFFFFFF) : issueCount s ch = n := by
  rw [issueCount, h, if_neg (by omega)]

theorem next_accept (r : Req) (op : Nat) (k : OpKind) (s : State) : (chan (accept r op k s) r.ch).next = countAfter (issueCount s r.ch) :=
  (next_reply ..).trans (congrArg Chan.next (chan_setChan_self r.ch _ s))

theorem issueCount_accept (r : Req) (op : Nat) (k : OpKind) (s : State) :
    issueCount (accept r op k s) r.ch = countAfter (issueCount s r.ch) := by
  obtain ⟨h1, hle⟩ := issueCount_bounds s r.ch
  refine issueCount_of_next (next_accept r op k s) ?_ ?_
  · unfold countAfter
    split <;> omega
  · unfold countAfter
    split <;> omega

theorem issueCount_of_chans_nil {s : State} (h : s.chans = []) (ch : Nat) : issueCount s ch = 1 := by
  rw [issueCount, chan, h]
  rfl

/-- A state held in reset counts from 1 on every channel. -/
theorem counts_of_heldInReset {b : Nat} {i : Instr} {s : State} (h : Yields i s (HeldInReset b)) :
    Yields i s (fun t => ∀ ch : Fin 4, issueCount t ch = 1) := by
  obtain ⟨t, ht, -, hchans, -⟩ := h
  exact ⟨t, ht, fun ch => issueCount_of_chans_nil hchans ch⟩

/-- Settles O13: the counter stays in its range, and a reset that leaves no channels starts it at 1. -/
theorem handlesCount : Obligations.HandlesCount := by
  obtain ⟨hcold, hpin, -, hwatchdog, hsoft, -⟩ := fullResetsComplete
  refine ⟨fun ch s => ?_, fun r op k s => issueCount_accept r op k s, fun ch => issueCount_of_chans_nil rfl ch, fun i s hi => ?_⟩
  · obtain ⟨h1, hle⟩ := issueCount_bounds s ch
    have hnat := toNat_nextHandle s ch.isLt
    refine ⟨by omega, by omega, h1, hle, fun hzero => ?_⟩
    rw [hzero] at hnat
    change 0 = _ at hnat
    omega
  · rcases hi with rfl | ⟨c, rfl, hup⟩ | ⟨c, rfl, hrun⟩ | ⟨c, rfl, hrun, hdue⟩
    · exact counts_of_heldInReset (hcold s)
    · exact counts_of_heldInReset (hpin c s hup)
    · exact counts_of_heldInReset (hwatchdog c s hrun)
    · exact counts_of_heldInReset (hsoft c s hrun hdue)

/-! ## Open handles (R52) -/

theorem handles_pushOut (ch q : Nat) (it : OutItem) (s : State) (n : Nat) : (chan (pushOut ch q it s) n).handles = (chan s n).handles := by
  rw [sameButOut_pushOut ch q it s n]

/-- No handle `h` is open once all that are it have closed. -/
theorem any_handle_filter (h : Word) (l : List HandleRec) : (l.filter (fun x => !(x.h == h))).any (fun x => x.h == h) = false := by
  simp

theorem handles_deliver (ch : Nat) (k : Compl) (s : State) : (chan (deliver ch k s) ch).handles = (chan s ch).handles := by
  unfold deliver
  dsimp only
  split
  · rfl
  · rw [handles_pushOut, chan_setChan_self]

theorem handles_acknowledgeHandle {ch : Nat} {h : Word} {s : State} (hopen : (chan s ch).unacked.any (fun u => u.h == h) = true) :
    (chan (acknowledgeHandle ch h s) ch).handles = (chan s ch).handles.filter (fun x => !(x.h == h)) := by
  obtain ⟨u, hu⟩ : ∃ u, (chan s ch).unacked.find? (fun u => u.h == h) = some u :=
    Option.isSome_iff_exists.1 (List.find?_isSome.2 (List.any_eq_true.1 hopen))
  simp only [acknowledgeHandle, hu]
  rw [handles_delivered, chan_setChan_self]

/-- An acknowledged completion's handle is open no more. -/
theorem closed_acknowledged {r : Req} {op : Nat} {h : Word} {s : State} (hopen : (chan s r.ch).unacked.any (fun u => u.h == h) = true) :
    (chan (replyOK r op [] (acknowledgeHandle r.ch h s)) r.ch).handles.any (fun x => x.h == h) = false := by
  rw [replyOK, handles_reply, handles_acknowledgeHandle hopen, any_handle_filter]

theorem opSysComplAck_live {r : Req} {s : State} (hl : Live s) (hs : List Word) :
    opSysComplAck r hs s = replyOK r 0x0005 [] (foldState (acknowledgeHandle r.ch) hs s) := command_live hl _ _ _ _ rfl

/-- At 64 open handles the limit is the check that fails (R52). -/
theorem bad_handleLimit_full {r : Req} {s : State} (h : 64 ≤ (chan s r.ch).handles.length) : (handleLimit r s).bad = true := decide_eq_true h

section
variable {r : Req} {op : Nat} {gs : List Guard} {k : State → State} {s : State}

/-- A command whose first check is the limit. -/
theorem command_limited (hl : Live s) (h : 64 ≤ (chan s r.ch).handles.length) :
    command r op (handleLimit r s :: gs) k s = reply r op stBUSY 0 [] s :=
  command_bad hl r op _ k (handleLimit r s) (List.find?_cons_of_pos (bad_handleLimit_full h))

/-- A command of a unit that is present, whose next check is the limit. -/
theorem command_limited_present (hl : Live s) (h : 64 ≤ (chan s r.ch).handles.length) {b : Bool} (hb : b = false) :
    command r op (absentIf b :: handleLimit r s :: gs) k s = reply r op stBUSY 0 [] s := by
  refine command_bad hl r op _ k (handleLimit r s) ((List.find?_cons_of_neg ?_).trans (List.find?_cons_of_pos (bad_handleLimit_full h)))
  rw [hb]
  exact Bool.false_ne_true

end

/-- Settles O14: at the limit every handled command ends at its first check, or at its second where its unit can be absent. -/
theorem handlesOpenAndClose : Obligations.HandlesOpenAndClose := by
  refine ⟨fun r op k s => ?accept, fun ch k s => handles_deliver ch k s, fun c n it rest h s hrun hout hh => ⟨fun hn => ?whole, fun hn => ?part⟩,
    fun r h s hl hch hopen => ?ack, fun r s hl hfull => ⟨fun k w v b i op hi => ?limit, fun o w v b i op hi => ?limitMem,
      fun hmod m => ?train, fun hprot o k => ⟨?sweep, ?cal⟩, fun htwin k => ⟨?join, ?switch⟩⟩⟩
  case accept =>
    obtain ⟨-, hhandles, -⟩ := accept_accepted r op k s
    rw [hhandles]
    simp
  case whole =>
    obtain ⟨-, -, hclosed⟩ := get_whole_effect (s := begin_ c s) hout hn
    refine ⟨_, ends_of_event (op := get (8 + 2 * n)) hrun rfl, ?_⟩
    refine (congrArg (fun l : List HandleRec => l.any (fun x => x.h == h)) (hclosed h hh)).trans ?_
    exact any_handle_filter h _
  case part => exact ⟨_, ends_of_event_eq (op := get (8 + 2 * n)) hrun rfl (get_partial (s := begin_ c s) hout hn), rfl⟩
  case ack =>
    exact ⟨_, ends_of_run (op := opSysComplAck r [h]) (f := fun u => replyOK r 0x0005 [] (acknowledgeHandle r.ch h u)) rfl
      (opSysComplAck_live (live_begin hl _) [h]), closed_acknowledged (s := begin_ r.c s) hopen⟩
  case limit =>
    simp only [List.mem_cons, Prod.mk.injEq, List.not_mem_nil, or_false] at hi
    rcases hi with ⟨rfl, rfl⟩ | ⟨rfl, rfl⟩ | ⟨rfl, rfl⟩ | ⟨rfl, rfl⟩ | ⟨rfl, rfl⟩ | ⟨rfl, rfl⟩ | ⟨rfl, rfl⟩ | ⟨rfl, rfl⟩ | ⟨rfl, rfl⟩
    all_goals exact ends_of_run (c := r.c) rfl (command_limited (live_begin hl _) hfull)
  case limitMem =>
    simp only [List.mem_cons, Prod.mk.injEq, List.not_mem_nil, or_false] at hi
    rcases hi with ⟨rfl, rfl⟩ | ⟨rfl, rfl⟩ | ⟨rfl, rfl⟩ | ⟨rfl, rfl⟩ | ⟨rfl, rfl⟩
    all_goals exact endsMem_of_runMem (c := r.c) rfl (command_limited (live_begin hl _) hfull)
  case train => exact ends_of_run (c := r.c) rfl (command_limited_present (live_begin hl _) hfull (congrArg Bool.not hmod))
  case sweep => exact ends_of_run (c := r.c) rfl (command_limited_present (live_begin hl _) hfull (congrArg Bool.not hprot))
  case cal => exact ends_of_run (c := r.c) rfl (command_limited_present (live_begin hl _) hfull (congrArg Bool.not hprot))
  case join => exact ends_of_run (c := r.c) rfl (command_limited_present (live_begin hl _) hfull (congrArg Bool.not htwin))
  case switch => exact ends_of_run (c := r.c) rfl (command_limited_present (live_begin hl _) hfull (congrArg Bool.not htwin))

/-! ## Completions (R53 to R60) -/

section
variable {k : Compl} {x : HandleRec} {s : State}

/-- Channel 0 once a completion of an open handle has been numbered (R53, R54). -/
def numbered (k : Compl) (l : Chan) : Chan :=
  { l with
    seq := seqNext l.seq
    held := l.held.filter (fun d => !(d.h == k.h))
    results := if 16 < k.result.length then l.results ++ [⟨k.h, l.seq, k.result, 64⟩] else l.results }

/-- The item of its completion record (R53). -/
def completionItem (k : Compl) (x : HandleRec) (s : State) : OutItem :=
  ⟨false, makeItem x.opcode x.tag 6 0 (chan s 0).epoch
    (beWord k.h ++ [byteOf k.status, byteOf ((if x.gen < s.gen then 1 else 0) + (if 16 < k.result.length then 2 else 0))] ++
      be2 (chan s 0).seq ++ beWord k.batch ++ be4 k.result.length ++ (k.result ++ zeros 16).take 16), some k.h⟩

theorem deliver0_open (hx : (chan s 0).handles.find? (fun y => y.h == k.h) = some x) :
    deliver 0 k s = pushOut 0 4 (completionItem k x s) (setChan 0 (numbered k (chan s 0)) s) := by
  have hres : (if (if 16 < k.result.length then 2 else 0) = 0 then (chan s 0).results
      else (chan s 0).results ++ [⟨k.h, (chan s 0).seq, k.result, 64⟩]) = (numbered k (chan s 0)).results := by
    unfold numbered
    by_cases h : 16 < k.result.length
    · simp only [if_pos h]; rfl
    · simp only [if_neg h]; rfl
  simp only [deliver, hx, hres]
  rfl

theorem chan_deliver0 (hx : (chan s 0).handles.find? (fun y => y.h == k.h) = some x) :
    chan (deliver 0 k s) 0 = { numbered k (chan s 0) with out := (chan s 0).out ++ [completionItem k x s] } := by
  rw [deliver0_open hx, chan_pushOut0, chan_setChan_self]
  rfl

end

/-- In a Control reset nothing is released (R60, R61). -/
theorem release_inReset {s : State} (h : s.kiln.ctlReset = true) (ch : Nat) : release ch s = s := if_pos h

theorem held_finish_inReset {ch : Nat} {h : Word} {s : State} (hreset : s.kiln.ctlReset = true)
    (hrunning : (chan s ch).handles.any (fun x => x.h == h && !x.done) = true) (st : Nat) (res : List Byte) :
    (chan (finish ch h st res s) ch).held = (chan s ch).held ++ [{ h := h, status := st, batch := batch s, result := res }] := by
  simp only [finish, if_pos hrunning]
  rw [release_inReset (s := { setChan ch _ s with ops := _ }) hreset]
  exact congrArg Chan.held (chan_setChan_self ch _ s)

/-- Settles O15: the record of an open handle, and a completion that a Control reset holds. -/
theorem completionRecordLeaves : Obligations.CompletionRecordLeaves := by
  refine ⟨fun k x s hx => ?_, fun ch h st res s hreset hrunning => held_finish_inReset hreset hrunning st res⟩
  rw [chan_deliver0 hx]
  exact ⟨rfl, rfl, fun hlong => if_pos hlong⟩

end Sys2Proof.Machine
end

section
/-! The system, diagnostic and register commands (R42, R54, R65, R366). -/
namespace Sys2Proof.Machine

open Sys2Proof

/-! ## Queries (R65) -/

section
variable {r : Req} {s : State} (hl : Live s)
include hl

theorem opSysNop_live : opSysNop r s = replyOK r 0x0000 [] s := command_live hl _ _ _ _ rfl

theorem opSysInfo_live : opSysInfo r s = replyOK r 0x0001
    (be4 (peekReg s rSYS_ID) ++ be4 (peekReg s rSYS_CAPS) ++ be4 (peekReg s rSYS_RSTCAUSE) ++ be4 (peekReg s rSYS_ROMVER) ++
      be4 (peekReg s rSYS_OVLVER) ++ be4 (peekReg s rSYS_BATCH) ++ [byteOf (chan s r.ch).epoch, 0, 0, 0]) s := by
  rw [opSysInfo, command_live hl _ _ _ _ rfl]
  simp only [List.flatMap_cons, List.flatMap_nil, List.append_nil, List.append_assoc]

theorem opDiagEcho_live (b : List Byte) : opDiagEcho r b s = replyOK r 0x0C00 b s := command_live hl _ _ _ _ rfl

/-- The counters of a channel, as DIAG_COUNTERS lists them. -/
def counterBytes (k : Chan) : List Byte := be4 k.dHcrc ++ be4 k.dLen ++ be4 k.dDrop ++ be4 k.dSync ++ be4 k.dFrag ++ be4 k.dResend

theorem opDiagCounters_live (k : Nat) : opDiagCounters r k s = replyOK r 0x0C01 (counterBytes (chan s r.ch))
    (if 1 ≤ k then setChan r.ch { chan s r.ch with dHcrc := 0, dLen := 0, dDrop := 0, dSync := 0, dFrag := 0, dResend := 0 } s else s) :=
  command_live hl _ _ _ _ rfl

/-- SYS_RESULT_READ of a part that the stored result has (R54). -/
theorem opSysResultRead_live {h : Word} {o n : Nat} {e : StoredResult} (he : (chan s r.ch).results.find? (fun x => x.h == h) = some e)
    (ho : o ≤ e.bytes.length) (hn : n ≤ 4092) (hend : o + n ≤ e.bytes.length) :
    opSysResultRead r h o n s = replyOK r 0x0006 (sub e.bytes o n) s := by
  rw [opSysResultRead, command_live hl _ _ _ _ (by rw [he]; rfl)]
  have hcount : min (min n 4092) (e.bytes.length - o) = n := by omega
  simp only [he, Nat.min_eq_left ho, hcount]

omit hl in
theorem find?_notOpen {h : Word} (hopen : (chan s r.ch).handles.any (fun x => x.h == h) = true) :
    [deniedIf (!(chan s r.ch).handles.any (fun x => x.h == h)) 1].find? (fun g => g.bad) = none := by
  rw [hopen]
  rfl

theorem opSysAbort_running {h : Word} {o : Op} (hopen : (chan s r.ch).handles.any (fun x => x.h == h) = true)
    (ho : s.ops.find? (fun x => x.ch == r.ch.val && x.h == h) = some o) : opSysAbort r h s = abortOp o (replyOK r 0x0004 [] s) := by
  rw [opSysAbort, command_live hl _ _ _ _ (find?_notOpen hopen)]
  simp only [replyOK, ops_reply, ho]

theorem opSysAbort_done {h : Word} (hopen : (chan s r.ch).handles.any (fun x => x.h == h) = true)
    (ho : s.ops.find? (fun x => x.ch == r.ch.val && x.h == h) = none) : opSysAbort r h s = replyOK r 0x0004 [] s := by
  rw [opSysAbort, command_live hl _ _ _ _ (find?_notOpen hopen)]
  simp only [replyOK, ops_reply, ho]

end

/-- Operations without a unit of their own just finish when they are aborted. -/
theorem ops_abortOp {o : Op} (hkind : o.kind = .updWrite ∨ o.kind = .romCheck ∨ o.kind = .bootSave) (s : State) :
    (abortOp o s).ops = s.ops.filter (fun x => !(x.h == o.h)) := by
  rcases hkind with h | h | h <;> simp only [abortOp, h, ops_finish]

/-! ## Checks that take time (R65) -/

theorem any_of_stopped {p : OpKind → Bool} {s : State} (h : Stopped p s) : s.ops.any (fun o => p o.kind) = false := by
  simpa [Stopped] using h

/-- No check fails of a command whose operation is not running. -/
theorem find?_idle {r : Req} {p : OpKind → Bool} {s : State} (hroom : HandleFree r s) (hstop : Stopped p s) :
    [handleLimit r s, busyIf (s.ops.any (fun o => p o.kind))].find? (fun g => g.bad) = none :=
  find?_bad_eq_none (by simp [bad_handleLimit hroom, any_of_stopped hstop])

theorem clampHi_two (k : Nat) : clampHi 2 k = min k 2 := by
  unfold clampHi
  split <;> omega

section
variable {r : Req} {s : State} (hl : Live s) (hroom : HandleFree r s)
include hl hroom

theorem opDiagRomCheck_idle (hstop : Stopped isRomCheck s) : opDiagRomCheck r s = accept r 0x0C02 .romCheck s :=
  command_live hl _ _ _ _ (find?_idle hroom hstop)

theorem opDiagScrub_idle {k : Nat} (hstop : Stopped (isScrubOf (min k 2)) s) :
    opDiagScrub r k s = accept r 0x0C03 (.scrub (min k 2) (getF s fPWR_STAT_DAMPER == 1)) s := by
  rw [opDiagScrub, clampHi_two]
  exact command_live hl _ _ _ _ (find?_idle hroom hstop)

end

/-- The end of a check of the ROM that computed `w`. -/
def endRomCheck (w : Word) (s : State) : State :=
  finishAll isRomCheck (if w = Config.romCrc then stOK else stFAILED) (beWord w ++ beWord Config.romCrc)
    (if w = Config.romCrc then s else send 24 0 9 3 0 s)

/-- The end of a scrub of region `k` that corrected `n` errors and found `m` it could not. -/
def endScrub (k n m : Nat) (w : Word) (s : State) : State :=
  finishAll (scrubRuns k) (if m = 0 then stOK else stFAILED) (be4 n ++ be4 m ++ beWord (if m = 0 then 0xFFFFFFFF else w))
    (if m = 0 then (if k = 1 then bumpN fNVS_CNT_CORR n s else s)
      else send (if k = 0 then 22 else if k = 1 then 17 else 23) 0 1 8 w.toNat (if k = 1 then bumpN fNVS_CNT_CORR n s else s))

theorem romCheckDone_running {w : Word} {s : State} (hrunning : s.ops.any (fun o => isRomCheck o.kind) = true) :
    romCheckDone w s = endRomCheck w s := by
  by_cases h : w = Config.romCrc
  · simp [romCheckDone, endRomCheck, hrunning, h, when_]
  · simp [romCheckDone, endRomCheck, hrunning, h, when_]

theorem scrubDone_running {k n m : Nat} {w : Word} {s : State} (hrunning : s.ops.any (fun o => scrubRuns k o.kind) = true) :
    scrubDone k n m w s = endScrub k n m w s := by
  by_cases h : m = 0
  · simp [scrubDone, endScrub, hrunning, h, when_]
  · simp [scrubDone, endScrub, hrunning, h, when_, scrubSource]

/-- Settles O16: each command by what its checks let through, each end by the operation that runs. -/
theorem systemCommandsComplete : Obligations.SystemCommandsComplete := by
  refine ⟨fun r s hl => ⟨?_, ?_, fun h o n e he ho hn hend => ?_, fun b => ?_, fun k => ?_⟩,
    fun r s hl => ⟨fun h o hopen ho => ?_, fun h hopen ho => ?_, fun hs => ?_⟩, fun o s hkind => ops_abortOp hkind s,
    fun r s hl hroom hstop => ?_, fun r k s hl hroom hstop => ?_, fun c w s hrun hrunning => ?_, fun c k n m w s hrun hrunning => ?_⟩
  · exact ends_of_run (op := opSysNop r) rfl (opSysNop_live (live_begin hl _))
  · exact ends_of_run (op := opSysInfo r) rfl (opSysInfo_live (live_begin hl _))
  · exact ends_of_run (op := opSysResultRead r h o n) rfl (opSysResultRead_live (s := begin_ r.c s) (live_begin hl _) he ho hn hend)
  · exact ends_of_run (op := opDiagEcho r b) rfl (opDiagEcho_live (live_begin hl _) b)
  · exact ends_of_run (op := opDiagCounters r k) rfl (opDiagCounters_live (live_begin hl _) k)
  · exact ends_of_run (op := opSysAbort r h) rfl (opSysAbort_running (s := begin_ r.c s) (live_begin hl _) hopen ho)
  · exact ends_of_run (op := opSysAbort r h) rfl (opSysAbort_done (s := begin_ r.c s) (live_begin hl _) hopen ho)
  · exact ends_of_run (op := opSysComplAck r hs) rfl (opSysComplAck_live (live_begin hl _) hs)
  · exact ⟨_, ends_of_run (op := opDiagRomCheck r) (f := accept r 0x0C02 .romCheck) rfl
      (opDiagRomCheck_idle (s := begin_ r.c s) (live_begin hl _) hroom hstop), accept_accepted r _ _ (begin_ r.c s)⟩
  · exact ⟨_, ends_of_run (op := opDiagScrub r k) (f := fun u => accept r 0x0C03 (.scrub (min k 2) (getF s fPWR_STAT_DAMPER == 1)) u) rfl
      (opDiagScrub_idle (s := begin_ r.c s) (live_begin hl _) hroom hstop), accept_accepted r _ _ (begin_ r.c s)⟩
  · have hends : Ends (.diagRomCheckDone c w) c s (endRomCheck w) :=
      ends_of_event_eq (op := romCheckDone w) hrun rfl (romCheckDone_running (s := begin_ c s) hrunning)
    exact ⟨hends, _, hends, finishAll_stopped ..⟩
  · have hends : Ends (.diagScrubDone c k n m w) c s (endScrub k n m w) :=
      ends_of_event_eq (op := scrubDone k n m w) hrun rfl (scrubDone_running (s := begin_ c s) hrunning)
    exact ⟨hends, _, hends, finishAll_stopped ..⟩

/-! ## Register commands (R9, R56, R65, R366) -/

theorem fuses_foldl {α : Type} {f : State → α → State} (hf : ∀ t a, (f t a).fuses = t.fuses) (l : List α) (s : State) :
    (l.foldl f s).fuses = s.fuses :=
  List.foldlRecOn (motive := fun t => t.fuses = s.fuses) l f rfl fun t ht a _ => (hf t a).trans ht

theorem fuses_afterRead (a : Nat) (s : State) : (afterRead a s).fuses = s.fuses := by
  unfold afterRead
  split
  · rfl
  · split
    · unfold readLog
      split
      · rfl
      · split <;> rfl
    · rw [clearRc_eq_foldl]
      refine fuses_foldl (fun t f => ?_) _ s
      unfold clearField
      split <;> rfl

/-- What decodes is a matter of the fuses. -/
theorem regDecodes_congr {s t : State} (h : t.fuses = s.fuses) (a : Nat) : regDecodes t a = regDecodes s a := by
  unfold regDecodes unitAbsent hasMod hasProt hasTwin
  rw [h]

section
variable {a : Nat} {s : State} {b : List Byte}

theorem readStep_decodes (h : regDecodes s a = true) : readStep ⟨s, b, none⟩ a = ⟨afterRead a s, b ++ be4 (readWord s a), none⟩ := by
  simp [readStep, h]

theorem readStep_fails (h : regDecodes s a = false) : readStep ⟨s, b, none⟩ a = ⟨decodeError .sup a false s, b, some a⟩ := by
  simp [readStep, h]

theorem writeStep_decodes (h : regDecodes s a = true) (v : Nat) :
    writeStep ⟨s, b, none⟩ (a, v) = ⟨busWrite .sup a v s, b ++ be4 (appliedWord (busWrite .sup a v s) a), none⟩ := by
  simp [writeStep, h]

theorem writeStep_fails (h : regDecodes s a = false) (v : Nat) :
    writeStep ⟨s, b, none⟩ (a, v) = ⟨decodeError .sup a true s, b, some a⟩ := by
  simp [writeStep, h]

end

/-- A walk over addresses that all decode ends without a fault. -/
theorem fail_foldl_readStep {l : List Nat} {s : State} (h : l.all (regDecodes s) = true) (b : List Byte) :
    (l.foldl readStep ⟨s, b, none⟩).fail = none := by
  induction l generalizing s b with
  | nil => rfl
  | cons a l ih =>
    obtain ⟨ha, hl⟩ := Bool.and_eq_true_iff.1 (List.all_cons.symm.trans h)
    rw [List.foldl_cons, readStep_decodes ha]
    refine ih ?_ _
    rwa [funext (regDecodes_congr (fuses_afterRead a s))]

section
variable {r : Req} {a : Word} {s : State} (hl : Live s) (hin : inRegs (a.toNat / 4 * 4) = true)
include hl hin

theorem opRegRead_decodes {n : Nat} (hall : (regSpan (a.toNat / 4 * 4) (clampN 1 256 n)).all (regDecodes s) = true) :
    opRegRead r a n s =
      replyOK r 0x0100 ((regSpan (a.toNat / 4 * 4) (clampN 1 256 n)).foldl readStep { s := s, out := [], fail := none }).out
        ((regSpan (a.toNat / 4 * 4) (clampN 1 256 n)).foldl readStep { s := s, out := [], fail := none }).s := by
  rw [opRegRead, command_live hl _ _ _ _ (by simp [deniedIf, hin]), replyWalk, fail_foldl_readStep hall]

theorem opRegWrite_decodes (hdec : regDecodes s (a.toNat / 4 * 4) = true) (w : Word) : opRegWrite r a [w] s =
    replyOK r 0x0101 (be4 (appliedWord (busWrite .sup (a.toNat / 4 * 4) w.toNat s) (a.toNat / 4 * 4)))
      (busWrite .sup (a.toNat / 4 * 4) w.toNat s) := by
  rw [opRegWrite_one hl r a w hin, writeStep_decodes hdec]
  rfl

theorem opRegModify_decodes (hdec : regDecodes s (a.toNat / 4 * 4) = true) (m v : Word) : opRegModify r a m v s =
    let old := readWord s (a.toNat / 4 * 4)
    let t := busWrite .sup (a.toNat / 4 * 4) ((BitVec.ofNat 32 old &&& ~~~m) ||| (v &&& m)).toNat (afterRead (a.toNat / 4 * 4) s)
    replyOK r 0x0102 (be4 old ++ be4 (appliedWord t (a.toNat / 4 * 4))) t := by
  rw [opRegModify, command_live hl _ _ _ _ (by simp [deniedIf, hin])]
  simp only [readStep_decodes hdec]

theorem opRegRead_fails (hdec : regDecodes s (a.toNat / 4 * 4) = false) :
    opRegRead r a 1 s = reply r 0x0100 stFAILED 0 (be4 (a.toNat / 4 * 4)) (decodeError .sup (a.toNat / 4 * 4) false s) := by
  rw [opRegRead_one hl r a hin, readStep_fails hdec]
  rfl

theorem opRegWrite_fails (hdec : regDecodes s (a.toNat / 4 * 4) = false) (w : Word) :
    opRegWrite r a [w] s = reply r 0x0101 stFAILED 0 (be4 (a.toNat / 4 * 4)) (decodeError .sup (a.toNat / 4 * 4) true s) := by
  rw [opRegWrite_one hl r a w hin, writeStep_fails hdec]
  rfl

end

theorem busWrite_present {m : Master} {a v : Nat} {s : State} (hin : inRegs a = true) (hdec : regDecodes s a = true)
    (hpresent : unitAbsent s (unitOfAddr a) = false) : busWrite m a v s = writeReg m a v s := by
  simp [busWrite, hin, hdec, hpresent]

/-- The address of an access that nothing answers is recorded (R366). -/
theorem addr_decodeError {m : Master} {a : Nat} (ha : a < 2 ^ 32) (write : Bool) (s : State) :
    getF (decodeError m a write s) fFAB_ERR_ADDR = a := by
  have hrecorded (u : State) : getF (bump fFAB_CNT_DECODE (setF fFAB_ERR_ADDR a u)) fFAB_ERR_ADDR = a := by
    rw [getF_bump_ne (by decide), getF_setF_self]
    exact Nat.mod_eq_of_lt ha
  unfold decodeError
  dsimp only
  split
  · exact hrecorded _
  · rw [getF_send (by decide)]
    exact hrecorded _

/-- Settles O17: an access by whether its address decodes; a run of reads keeps what decides that. -/
theorem registerCommandsComplete : Obligations.RegisterCommandsComplete := by
  refine ⟨⟨fun r a n s hl hin hall => ?_, fun r a w s hl hin hdec => ?_, fun r a m v s hl hin hdec => ?_,
    fun c m a v s hrun hin hdec hpresent => ?_⟩, fun r a s hl hin hdec => ⟨?_, fun w => ?_, ?_⟩⟩
  · exact ends_of_run (op := opRegRead r a n) rfl (opRegRead_decodes (s := begin_ r.c s) (live_begin hl _) hin hall)
  · exact endsMem_of_runMem (op := opRegWrite r a [w]) rfl (opRegWrite_decodes (s := begin_ r.c s) (live_begin hl _) hin hdec w)
  · exact endsMem_of_runMem (op := opRegModify r a m v) rfl (opRegModify_decodes (s := begin_ r.c s) (live_begin hl _) hin hdec m v)
  · exact endsMem_event (op := busWrite m (a.toNat / 4 * 4) v.toNat) hrun rfl (busWrite_present (s := begin_ c s) hin hdec hpresent)
  · exact ends_of_run (op := opRegRead r a 1) rfl (opRegRead_fails (s := begin_ r.c s) (live_begin hl _) hin hdec)
  · exact endsMem_of_runMem (op := opRegWrite r a [w]) rfl (opRegWrite_fails (s := begin_ r.c s) (live_begin hl _) hin hdec w)
  · exact addr_decodeError (Nat.lt_of_le_of_lt (Nat.div_mul_le_self _ 4) a.isLt) true s

end Sys2Proof.Machine
end

section
/-! Control resets, Unit resets and masking windows (R59 to R61, R341 to R347, R359). -/
namespace Sys2Proof.Machine

open Sys2Proof

/-! ## The Control reset (R61, R350) -/

theorem ctlReset_startControl (s : State) : (startControl s).kiln.ctlReset = true := by
  unfold startControl
  split
  · assumption
  · rfl

theorem frozen_startControl {s : State} (hoff : s.kiln.ctlReset = false) : (startControl s).clk.frozen = true := by
  rw [startControl, hoff]
  rfl

theorem opControlReset_live {r : Req} {s : State} (hl : Live s) :
    opControlReset r s = startControl (replyOK r 0x0003 [byteOf (chan s r.ch).epoch, 0, 0, 0] s) := command_live hl _ _ _ _ rfl

theorem ends_controlReset {r : Req} {s : State} (hl : Live s) : Ends (.controlReset r) r.c s
    (fun u => startControl (replyOK r 0x0003 [byteOf (chan s r.ch).epoch, 0, 0, 0] u)) :=
  ends_of_run (op := opControlReset r) rfl (opControlReset_live (live_begin hl _))

theorem watchdogExpiry_first {s : State} (hoff : s.kiln.ctlReset = false) : watchdogExpiry false s =
    setF fSYS_RSTCAUSE_CWDOG 1 (startControl (takeShard { src := 18, inst := 0, cls := 9, kind := 1, ctx := 0 }
      (drainSource 18 { s with pwr := { s.pwr with wdog := 0 } }))) := by
  rw [watchdogExpiry, hoff]
  rfl

theorem controlResetEnd_ends (c : Nat) {s : State} (hon : s.kiln.ctlReset = true) :
    controlResetEnd c s = drainAll c (endControl (supervisorStart s)) := if_pos hon

/-! ## Unit resets (R343) -/

theorem kiln_newEpoch (s : State) : (newEpoch s).kiln = s.kiln :=
  (foldState_keeps (fun u => u.kiln) (f := fun c u => setChan c { chan u c with epoch := epochNext (chan u c).epoch } u)
    (fun _ _ => rfl) _ _).trans rfl

theorem kiln_abortStopped (s : State) : (abortStopped s).kiln = s.kiln :=
  foldState_keeps (fun u => u.kiln) (fun _ _ => foldState_keeps (fun u => u.kiln) (fun _ _ => kiln_finish ..) _ _) _ s

theorem kiln_recover (s : State) : (recover s).kiln = s.kiln := (kiln_abortStopped _).trans (kiln_newEpoch s)

/-- The lanes that TRUNK's reset leaves enabled train (R252). -/
theorem kiln_trainEnabled (s : State) :
    (foldState (fun l u => if getF u (fTL_CTL_EN l) = 1 then trainLane l u else u) (List.range 8) s).kiln = s.kiln :=
  foldState_keeps (fun u => u.kiln) (fun l u => by
    split
    · exact kiln_trainLane l u
    · rfl) _ s

/-- A Unit reset that is under way is the only one that leaves the list at its end. -/
theorem resets_endUnitReset {n : Nat} {x : UnitReset} {s : State} (hfind : s.kiln.resets.find? (fun u => u.unit == n) = some x) :
    (endUnitReset n s).kiln.resets = s.kiln.resets.filter (fun v => !(v.unit == n)) := by
  simp only [endUnitReset, hfind]
  have htrained (t : State) :
      (if n = 9 then foldState (fun l u => if getF u (fTL_CTL_EN l) = 1 then trainLane l u else u) (List.range 8) t else t).kiln = t.kiln := by
    split
    · exact kiln_trainEnabled t
    · rfl
  split
  · rw [kiln_recover, htrained]
    rfl
  · rw [htrained]
    rfl

/-- The unit of a Unit reset that has ended is in reset no more. -/
theorem any_reset_endUnitReset {n : Nat} {x : UnitReset} {s : State} (hfind : s.kiln.resets.find? (fun u => u.unit == n) = some x) :
    (endUnitReset n s).kiln.resets.any (fun u => u.unit == n) = false := by
  rw [resets_endUnitReset hfind]
  simp

/-! ## Masking windows (R347) -/

/-- The state without its first window. -/
theorem closeWindow_ended {w : Window} {q : List Window} {s : State} (hwin : s.kiln.windows = w :: q) (hend : w.ended = true) :
    (closeWindow s).kiln.windows = q := by
  simp only [closeWindow, hwin, hend, if_true]

/-- Settles O50: each command by its only branch that the hypotheses leave; only the Unit reset's end needs what its recovery leaves. -/
theorem controlResetsComplete : Obligations.ControlResetsComplete := by
  refine ⟨fun r s hl hoff => ⟨ends_controlReset hl, _, ends_controlReset hl, ctlReset_startControl _, ?frozen⟩, fun c s hrun hoff => ?watchdog,
    fun c s hrun hon => ?controlEnd, fun c n x s hrun hfind => ⟨ends_of_event hrun rfl, ?unitEnd⟩, fun c w q s hrun hwin hend => ?window⟩
  case frozen =>
    exact frozen_startControl (s := replyOK r 0x0003 [byteOf (chan s r.ch).epoch, 0, 0, 0] (begin_ r.c s))
      ((congrArg KilnSt.ctlReset (kiln_reply ..)).trans hoff)
  case watchdog => exact endsMem_event (op := watchdogExpiry false) hrun rfl (watchdogExpiry_first (s := begin_ c s) hoff)
  case controlEnd => exact endsMem_event (op := controlResetEnd c) hrun rfl (controlResetEnd_ends c (s := begin_ c s) hon)
  case unitEnd => exact ⟨_, ends_of_event (op := endUnitReset n) hrun rfl, any_reset_endUnitReset (s := begin_ c s) hfind⟩
  case window => exact ⟨_, ends_of_event (op := closeWindow) hrun rfl, closeWindow_ended (s := begin_ c s) hwin hend⟩

end Sys2Proof.Machine
end

section
/-! Update sessions, activation and health (R62, R381 to R392). -/
namespace Sys2Proof.Machine

open Sys2Proof

/-! ## Update sessions (R381 to R383, R392) -/

/-- The inactive bank as UPD_OPEN leaves it: emptied, and of no version (R381, R390). -/
def bankOpened (r : Req) (n : Nat) (s : State) : State :=
  setF fUPD_STAT_INACT 0 (dropVersion (eraseSector ((bankBase (otherBank (activeBank s)) - flashBase) / 65536)
    (openSession r false (bankBase (otherBank (activeBank s))) (clampN 608 0x400000 n) s)))

/-- Where a session on the data area begins, from the start of the flash (R392). -/
def dataStart (o : Nat) (s : State) : Nat := clampN 0x800000 (s.upd.flashSize - 1) o / 65536 * 65536

theorem session_of_sessionOf {r : Req} {id : Word} {x : Session} {s : State} (hx : sessionOf s r id = some x) : s.upd.session = some x := by
  unfold sessionOf at hx
  split at hx
  · next y hy =>
    split at hx
    · rw [hy, hx]
    · cases hx
  · cases hx

theorem bad_wrongSession {r : Req} {id : Word} {x : Session} {s : State} (hx : sessionOf s r id = some x) :
    (wrongSession r id s).bad = false := by
  rw [wrongSession, hx]
  rfl

section
variable {r : Req} {s : State} (hl : Live s)
include hl

theorem opUpdOpen_data (hnone : s.upd.session = none) {k : Nat} (hk : 1 ≤ k) (o n : Nat) :
    opUpdOpen r k o n s = replyOK r 0x0B00 (beWord (BitVec.ofNat 32 s.upd.nextId))
      (openSession r true (flashBase + dataStart o s) (min n (s.upd.flashSize - dataStart o s)) s) := by
  have hdata : decide (1 ≤ k) = true := decide_eq_true hk
  rw [opUpdOpen, command_live hl _ _ _ _ (find?_bad_eq_none (by simp [hdata, hnone]))]
  simp only [hdata, if_true]
  rfl

theorem opUpdOpen_bank (hnone : s.upd.session = none) (hpend : getF s fUPD_STAT_HPEND = 0) (o n : Nat) :
    opUpdOpen r 0 o n s = replyOK r 0x0B00 (beWord (BitVec.ofNat 32 s.upd.nextId)) (bankOpened r n s) :=
  command_live hl _ _ _ _ (find?_bad_eq_none (by simp [hpend, hnone]))

section
variable {id : Word} {x : Session} (hx : sessionOf s r id = some x)
include hx

theorem opUpdWrite_fits (hfree : HandleFree r s) {o : Nat} {crc : Word} {d : List Byte} (hcrc : BitVec.ofNat 32 (crc32 d) = crc)
    (hend : o + d.length ≤ x.len) (hnew : x.written.any (rangesMeet (o, d.length)) = false) :
    opUpdWrite r id o crc d s = accept r 0x0B01 .updWrite (program x o d s) := by
  rw [opUpdWrite]
  simp only [hx]
  exact command_live hl _ _ _ _ (find?_bad_eq_none (by simp [bad_handleLimit hfree, bad_wrongSession hx, hcrc, hend, hnew]))

theorem opUpdClose_session (hfree : HandleFree r s) (hstop : Stopped isUpdClose s) (crc : Word) :
    opUpdClose r id crc s = accept r 0x0B02 (.updClose crc) (if x.data then s else setF fUPD_STAT_INACT 2 s) := by
  have hnone : s.ops.any (fun o => isUpdClose o.kind) = false := any_of_stopped hstop
  rw [opUpdClose, command_live hl _ _ _ _ (find?_bad_eq_none (by simp [bad_handleLimit hfree, bad_wrongSession hx, hnone]))]
  simp only [session_of_sessionOf hx]
  cases x.data <;> rfl

theorem opUpdAbort_session : opUpdAbort r id s = abandonSession (replyOK r 0x0B03 [] s) :=
  command_live hl _ _ _ _ (find?_bad_eq_none (by simp [bad_wrongSession hx]))

end

end

theorem updWriteDone_running {o : Op} {s : State} (ho : s.ops.find? (fun x => isUpdWrite x.kind) = some o) :
    updWriteDone s = finish o.ch o.h stOK [] s := by
  simp only [updWriteDone, ho]

theorem updCloseDone_running {crc : Word} {o : Op} {x : Session} {s : State} (hx : s.upd.session = some x)
    (ho : s.ops.find? (fun y => isUpdClose y.kind) = some o) (hkind : o.kind = .updClose crc) : updCloseDone s = closeDone o crc x s := by
  simp only [updCloseDone, ho, hx, hkind]

theorem upd_finishAll (p : OpKind → Bool) (st : Nat) (res : List Byte) (s : State) : (finishAll p st res s).upd = s.upd := by
  rw [(sameButFinish_finishAll p st res s).1]

/-- What ends a session keeps the rest of the update state. -/
theorem upd_endSession (s : State) : (endSession s).upd = { s.upd with session := none } := by
  unfold endSession
  split
  · next hnone => rw [← hnone]
  · next x _ =>
    unfold when_
    cases x.data <;> rfl

theorem session_abandonSession (s : State) : (abandonSession s).upd.session = none := by
  rw [abandonSession, upd_finishAll, upd_endSession]

/-! ## What a Control reset keeps of the update state (R350, R388) -/

theorem sameButReply_headReply (r : Req) (b : List Byte) (status detail : Nat) (store : Bool) (s : State) :
    SameButReply s (headReply r b status detail store s) := by
  unfold headReply
  dsimp only
  split
  · exact sameButReply_trans (sameButReply_pushOut ..) (sameButReply_storeReplay ..)
  · exact sameButReply_pushOut ..

theorem sameButReply_abortPacket (ch : Fin 4) (b : List Byte) (s : State) : SameButReply s (abortPacket ch b s) :=
  sameButReply_headReply _ b stABORTED 0 (headGood b) s

section
variable (s : State)

theorem upd_setF (f : Fld) (v : Nat) : (setF f v s).upd = s.upd := rfl

theorem upd_setChan (n : Nat) (k : Chan) : (setChan n k s).upd = s.upd := rfl

theorem upd_setTray (n : Nat) (q : TraySt) : (setTray n q s).upd = s.upd := rfl

theorem upd_abortInputs (ch : Fin 4) : (abortInputs ch s).upd = s.upd := by
  have hpacket (b : List Byte) (u : State) : (abortPacket ch b u).upd = u.upd := by rw [(sameButReply_abortPacket ch b u).1]
  rw [abortInputs, foldState_keeps State.upd hpacket, upd_setChan]

theorem upd_unfade (c : Commit) : (unfade c s).upd = s.upd := by
  refine foldState_keeps State.upd (fun _ _ => ?_) _ _
  dsimp only
  split
  · rfl
  · rfl

theorem upd_cancelCommits (p : Commit → Bool) : (cancelCommits p s).upd = s.upd := by
  simp only [cancelCommits, showFades, upd_setF]
  refine (foldState_keeps State.upd (fun _ _ => ?_) _ _).trans (foldState_keeps State.upd (fun c u => upd_unfade u c) _ _)
  exact foldState_keeps State.upd (fun _ _ => upd_setTray ..) _ _

theorem upd_stopOps (p : OpKind → Bool) : (stopOps p s).upd = s.upd := by
  simp only [stopOps]
  exact foldState_keeps State.upd (fun _ _ => upd_setChan ..) _ _

theorem upd_setProt (n : Nat) (q : ProtSt) : (setProt n q s).upd = s.upd := rfl

theorem upd_aimPilot (n : Nat) : (aimPilot n s).upd = s.upd := by
  simp only [aimPilot, upd_setF, upd_setProt]

theorem upd_stopSweep (n : Nat) : (stopSweep n s).upd = s.upd := by
  rw [stopSweep]
  split
  · rw [upd_finishAll, upd_setProt]
  · rfl

theorem upd_stopCal (n : Nat) : (stopCal n s).upd = s.upd := by
  rw [stopCal]
  split
  · rw [upd_aimPilot, upd_finishAll, upd_setProt]
  · rfl

theorem upd_endProtOps (n : Nat) : (endProtOps n s).upd = s.upd := (upd_stopCal _ n).trans (upd_stopSweep s n)

theorem upd_setOut (n : Nat) (q : OutSt) : (setOut n q s).upd = s.upd := rfl

theorem upd_enterOff (n : Nat) : (enterOff n s).upd = s.upd := by
  rw [enterOff, setOutState_keeps (g := State.upd) (fun _ _ => rfl) (fun _ _ => rfl), upd_setProt, upd_setOut]

theorem upd_endTraining (n : Nat) : (endTraining n s).upd = s.upd := by
  simp only [endTraining, upd_setOut]
  split
  · exact upd_enterOff s n
  · rfl

theorem upd_setLane (l : Nat) (q : LaneSt) : (setLane l q s).upd = s.upd := rfl

theorem upd_dropHostMsgs : (dropHostMsgs s).upd = s.upd := by
  rw [dropHostMsgs]
  exact foldState_keeps State.upd (fun _ _ => upd_setLane ..) _ _

theorem upd_send (src inst cls kind ctx : Nat) : (send src inst cls kind ctx s).upd = s.upd := by
  unfold send enqueue
  split
  · rfl
  · rfl

theorem upd_bump (f : Fld) : (bump f s).upd = s.upd := rfl

theorem upd_cutLock (p : Master → Bool) : (cutLock p s).upd = s.upd := by
  unfold cutLock
  split
  · split
    · rw [upd_send, upd_bump]
    · rfl
  · rfl

theorem upd_emptyProof : (emptyProof s).upd = s.upd := by
  simp only [emptyProof, setProofState, upd_setF]
  rfl

theorem upd_forgetSync : (forgetSync s).upd = s.upd := by simp only [forgetSync, setSync, upd_setF]

theorem upd_openWindow (n : Nat) (srcs : List Nat) : (openWindow n srcs s).upd = s.upd := rfl

end

/-- What a Control reset stops: packets, commits, operations and what the outputs do (R61). -/
def controlStopped (s : State) : State :=
  foldState (fun n t => endTraining n (endProtOps n t)) (List.range 16)
    (stopOps controlStops (cancelCommits (fun _ => true)
      (foldState abortInputs ([0, 1, 2, 3] : List (Fin 4)) (openWindow controlNo controlBlast (bump fSYS_RSTCAUSE_CTRL s)))))

theorem upd_controlStopped (s : State) : (controlStopped s).upd = s.upd := by
  have houtput (n : Nat) (u : State) : (endTraining n (endProtOps n u)).upd = u.upd := by rw [upd_endTraining, upd_endProtOps]
  rw [controlStopped, foldState_keeps State.upd houtput, upd_stopOps, upd_cancelCommits,
    foldState_keeps State.upd fun ch u => upd_abortInputs u ch, upd_openWindow, upd_bump]

/-- What it ends thereafter: messages, the session and a slew. -/
def controlEnded (s : State) : State := setF fCLK_STAT_ALIGNING 0 (endSession (dropHostMsgs { controlStopped s with msgs := [] }))

theorem fb_controlEnded (s : State) : (controlEnded s).upd.fb = s.upd.fb := by
  simp only [controlEnded, upd_setF, upd_endSession, upd_dropHostMsgs, upd_controlStopped]

/-- The code of the last fall-back waits through a Control reset for the ROM (R388). -/
theorem fb_startControl (s : State) : (startControl s).upd.fb = s.upd.fb := by
  rw [startControl]
  split
  · rfl
  · refine Eq.trans ?_ (fb_controlEnded s)
    simp only [controlEnded, controlStopped, resetFields, upd_cutLock, emptyStamps, apply_ite State.upd, upd_emptyProof, upd_forgetSync, ite_self]

/-! ## Writes of the NVS, held or not (R348) -/

section
variable {β : Type} {g : State → β} (hregs : ∀ s m, g { s with regs := m } = g s) (hmem : ∀ s m, g { s with mem := m } = g s)
  (hupd : ∀ s u, g { s with upd := u } = g s) (hopen : ∀ s n, g { s with free := n } = g s)
include hregs hupd hopen

theorem wearLine_keeps (s : State) : g (wearLine s) = g s := by
  rw [wearLine]
  split
  · exact hupd _ _
  · exact (hopen _ _).trans ((hregs _ _).trans (hupd _ _))

include hmem

theorem writeNvs_keeps (w : HeldWrite) (s : State) : g (writeNvs w s) = g s := by
  unfold writeNvs
  split
  · exact (wearLine_keeps hregs hupd hopen _).trans ((hregs _ _).trans (hmem _ _))
  · exact hupd _ _
  · exact hupd _ _
  · exact (hregs _ _).trans (hupd _ _)

theorem nvsWrite_keeps (hpwr : ∀ s p, g { s with pwr := p } = g s) (w : HeldWrite) (s : State) : g (nvsWrite w s) = g s := by
  rw [nvsWrite]
  split
  · exact (hregs _ _).trans (hpwr _ _)
  · exact writeNvs_keeps hregs hmem hupd hopen w s

end

section
variable (w : HeldWrite) (s : State)

theorem chans_nvsWrite : (nvsWrite w s).chans = s.chans :=
  nvsWrite_keeps (g := State.chans) (fun _ _ => rfl) (fun _ _ => rfl) (fun _ _ => rfl) (fun _ _ => rfl) (fun _ _ => rfl) w s

theorem ops_nvsWrite : (nvsWrite w s).ops = s.ops :=
  nvsWrite_keeps (g := State.ops) (fun _ _ => rfl) (fun _ _ => rfl) (fun _ _ => rfl) (fun _ _ => rfl) (fun _ _ => rfl) w s

theorem gen_nvsWrite : (nvsWrite w s).gen = s.gen :=
  nvsWrite_keeps (g := State.gen) (fun _ _ => rfl) (fun _ _ => rfl) (fun _ _ => rfl) (fun _ _ => rfl) (fun _ _ => rfl) w s

end

/-! ## Activation and confirmation (R384, R388) -/

/-- UPD_ACTIVATE before its handle: the boot record is written, commands pause, and the flag and the other bank are chosen (R384). -/
def activating (s : State) : State :=
  setF fUPD_STAT_ACTBANK (otherBank (activeBank s)) (setF fUPD_STAT_HPEND 1 (setF fUPD_BOOT_COUNT 0 (setF fHOST_STAT_PAUSED 1
    (nvsWrite (.boot { bootRec s with pending := true, window := getF s fUPD_CFG_HWIN }) s))))

theorem paused_activating (s : State) : getF (activating s) fHOST_STAT_PAUSED = 1 := by
  rw [activating, getF_setF_ne _ _ _ _ (by decide), getF_setF_ne _ _ _ _ (by decide), getF_setF_ne _ _ _ _ (by decide), getF_setF_self]
  rfl

theorem hpend_activating (s : State) : getF (activating s) fUPD_STAT_HPEND = 1 := by
  rw [activating, getF_setF_ne _ _ _ _ (by decide), getF_setF_self]
  rfl

/-- The boot record of a confirmed image: its bank, and the settings that it migrated (R386, R388). -/
def confirmedRec (s : State) : BootRec :=
  { bootRec s with confirmed := activeBank s, pending := false, primary := otherBank (bootRec s).primary }

def confirming (s : State) : State :=
  setF fUPD_STAT_HPEND 0 (setF fUPD_BOOT_COUNT 0 (setF fUPD_BOOT_HLEFT 0
    (setF fNVS_STAT_PRIMARY (confirmedRec s).primary (nvsWrite (.boot (confirmedRec s)) s))))

theorem hpend_confirming (s : State) : getF (confirming s) fUPD_STAT_HPEND = 0 := by
  rw [confirming, getF_setF_self]
  rfl

theorem hleft_confirming (s : State) : getF (confirming s) fUPD_BOOT_HLEFT = 0 := by
  rw [confirming, getF_setF_ne _ _ _ _ (by decide), getF_setF_ne _ _ _ _ (by decide), getF_setF_self]
  rfl

theorem chans_setF (f : Fld) (v : Nat) (s : State) : (setF f v s).chans = s.chans := rfl
theorem ops_setF (f : Fld) (v : Nat) (s : State) : (setF f v s).ops = s.ops := rfl
theorem gen_setF (f : Fld) (v : Nat) (s : State) : (setF f v s).gen = s.gen := rfl

theorem accepted_activating (r : Req) (s : State) : Accepted r 0x0B04 .activate s (accept r 0x0B04 .activate (activating s)) := by
  refine accepted_from ?_ ?_ ?_ (accept_accepted r 0x0B04 .activate (activating s))
  · rw [activating, chans_setF, chans_setF, chans_setF, chans_setF, chans_nvsWrite]
  · rw [activating, ops_setF, ops_setF, ops_setF, ops_setF, ops_nvsWrite]
  · rw [activating, gen_setF, gen_setF, gen_setF, gen_setF, gen_nvsWrite]

theorem sent_from {r : Req} {op st d : Nat} {res : List Byte} {s u t : State} (hchans : u.chans = s.chans) (h : Sent r op st d res u t) :
    Sent r op st d res s t := by
  have hchan (n : Nat) : chan u n = chan s n := by rw [chan, chan, hchans]
  simpa only [Sent, hchan] using h

theorem replied_confirming (r : Req) (s : State) : Replied r 0x0B05 [] s (replyOK r 0x0B05 [] (confirming s)) := by
  refine sent_from ?_ (reply_sent r 0x0B05 stOK 0 [] (confirming s))
  rw [confirming, chans_setF, chans_setF, chans_setF, chans_setF, chans_nvsWrite]

section
variable {r : Req} {s : State} (hl : Live s)
include hl

theorem opUpdActivate_complete (hfree : HandleFree r s) (hinact : getF s fUPD_STAT_INACT = 3) (hpend : getF s fUPD_STAT_HPEND = 0)
    (hbars : activateBars s = false) (hdamper : getF s fPWR_STAT_DAMPER = 0)
    (hlib : ovenEmpty s = true ∨ s.oven.libMin.toNat ≤ partVersion (manifest s (otherBank (activeBank s))) 5) :
    opUpdActivate r s = accept r 0x0B04 .activate (activating s) := by
  have hfits : (!ovenEmpty s && decide (partVersion (manifest s (otherBank (activeBank s))) 5 < s.oven.libMin.toNat)) = false := by
    rcases hlib with hempty | hmin
    · rw [hempty]
      rfl
    · rw [decide_eq_false (Nat.not_lt.2 hmin), Bool.and_false]
  exact command_live hl _ _ _ _ (find?_bad_eq_none (by
    simp only [List.forall_mem_cons, bad_handleLimit hfree, bad_deniedIf, bad_notNowIf, hfits, hinact, hpend, hbars, hdamper]
    simp))

theorem opHealthConfirm_pending (hpend : getF s fUPD_STAT_HPEND = 2) (hmig : getF s fUPD_STAT_MIG ≠ 3) :
    opHealthConfirm r s = replyOK r 0x0B05 [] (confirming s) :=
  command_live hl _ _ _ _ (find?_bad_eq_none (by simp [hpend, hmig]))

theorem opUpdStatus_live : opUpdStatus r s = replyOK r 0x0B06 (be4 (peekReg s rUPD_STAT) ++ be4 (peekReg s rUPD_VERA) ++
    be4 (peekReg s rUPD_VERB) ++ be4 (peekReg s rUPD_BOOT) ++ be4 (peekReg s rNVS_STAT)) s := by
  rw [opUpdStatus, command_live hl _ _ _ _ rfl]
  simp only [List.flatMap_cons, List.flatMap_nil, List.append_nil, List.append_assoc]

end

theorem activateDone_running (c : Nat) {s : State} (hon : s.ops.any (fun o => isActivate o.kind) = true) :
    activateDone c s = drainAll c (endActivation s) := if_pos hon

/-- The code with which the ROM falls back when a window ends unconfirmed (R388). -/
def unconfirmed (s : State) : State := { s with upd := { s.upd with fb := if getF s fUPD_STAT_MIG = 3 then 5 else 1 } }

theorem healthWindowEnd_pending {s : State} (hpend : getF s fUPD_STAT_HPEND = 2) : healthWindowEnd s = startControl (unconfirmed s) :=
  if_pos hpend

theorem ends_updAbort {r : Req} {id : Word} {x : Session} {s : State} (hl : Live s) (hx : sessionOf s r id = some x) :
    Ends (.updAbort r id) r.c s (fun u => abandonSession (replyOK r 0x0B03 [] u)) :=
  ends_of_run (op := opUpdAbort r id) rfl (opUpdAbort_session (s := begin_ r.c s) (live_begin hl _) hx)

theorem ends_sessionTimeout {c : Nat} {x : Session} {s : State} (hrun : Running s) (hx : s.upd.session = some x) :
    Ends (.sessionTimeout c) c s abandonSession :=
  ends_of_event_eq (op := fun u => if u.upd.session.isSome then abandonSession u else u) hrun rfl
    (if_pos (congrArg Option.isSome hx))

theorem upd_after (s t : State) : (after s t).upd = t.upd := rfl

/-- No session, and no operation of one (R392). -/
theorem abandoned_after (s t : State) : (after s (abandonSession t)).upd.session = none ∧
    Stopped (fun k => isUpdWrite k || isUpdClose k) (after s (abandonSession t)) :=
  ⟨(congrArg UpdSt.session (upd_after s _)).trans (session_abandonSession t), stopped_after rfl⟩

/-- Settles O54: the session's commands and events, then activation and confirmation, each by what its checks let through. -/
theorem updatesComplete : Obligations.UpdatesComplete := by
  refine ⟨⟨fun r k o n s hl hnone hk => ?openData, fun r o n s hl hnone hpend => ?openBank,
      fun r id o crc d x s hl hfree hx hcrc hend hnew => ?write, fun c o s hrun ho => ?writeDone,
      fun r id crc x s hl hfree hx hstop => ?close, fun c crc o x s hrun hx ho hkind => ?closeDone,
      fun r id x s hl hx => ⟨ends_updAbort hl hx, _, ends_updAbort hl hx, abandoned_after s _⟩,
      fun c x s hrun hx => ⟨_, ends_sessionTimeout hrun hx, abandoned_after s _⟩⟩,
    fun r s hl hfree hinact hpend hbars hdamper hlib => ?activate, fun c s hrun hon => ?activateDone, fun r s hl hpend hmig => ?confirm,
    fun c s hrun hpend hoff => ?windowEnd, fun r s hl => ?status⟩
  case openData => exact endsMem_of_runMem (op := opUpdOpen r k o n) rfl (opUpdOpen_data (s := begin_ r.c s) (live_begin hl _) hnone hk o n)
  case openBank => exact endsMem_of_runMem (op := opUpdOpen r 0 o n) rfl (opUpdOpen_bank (s := begin_ r.c s) (live_begin hl _) hnone hpend o n)
  case write =>
    exact endsMem_of_runMem (op := opUpdWrite r id o crc d) rfl
      (opUpdWrite_fits (s := begin_ r.c s) (live_begin hl _) hx hfree hcrc hend hnew)
  case writeDone => exact ends_of_event_eq (op := updWriteDone) hrun rfl (updWriteDone_running (s := begin_ c s) ho)
  case close => exact ends_of_run (op := opUpdClose r id crc) rfl (opUpdClose_session (s := begin_ r.c s) (live_begin hl _) hx hfree hstop crc)
  case closeDone => exact endsMem_event (op := updCloseDone) hrun rfl (updCloseDone_running (s := begin_ c s) hx ho hkind)
  case activate =>
    have hends : EndsMem (.updActivate r) r.c s (fun u => accept r 0x0B04 .activate (activating u)) :=
      endsMem_of_runMem (op := opUpdActivate r) rfl
        (opUpdActivate_complete (s := begin_ r.c s) (live_begin hl _) hfree hinact hpend hbars hdamper hlib)
    refine ⟨_, hends, accepted_activating r (begin_ r.c s), ?_, ?_⟩
    · rw [getF_afterMem, getF_accept (by decide), paused_activating]
    · rw [getF_afterMem, getF_accept (by decide), hpend_activating]
  case activateDone => exact endsMem_event (op := activateDone c) hrun rfl (activateDone_running c (s := begin_ c s) hon)
  case confirm =>
    have hends : EndsMem (.healthConfirm r) r.c s (fun u => replyOK r 0x0B05 [] (confirming u)) :=
      endsMem_of_runMem (op := opHealthConfirm r) rfl (opHealthConfirm_pending (s := begin_ r.c s) (live_begin hl _) hpend hmig)
    refine ⟨_, hends, replied_confirming r (begin_ r.c s), ?_, ?_⟩
    · exact (getF_reply _ _ _ _ _ _ (by decide)).trans (hpend_confirming _)
    · exact (getF_reply _ _ _ _ _ _ (by decide)).trans (hleft_confirming _)
  case windowEnd =>
    exact ⟨_, ends_of_event_eq (op := healthWindowEnd) (f := fun u => startControl (unconfirmed u)) hrun rfl
      (healthWindowEnd_pending (s := begin_ c s) hpend), ctlReset_startControl _, fb_startControl (unconfirmed (begin_ c s))⟩
  case status => exact ends_of_run (op := opUpdStatus r) rfl (opUpdStatus_live (live_begin hl _))

end Sys2Proof.Machine
end

section
/-! A query that changes a register (R39, R260). -/
namespace Sys2Proof.Machine

open Sys2Proof

/-- A frame of 1,500 bytes for the command port of channel 1 waits in the receive buffer of MAC 0, which shows its 1 KiB; the rest of its
datagram has not come. -/
def frameWaiting : State :=
  setF (fETH_FILL_FILL 0) 1 (setF fHOST_UDP1_PORT 5000 (setF fHOST_UDP1_EN 1
    (setMac 0 { rxq := [(5000, 1500)] } { pwr := { phase := .run } })))

theorem running_frameWaiting : Running frameWaiting := rfl

theorem getF_fill_frameWaiting : getF frameWaiting (fETH_FILL_FILL 0) = 1 := rfl

theorem getF_fill_fragTimeout : getF (fragTimeout 0 5000 (begin_ 0 frameWaiting)) (fETH_FILL_FILL 0) = 0 := by decide

/-- Refutes O56: FRAG_TIMEOUT is counted among the commands that only answer, but it takes the frames of the datagram that it discards out of
the receive buffer, so ETH_FILL goes down, from 1 KiB to 0 in `frameWaiting`. -/
theorem not_hostCommandsLeave : ¬ Obligations.HostCommandsLeave := by
  rintro ⟨hasks, -⟩
  have hend : Ends (.fragTimeout 0 0 5000) 0 frameWaiting (fragTimeout 0 5000) := ends_of_event running_frameWaiting rfl
  obtain ⟨-, hkept⟩ := hasks _ _ _ rfl hend
  have hfill : getF (fragTimeout 0 5000 (begin_ 0 frameWaiting)) (fETH_FILL_FILL 0) = getF frameWaiting (fETH_FILL_FILL 0) :=
    hkept (fETH_FILL_FILL 0) (by decide)
  rw [getF_fill_fragTimeout, getF_fill_frameWaiting] at hfill
  exact absurd hfill (by decide)

end Sys2Proof.Machine
end
